-- ==== Sys2Proof/Word.lean ====
section
/-! DEFINITION. The word types of the D740 and the plainest arithmetic and containers its blocks use. -/

namespace Sys2Proof

/-- One byte of the Line Link. -/
abbrev Byte := BitVec 8

/-- A panel serial: a 32-bit mark given by the line computer, never computed with. -/
abbrev Serial := BitVec 32

/-- A table whose entries may be undefined: the defined entries alone, by rising index. -/
abbrev Table (n : Nat) (α : Type) := List (Fin n × α)

/-- Entry `i` of a table that has every entry. -/
def getAt {α : Type} {n : Nat} (v : Vector α n) (i : Fin n) : α := v[i.val]

/-- The table with entry `i` replaced. -/
def setAt {α : Type} {n : Nat} (v : Vector α n) (i : Fin n) (x : α) : Vector α n :=
  v.set i.val x i.isLt

/-- `ceil (a / b)` on naturals. -/
def ceilDiv (a b : Nat) : Nat := (a + b - 1) / b

/-- A value raised to the lower limit or lowered to the upper limit (00_scope, Arithmetic). -/
def clampNat (lo hi v : Nat) : Nat := if v < lo then lo else if hi < v then hi else v

end Sys2Proof
end

