-- ==== Sys2Proof/Syntax.lean ====
section
/-! DEFINITION. The commands of the D740: one constructor per row of the opcode table. -/

namespace Sys2Proof

/-- The two magazine bays (R14: A 0, B 1). -/
inductive Bay where
  | a
  | b
  deriving DecidableEq, Repr

/-- How a frame reveals its damage before its end (R5). -/
inductive Damage where
  /-- the two length bytes give more than 512 -/
  | length
  /-- a stop bit found at space level -/
  | framing
  deriving DecidableEq, Repr

/-- One command to the part. A request is the completion, on the Line Link, of a good frame of that
kind with the tag and body given (R7); every other command is an event on a line, of a timer or of
the serial line. -/
inductive Instr where
  /-- POWER_ON (R25) -/
  | powerOn
  /-- FRAME_RECEIVED (R6): the bytes that complete a frame arrive one after another, each with a good stop bit -/
  | frameReceived (bytes : List Byte)
  /-- FRAME_DAMAGED (R5) -/
  | frameDamaged (cause : Damage)
  /-- BYTE_GAP_TIMEOUT (R4) -/
  | byteGapTimeout
  /-- RESYNC_QUIET_TIMEOUT (R5) -/
  | resyncQuietTimeout
  /-- FRAME_SENT (R15) -/
  | frameSent
  /-- STATUS_QUERY (R22) -/
  | statusQuery (tag : Byte) (body : List Byte)
  /-- TABLE_READ (R23) -/
  | tableRead (tag : Byte) (body : List Byte)
  /-- CELL_RESET (R64) -/
  | cellReset (tag : Byte) (body : List Byte)
  /-- RECIPE_BEGIN (R28) -/
  | recipeBegin (tag : Byte) (body : List Byte)
  /-- BOARD_DEFINE (R31) -/
  | boardDefine (tag : Byte) (body : List Byte)
  /-- TAB_DEFINE (R33) -/
  | tabDefine (tag : Byte) (body : List Byte)
  /-- RECIPE_CLOSE (R35) -/
  | recipeClose (tag : Byte) (body : List Byte)
  /-- PROFILE_DEFINE (R40) -/
  | profileDefine (tag : Byte) (body : List Byte)
  /-- PANEL_START (R48) -/
  | panelStart (tag : Byte) (body : List Byte)
  /-- HOLD_AT_BOUNDARY (R54) -/
  | holdAtBoundary (tag : Byte) (body : List Byte)
  /-- RESUME (R59) -/
  | resume (tag : Byte) (body : List Byte)
  /-- PANEL_STOP (R52) -/
  | panelStop (tag : Byte) (body : List Byte)
  /-- PARK (R60) -/
  | park (tag : Byte) (body : List Byte)
  /-- WAKE (R62) -/
  | wake (tag : Byte) (body : List Byte)
  /-- BIT_SET (R97) -/
  | bitSet (tag : Byte) (body : List Byte)
  /-- SPINDLE_SPEED (R107) -/
  | spindleSpeed (tag : Byte) (body : List Byte)
  /-- FEED_OVERRIDE (R98) -/
  | feedOverride (tag : Byte) (body : List Byte)
  /-- PROBE_SETTINGS (R114) -/
  | probeSettings (tag : Byte) (body : List Byte)
  /-- SPINDLE_TIMING (R108) -/
  | spindleTiming (tag : Byte) (body : List Byte)
  /-- PICKER_TIMING (R132) -/
  | pickerTiming (tag : Byte) (body : List Byte)
  /-- BAY_LOAD (R150) -/
  | bayLoad (tag : Byte) (body : List Byte)
  /-- BAY_RETIRE (R151) -/
  | bayRetire (tag : Byte) (body : List Byte)
  /-- LINE_CONFIGURE (R166) -/
  | lineConfigure (tag : Byte) (body : List Byte)
  /-- AUX_CONFIGURE (R171) -/
  | auxConfigure (tag : Byte) (body : List Byte)
  /-- FAULT_LEVEL_SET (R180) -/
  | faultLevelSet (tag : Byte) (body : List Byte)
  /-- FAULT_ACKNOWLEDGE (R181) -/
  | faultAcknowledge (tag : Byte) (body : List Byte)
  /-- UNIT_CLEAR (R183) -/
  | unitClear (tag : Byte) (body : List Byte)
  /-- NOTICE_ENABLE (R18) -/
  | noticeEnable (tag : Byte) (body : List Byte)
  /-- NOTICE_CLEAR (R19) -/
  | noticeClear (tag : Byte) (body : List Byte)
  /-- IDLE_PARK_TIMEOUT (R61) -/
  | idleParkTimeout
  /-- CUT_COMPLETE (R95) -/
  | cutComplete
  /-- CUT_TIMEOUT (R95) -/
  | cutTimeout
  /-- MOVE_CLEAR_DONE (R93) -/
  | moveClearDone
  /-- MOVE_CLEAR_TIMEOUT (R93) -/
  | moveClearTimeout
  /-- TACH_EDGE (R104): a rising edge at `time`, in µs on the capture channel's clock -/
  | tachEdge (time : Nat)
  /-- STABILISATION_TIMEOUT (R105) -/
  | stabilisationTimeout
  /-- SPINUP_TIMEOUT (R106) -/
  | spinupTimeout
  /-- SPINDLE_COAST_TIMEOUT (R103) -/
  | spindleCoastTimeout
  /-- TACH_LOST (R109) -/
  | tachLost
  /-- TACH_WATCH_ARM (R109) -/
  | tachWatchArm
  /-- PROBE_MOVE_DONE (R119) -/
  | probeMoveDone
  /-- PROBE_MOVE_TIMEOUT (R119) -/
  | probeMoveTimeout
  /-- SETTLE_TIMEOUT (R120) -/
  | settleTimeout
  /-- APPROACH_DONE (R130) -/
  | approachDone
  /-- CARRY_DONE (R137) -/
  | carryDone
  /-- HOME_DONE (R138) -/
  | homeDone
  /-- PICKER_MOVE_TIMEOUT (R129) -/
  | pickerMoveTimeout
  /-- GRIP_TIMEOUT (R131) -/
  | gripTimeout
  /-- VACUUM_OFF_TIMEOUT (R131) -/
  | vacuumOffTimeout
  /-- VACUUM_OK_ASSERT (R131) -/
  | vacuumOkAssert
  /-- VACUUM_OK_DEASSERT (R134) -/
  | vacuumOkDeassert
  /-- BLOW_OFF_TIMEOUT (R137) -/
  | blowOffTimeout
  /-- NEST_WINDOW_TIMEOUT (R137) -/
  | nestWindowTimeout
  /-- NEST_LINE_ASSERT (R147): NEST_0 to NEST_2 -/
  | nestLineAssert (nest : Fin 3)
  /-- NEST_LINE_DEASSERT (R147) -/
  | nestLineDeassert (nest : Fin 3)
  /-- FROM_NEST_DONE (R146) -/
  | fromNestDone
  /-- NEST_CLEAR_WINDOW_TIMEOUT (R146) -/
  | nestClearWindowTimeout
  /-- ELEVATE_DONE (R156) -/
  | elevateDone
  /-- TO_MOUTH_DONE (R157) -/
  | toMouthDone
  /-- TO_CHUTE_DONE (R159) -/
  | toChuteDone
  /-- TRANSFER_TIMEOUT (R155) -/
  | transferTimeout
  /-- ELEVATOR_TIMEOUT (R155) -/
  | elevatorTimeout
  /-- PUSHER_HOME_ASSERT (R157) -/
  | pusherHomeAssert
  /-- PUSHER_HOME_DEASSERT (R157) -/
  | pusherHomeDeassert
  /-- HOME_WAIT_TIMEOUT (R157) -/
  | homeWaitTimeout
  /-- LEAVE_TIMEOUT (R157) -/
  | leaveTimeout
  /-- RETURN_TIMEOUT (R157) -/
  | returnTimeout
  /-- CHUTE_PASS (R159) -/
  | chutePass
  /-- CHUTE_WINDOW_TIMEOUT (R159) -/
  | chuteWindowTimeout
  /-- BAY_PRESENT_ASSERT (R149) -/
  | bayPresentAssert (bay : Bay)
  /-- BAY_PRESENT_DEASSERT (R149) -/
  | bayPresentDeassert (bay : Bay)
  /-- STOP_CHAIN_OPEN (R167) -/
  | stopChainOpen
  /-- STOP_CHAIN_CLOSED (R167) -/
  | stopChainClosed
  /-- DRIVE_FAULT_CHANGE (R168): the level accepted -/
  | driveFaultChange (asserted : Bool)
  /-- DOOR_CLOSED_CHANGE (R168): the level accepted -/
  | doorClosedChange (asserted : Bool)
  /-- AUX_LINE_ACCEPT (R169): the level accepted on X0 to X3 -/
  | auxLineAccept (line : Fin 4) (high : Bool)
  /-- BYTE_RECEIVED (R4): `stopOk` is false for a framing error (R1) -/
  | byteReceived (byte : Byte) (stopOk : Bool)
  /-- LINE_ACCEPTANCE (R164): the level accepted on L0 to L15 -/
  | lineAcceptance (line : Fin 16) (asserted : Bool)
  deriving DecidableEq, Repr

end Sys2Proof
end

