-- ==== Sys2Proof/Config.lean ====
section
/-! DEFINITION. The values the manual leaves open: constants without a body, so that nothing can be proved of them. -/

namespace Sys2Proof.Config

/-- The input present at a line's pin when its filter is restarted (R166, R171, R174), where the outside has not
supplied it: the outside world decides it, whatever level was accepted last. Log entry 5. -/
opaque freePin : Nat → Bool

/-- The speed of a tach period of 0 µs: R104 gives no quotient for it. Log entry 6. -/
opaque freeRpm : Nat → Nat

/-- The slot state byte TABLE READ sends for a slot at or beyond N of a loaded bay: R24 gives none.
Log entry 7. -/
opaque freeSlotState : Nat → Nat → Byte

end Sys2Proof.Config
end

