-- ==== Sys2Proof/Machine/State.lean ====
section
/-! DEFINITION. The state of the D740, block by block (00_scope, Block diagram), and the part after power-on. -/

namespace Sys2Proof.Machine

/-- No command stops the part: every event has the effect its rule gives it, or none. Log entry 2. -/
inductive Fault where
  deriving DecidableEq, Repr

/-- Why a command has no meaning in the model. -/
inductive Refusal where
  /-- Raised by `exec` alone, for a row without a meaning (none is left). Safe. -/
  | notModelled (mnemonic : String)
  deriving DecidableEq, Repr

/-! ### Names and enumerations, in the order of their codes (R14) -/

/-- Cell modes (R45). -/
inductive Mode where
  | unconfigured | idle | running | holding | held | halted | parked | waking
  deriving DecidableEq, Repr

/-- Recipe states (R27). -/
inductive RecipeState where
  | empty | editing | closed
  deriving DecidableEq, Repr

/-- Panel Record states (R46). -/
inductive PanelState where
  | cutting | stacking | complete
  deriving DecidableEq, Repr

/-- Board states (R65). -/
inductive BoardState where
  | skipped | waiting | precut | ready | held | freed | queued | stacked | chuted | failed | lost | abandoned
  deriving DecidableEq, Repr

/-- Tab states (R67). -/
inductive TabState where
  | uncut | cutting | verifyPending | verifying | recutPending | severed | faulted | bypassed
  deriving DecidableEq, Repr

/-- Directions of a cut (R34). -/
inductive Direction where
  | xPlus | xMinus | yPlus | yMinus
  deriving DecidableEq, Repr

/-- Material classes (R101). -/
inductive Material where
  | soft | light | standard | hard
  deriving DecidableEq, Repr

/-- Tab roles (R32). -/
inductive TabRole where
  | release | relief | normal
  deriving DecidableEq, Repr

/-- Fill directions of a profile (R40). -/
inductive FillDir where
  | bottomUp | topDown
  deriving DecidableEq, Repr

/-- Dispositions (R14). -/
inductive Disposition where
  | good | scrap | skip
  deriving DecidableEq, Repr

/-- Router states (R92). -/
inductive RouterState where
  | idle | cut | verify
  deriving DecidableEq, Repr

/-- Bit states (R96). -/
inductive BitState where
  | unknown | known | expired
  deriving DecidableEq, Repr

/-- Spindle states (R103). -/
inductive SpindleState where
  | stopped | spinup | atSpeed | coasting
  deriving DecidableEq, Repr

/-- The tach watch (R109): not running; waiting out the 1 s after an entry or restart of SPINUP;
armed; disarmed by its own raise until an edge or 1 s. -/
inductive TachWatch where
  | off | delay | armed | disarmed
  deriving DecidableEq, Repr

/-- Probe modes (R114). -/
inductive ProbeMode where
  | off | full | early
  deriving DecidableEq, Repr

/-- Probe states (R115). -/
inductive ProbeState where
  | idle | move | settle | check
  deriving DecidableEq, Repr

/-- Verdicts (R14). -/
inductive Verdict where
  | severed | uncut
  deriving DecidableEq, Repr

/-- Picker states (R128). -/
inductive PickerState where
  | idle | approach | gripping | holding | carrying | placing | returning
  deriving DecidableEq, Repr

/-- Nest entry states (R143). -/
inductive EntryState where
  | reserved | occupied
  deriving DecidableEq, Repr

/-- Bay states (R148). -/
inductive BayState where
  | absent | present | ready | active | complete
  deriving DecidableEq, Repr

/-- Stacker states (R153). -/
inductive StackerState where
  | idle | fetch | checkSlot | present | push | confirm | divert | waitBay
  deriving DecidableEq, Repr

/-- Sense of a dedicated line (R166). -/
inductive Sense where
  | activeHigh | activeLow
  deriving DecidableEq, Repr

/-- Sample periods 0.1, 0.5 and 2.0 ms (R164). -/
inductive SamplePeriod where
  | p01 | p05 | p20
  deriving DecidableEq, Repr

/-- Detect modes of an aux line (R169). -/
inductive DetectMode where
  | lowLevel | highLevel | rising | falling | both
  deriving DecidableEq, Repr

/-- Roles of an aux line (R170). -/
inductive AuxRole where
  | notice | hold | fault | wake
  deriving DecidableEq, Repr

/-- Cause latch of an aux line (R169). -/
inductive Latch where
  | clear | set | standing
  deriving DecidableEq, Repr

/-- Fault sources 0 to 22 (R175). -/
abbrev Source := Fin 23

namespace Source
abbrev stopChain : Source := 0
abbrev doorOpen : Source := 1
abbrev driveFault : Source := 2
abbrev tachLost : Source := 3
abbrev spinupTimeout : Source := 4
abbrev spindleSag : Source := 5
abbrev routerTimeout : Source := 6
abbrev bitExpired : Source := 7
abbrev tabUncut : Source := 8
abbrev pickerTimeout : Source := 9
abbrev gripFailed : Source := 10
abbrev vacuumLost : Source := 11
abbrev boardDropped : Source := 12
abbrev nestMismatch : Source := 13
abbrev transferTimeout : Source := 14
abbrev elevatorTimeout : Source := 15
abbrev pushFault : Source := 16
abbrev bayPulled : Source := 17
abbrev chuteMissed : Source := 18
end Source

/-- Notices 0 to 15 (section 1.6). -/
abbrev Notice := Fin 16

namespace Notice
abbrev faultTaken : Notice := 0
abbrev holdReached : Notice := 1
abbrev panelCutDone : Notice := 2
abbrev panelComplete : Notice := 3
abbrev bitWearWarn : Notice := 8
abbrev parked : Notice := 9
abbrev readyAfterWake : Notice := 10
abbrev linkGarbled : Notice := 15
end Notice

/-- Detail of a fault record (R175), in the order of the detail kinds (R14). -/
inductive Detail where
  | none
  | board (i : Fin 64)
  | tab (i : Fin 256)
  | bay (x : Bay)
  | nest (n : Fin 3)
  | line (n : Fin 20)
  deriving DecidableEq, Repr

/-- Orders of the four ports (R173). -/
inductive Order where
  | cut (x y : Int) (dir : Direction) (length feed : Nat)
  | probeMove (x y : Int)
  | moveClear
  | approach (x y : Int) (height : Nat)
  | carry (nest : Fin 3)
  | home
  | fromNest (nest : Fin 3)
  | toMouth
  | toChute
  | elevate (bay : Bay) (height : Nat)
  deriving DecidableEq, Repr

/-! ### Line Link (chapter 1) -/

/-- Receiver states; ASSEMBLE holds the bytes received so far (R4). -/
inductive Receiver where
  | hunt
  | assemble (bytes : List Byte)
  | resync
  deriving DecidableEq, Repr

/-- The request in the slot, its reply and the mark that the reply is pending (R7). `ahead` is how
many OVERRUN answers, appended before its completion, are still owed before its reply (R15). -/
structure Slot where
  kind : Byte
  tag : Byte
  body : List Byte
  replyPending : Bool
  reply : List Byte
  ahead : Nat
  deriving DecidableEq, Repr

/-- An OVERRUN answer owed (R7): the kind with bit 7 set, and the tag. -/
structure Answer where
  kind : Byte
  tag : Byte
  deriving DecidableEq, Repr

/-- What the frame in transmission is (R15). -/
inductive TxKind where
  | reply
  | overrun
  | notice (n : Notice) (withdrawn : Bool)
  deriving DecidableEq, Repr

/-- The frame in transmission. -/
structure Tx where
  what : TxKind
  bytes : List Byte
  deriving DecidableEq, Repr

/-- The Line Link's state. -/
structure Link where
  rx : Receiver
  slot : Option Slot
  overrun : List Answer
  tx : Option Tx
  deriving DecidableEq, Repr

/-- One record of the Notice Table (R16). -/
structure NoticeRec where
  raised : Bool
  sent : Bool
  enabled : Bool
  payload : List Byte
  deriving DecidableEq, Repr

/-! ### Recipe Store (chapter 2) -/

/-- A board record (section 2.3). -/
structure BoardDef where
  pickX : Nat
  pickY : Nat
  height : Nat
  deriving DecidableEq, Repr

/-- A tab record (section 2.4). -/
structure TabDef where
  owner : Fin 64
  neighbour : Option (Fin 64)
  x : Nat
  y : Nat
  dir : Direction
  length : Nat
  material : Material
  role : TabRole
  deriving DecidableEq, Repr

/-- A board tab list (R37): the release tab, and every touching tab, ascending. -/
structure TabList where
  release : Fin 256
  tabs : List (Fin 256)
  deriving DecidableEq, Repr

/-- A magazine profile (section 2.7). -/
structure Profile where
  slots : Nat
  pitch : Nat
  base : Nat
  dir : FillDir
  step : Nat
  limit : Nat
  deriving DecidableEq, Repr

/-- The Recipe Store. -/
structure Recipe where
  state : RecipeState
  boards : Table 64 BoardDef
  tabs : Table 256 TabDef
  lists : Table 64 TabList
  depth : Nat
  profiles : Table 4 Profile
  deriving DecidableEq, Repr

/-! ### Cell Mode control and the Run Sequencer (chapters 3 and 4) -/

/-- Cell Mode control. `idleTimer` is the idle-park timer: stopped, or running against a time in
minutes (R61). -/
structure Cell where
  mode : Mode
  ret : Option Mode
  holdLatch : Bool
  restart : Bool
  idleTimer : Option Nat
  deriving DecidableEq, Repr

/-- A Panel Record (section 3.2). -/
structure PanelRec where
  serial : Serial
  dx : Int
  dy : Int
  marks : List (Fin 64 × Disposition)
  state : PanelState
  stop : Bool
  stacked : Nat
  chuted : Nat
  failed : Nat
  lost : Nat
  abandoned : Nat
  outstanding : Nat
  deriving DecidableEq, Repr

/-- A board runtime record (R65). -/
structure BoardRun where
  state : BoardState
  disposition : Disposition
  remaining : Nat
  regrip : Bool
  nest : Option (Fin 3)
  bay : Option Bay
  slot : Option Nat
  deriving DecidableEq, Repr

/-- A tab runtime record (R67). -/
structure TabRun where
  state : TabState
  attempts : Nat
  deriving DecidableEq, Repr

/-- The Run Sequencer. `runOf` is the serial of the panel the runtime records belong to (R51 reads
which panel that is). -/
structure Sequencer where
  records : List PanelRec
  runOf : Option Serial
  boards : Table 64 BoardRun
  tabs : Table 256 TabRun
  order : List (Fin 64)
  deriving DecidableEq, Repr

/-! ### Router Unit and Kerf Probe (chapters 5 and 6) -/

/-- What the Run Sequencer hands over with an operation (R73): the tab with its record, the attempt
number and the panel's offsets. `orphan` says that the runtime records have since been discarded or
rebuilt, so that the operation is an earlier panel's (log entry 10). -/
structure Operation where
  tab : Fin 256
  record : TabDef
  attempt : Nat
  dx : Int
  dy : Int
  orphan : Bool
  deriving DecidableEq, Repr

/-- The Router Unit without its spindle. `timer` is the completion timer, in ms, of the CUT or
MOVE_CLEAR in flight. -/
structure Router where
  state : RouterState
  operation : Option Operation
  presented : Bool
  clearance : Bool
  wear : Nat
  life : Nat
  baseFeed : Nat
  bit : BitState
  override : Nat
  sag : Nat
  timer : Option Nat
  deriving DecidableEq, Repr

/-- The spindle and its tach capture. `setTime` is Tsu in 0.1 s, `parkTime` the idle park time in
minutes. `stabilise` and `deadline` are the spin-up timers, in ms. `edgeCounts` says that the last
edge came after the stabilisation timer expired (R105). -/
structure Spindle where
  state : SpindleState
  setpoint : Nat
  setTime : Nat
  parkTime : Nat
  stabilise : Option Nat
  deadline : Option Nat
  watch : TachWatch
  lastEdge : Option Nat
  rpm : Nat
  qualify : Nat
  edgeCounts : Bool
  deriving DecidableEq, Repr

/-- The probe settings (R114). -/
structure ProbeSettings where
  mode : ProbeMode
  points : Nat
  allowance : Nat
  settle : Nat
  deriving DecidableEq, Repr

/-- The working record of a verify (R116). `timer` is the settle timer in ms. -/
structure Verify where
  op : Operation
  settings : ProbeSettings
  ne : Nat
  ae : Nat
  index : Nat
  hits : Nat
  misses : Nat
  timer : Option Nat
  deriving DecidableEq, Repr

/-- The frozen result of the last verdict (R123). -/
structure Snapshot where
  tab : Fin 256
  attempt : Nat
  ne : Nat
  hits : Nat
  misses : Nat
  sampled : Nat
  verdict : Verdict
  deriving DecidableEq, Repr

/-- The Kerf Probe. `moveTimer` is the completion timer of its PROBE_MOVE, in ms. -/
structure Probe where
  settings : ProbeSettings
  state : ProbeState
  work : Option Verify
  moveTimer : Option Nat
  snapshot : Option Snapshot
  deriving DecidableEq, Repr

/-! ### Picker Unit (chapter 7) -/

/-- The content of an APPROACH order (R130). -/
structure Target where
  x : Int
  y : Int
  height : Nat
  deriving DecidableEq, Repr

/-- The Picker Unit; its times and timers in ms. -/
structure Picker where
  state : PickerState
  board : Option (Fin 64)
  serial : Option Serial
  nest : Option (Fin 3)
  target : Option Target
  retry : Bool
  withdrawn : Bool
  stalled : Bool
  gripTime : Nat
  blowTime : Nat
  moveTimer : Option Nat
  gripTimer : Option Nat
  vacOffTimer : Option Nat
  blowTimer : Option Nat
  windowTimer : Option Nat
  deriving DecidableEq, Repr

/-! ### Nest Queue and Stacker Unit (chapter 8) -/

/-- A nest entry (R143). -/
structure NestEntry where
  nest : Fin 3
  board : Fin 64
  serial : Serial
  disposition : Disposition
  state : EntryState
  deriving DecidableEq, Repr

/-- The board in hand (section 8, table). -/
structure Hand where
  board : Fin 64
  serial : Serial
  disposition : Disposition
  nest : Fin 3
  deriving DecidableEq, Repr

/-- The Stacker Unit without its bays. The held-back marks keep the order that waits (R153);
`elevated` says that the ELEVATE of the slot in hand is complete (R156); `recovering` that the home
wait running is that of a recovery (R161). Timers in ms. -/
structure Stacker where
  state : StackerState
  hand : Option Hand
  target : Option Bay
  slot : Option Nat
  heldTransfer : Option Order
  heldElevate : Option Order
  heldStroke : Bool
  recovery : Bool
  recovering : Bool
  elevated : Bool
  transferTimer : Option Nat
  elevateTimer : Option Nat
  nestClear : Option Nat
  homeWait : Option Nat
  leave : Option Nat
  return_ : Option Nat
  chuteWindow : Option Nat
  deriving DecidableEq, Repr

/-- One entry of a Slot Map (R148). -/
inductive SlotState where
  | unused
  | open_
  | filled (board : Fin 64) (serial : Serial)
  | blocked
  deriving DecidableEq, Repr

/-- A Fill Descriptor with the profile values the bay was built from (R148, R150). -/
structure FillDesc where
  profile : Fin 4
  values : Profile
  visit : Nat
  next : Option Nat
  filled : Nat
  deriving DecidableEq, Repr

/-- A Bay Record (R148). -/
structure BayRec where
  state : BayState
  desc : Option FillDesc
  map : List SlotState
  retire : Bool
  deriving DecidableEq, Repr

/-- The two Bay Records. -/
structure Bays where
  a : BayRec
  b : BayRec
  deriving DecidableEq, Repr

/-! ### Field Lines, outputs and order ports (chapter 9) -/

/-- A line filter (R164): the filtered level, none while unknown (R165); the count of consecutive
disagreeing samples; and, while the level is unknown, the value those samples agree on. -/
structure Filter where
  level : Option Bool
  count : Nat
  seen : Bool
  deriving DecidableEq, Repr

/-- A dedicated line. `pin` is the model's own: the input, high or low, that the next restart of the filter finds
present (R166), where the outside has supplied it; none where it has not, and the restart takes a free value. -/
structure DedLine where
  sense : Sense
  period : SamplePeriod
  filter : Filter
  pin : Option Bool
  deriving DecidableEq, Repr

/-- An auxiliary line; its filtered level is high or low, and `pin` is as a dedicated line's. -/
structure AuxLine where
  mode : DetectMode
  role : AuxRole
  enable : Bool
  period : SamplePeriod
  filter : Filter
  pin : Option Bool
  latch : Latch
  deriving DecidableEq, Repr

/-- The Field Lines block. `stop` is the stop chain filter, whose level is true for open (R167). -/
structure Lines where
  ded : Vector DedLine 16
  aux : Vector AuxLine 4
  stop : Filter
  deriving DecidableEq, Repr

/-- The output lines (R172). -/
structure Outputs where
  spindleRun : Bool
  speedRef : Nat
  vacuumOn : Bool
  blowOff : Bool
  push : Bool
  chuteGate : Bool
  deriving DecidableEq, Repr

/-- An order port (R173): the record on its outputs, whether it is in flight, and how many strobe
and STOP pulses it has given since power-on (the counts are the model's, to show the pulses). -/
structure Port where
  record : Option Order
  inFlight : Bool
  strobes : Nat
  stops : Nat
  deriving DecidableEq, Repr

/-- The four order ports. -/
structure Ports where
  router : Port
  picker : Port
  transfer : Port
  elevator : Port
  deriving DecidableEq, Repr

/-! ### Fault Service (chapter 10) -/

/-- A fault record (section 10.2); its place is the list it stands in. -/
structure FaultRec where
  source : Source
  level : Nat
  detail : Detail
  repeats : Nat
  deriving DecidableEq, Repr

/-- The Fault Service. `stack` is the In-Service Stack with its top first. -/
structure Faults where
  levels : Vector Nat 23
  waiting : List FaultRec
  stack : List FaultRec
  allStop : Bool
  cutStop : Bool
  deriving DecidableEq, Repr

/-- The state of the part, and the commands that wait for it, first in first out. `free` counts the
free values the model has used. -/
structure State where
  link : Link
  notices : Vector NoticeRec 16
  recipe : Recipe
  cell : Cell
  seq : Sequencer
  router : Router
  spindle : Spindle
  probe : Probe
  picker : Picker
  nests : List NestEntry
  stacker : Stacker
  bays : Bays
  lines : Lines
  outputs : Outputs
  ports : Ports
  faults : Faults
  free : Nat
  pending : List Instr
  deriving DecidableEq, Repr

/-! ### After power-on -/

/-- R25. -/
def Link.reset : Link := { rx := .hunt, slot := none, overrun := [], tx := none }

/-- R25: clear, and enabled. -/
def NoticeRec.reset : NoticeRec := { raised := false, sent := false, enabled := true, payload := [] }

/-- R44. -/
def Recipe.reset : Recipe :=
  { state := .empty, boards := [], tabs := [], lists := [], depth := 1, profiles := [] }

/-- R45. -/
def Cell.reset : Cell :=
  { mode := .unconfigured, ret := none, holdLatch := false, restart := false, idleTimer := none }

/-- R45, R91. -/
def Sequencer.reset : Sequencer := { records := [], runOf := none, boards := [], tabs := [], order := [] }

/-- R113. -/
def Router.reset : Router :=
  { state := .idle, operation := none, presented := false, clearance := true
    wear := 0, life := 0, baseFeed := 0, bit := .unknown, override := 100, sag := 0, timer := none }

/-- R113. -/
def Spindle.reset : Spindle :=
  { state := .stopped, setpoint := 30000, setTime := 20, parkTime := 10
    stabilise := none, deadline := none, watch := .off
    lastEdge := none, rpm := 0, qualify := 0, edgeCounts := false }

/-- R127. -/
def Probe.reset : Probe :=
  { settings := { mode := .full, points := 8, allowance := 0, settle := 3 }
    state := .idle, work := none, moveTimer := none, snapshot := none }

/-- R142. -/
def Picker.reset : Picker :=
  { state := .idle, board := none, serial := none, nest := none, target := none
    retry := false, withdrawn := false, stalled := false, gripTime := 300, blowTime := 40
    moveTimer := none, gripTimer := none, vacOffTimer := none, blowTimer := none, windowTimer := none }

/-- R163. -/
def Stacker.reset : Stacker :=
  { state := .idle, hand := none, target := none, slot := none
    heldTransfer := none, heldElevate := none, heldStroke := false
    recovery := false, recovering := false, elevated := false
    transferTimer := none, elevateTimer := none, nestClear := none
    homeWait := none, leave := none, return_ := none, chuteWindow := none }

/-- R163: ABSENT. -/
def BayRec.reset : BayRec := { state := .absent, desc := none, map := [], retire := false }

/-- R165: unknown until the first acceptance. -/
def Filter.reset : Filter := { level := none, count := 0, seen := false }

/-- R174. -/
def Lines.reset : Lines :=
  { ded := Vector.replicate 16
      { sense := .activeHigh, period := .p05, filter := Filter.reset, pin := none }
    aux := Vector.replicate 4
      { mode := .rising, role := .notice, enable := true, period := .p05
        filter := Filter.reset, pin := none, latch := .clear }
    stop := Filter.reset }

/-- R172. -/
def Outputs.reset : Outputs :=
  { spindleRun := false, speedRef := 0, vacuumOn := false, blowOff := false, push := false, chuteGate := false }

/-- R174: no order in flight. Log entry 8 for the record on the outputs. -/
def Port.reset : Port := { record := none, inFlight := false, strobes := 0, stops := 0 }

/-- The default levels of the 23 sources (R175). -/
def defaultLevels : Vector Nat 23 :=
  #v[0, 1, 1, 1, 2, 3, 2, 4, 5, 2, 3, 3, 2, 2, 2, 2, 2, 2, 4, 4, 4, 4, 4]

/-- R184. -/
def Faults.reset : Faults :=
  { levels := defaultLevels, waiting := [], stack := [], allStop := false, cutStop := false }

/-- The part after power-on. -/
def State.reset : State :=
  { link := Link.reset
    notices := Vector.replicate 16 NoticeRec.reset
    recipe := Recipe.reset
    cell := Cell.reset
    seq := Sequencer.reset
    router := Router.reset
    spindle := Spindle.reset
    probe := Probe.reset
    picker := Picker.reset
    nests := []
    stacker := Stacker.reset
    bays := { a := BayRec.reset, b := BayRec.reset }
    lines := Lines.reset
    outputs := Outputs.reset
    ports := { router := Port.reset, picker := Port.reset, transfer := Port.reset, elevator := Port.reset }
    faults := Faults.reset
    free := 0
    pending := [] }

/-! ### One named update per block -/

/-- The state with its `link` replaced. -/
def State.withLink (s : State) (x : Link) : State := { s with link := x }

/-- The state with its `notices` replaced. -/
def State.withNotices (s : State) (x : Vector NoticeRec 16) : State := { s with notices := x }

/-- The state with its `recipe` replaced. -/
def State.withRecipe (s : State) (x : Recipe) : State := { s with recipe := x }

/-- The state with its `cell` replaced. -/
def State.withCell (s : State) (x : Cell) : State := { s with cell := x }

/-- The state with its `seq` replaced. -/
def State.withSeq (s : State) (x : Sequencer) : State := { s with seq := x }

/-- The state with its `router` replaced. -/
def State.withRouter (s : State) (x : Router) : State := { s with router := x }

/-- The state with its `spindle` replaced. -/
def State.withSpindle (s : State) (x : Spindle) : State := { s with spindle := x }

/-- The state with its `probe` replaced. -/
def State.withProbe (s : State) (x : Probe) : State := { s with probe := x }

/-- The state with its `picker` replaced. -/
def State.withPicker (s : State) (x : Picker) : State := { s with picker := x }

/-- The state with its `nests` replaced. -/
def State.withNests (s : State) (x : List NestEntry) : State := { s with nests := x }

/-- The state with its `stacker` replaced. -/
def State.withStacker (s : State) (x : Stacker) : State := { s with stacker := x }

/-- The state with its `bays` replaced. -/
def State.withBays (s : State) (x : Bays) : State := { s with bays := x }

/-- The state with its `lines` replaced. -/
def State.withLines (s : State) (x : Lines) : State := { s with lines := x }

/-- The state with its `outputs` replaced. -/
def State.withOutputs (s : State) (x : Outputs) : State := { s with outputs := x }

/-- The state with its `ports` replaced. -/
def State.withPorts (s : State) (x : Ports) : State := { s with ports := x }

/-- The state with its `faults` replaced. -/
def State.withFaults (s : State) (x : Faults) : State := { s with faults := x }

/-- The state with its `free` replaced. -/
def State.withFree (s : State) (x : Nat) : State := { s with free := x }

/-- The state with its `pending` replaced. -/
def State.withPending (s : State) (x : List Instr) : State := { s with pending := x }

end Sys2Proof.Machine
end

