-- ==== Sys2Proof/Machine/Table.lean ====
section
/-! DEFINITION. Reading and writing the tables whose entries may be undefined. -/

namespace Sys2Proof.Machine

/-- Entry `i`, if it is defined. -/
def Table.get {n : Nat} {α : Type} : Table n α → Fin n → Option α
  | [], _ => none
  | (j, x) :: t, i => if j = i then some x else Table.get t i

/-- The table with entry `i` defined as `x`, indices rising. -/
def Table.put {n : Nat} {α : Type} (i : Fin n) (x : α) : Table n α → Table n α
  | [] => [(i, x)]
  | (j, y) :: t =>
    if j = i then (i, x) :: t
    else if i < j then (i, x) :: (j, y) :: t
    else (j, y) :: Table.put i x t

/-- Entry `i` changed by `f`, if it is defined. -/
def Table.modify {n : Nat} {α : Type} (i : Fin n) (f : α → α) : Table n α → Table n α
  | [] => []
  | (j, x) :: t => if j = i then (j, f x) :: t else (j, x) :: Table.modify i f t

/-- The defined indices. -/
def Table.keys {n : Nat} {α : Type} (t : Table n α) : List (Fin n) := t.map Prod.fst

/-- The first defined index, by rising index, whose entry satisfies `p`. -/
def Table.first {n : Nat} {α : Type} (p : Fin n → α → Bool) : Table n α → Option (Fin n)
  | [] => none
  | (i, x) :: t => if p i x then some i else Table.first p t

/-- The canonical form: indices strictly rising. -/
def Table.wf {n : Nat} {α : Type} : Table n α → Bool
  | [] => true
  | [_] => true
  | (i, _) :: (j, y) :: t => decide (i < j) && Table.wf ((j, y) :: t)

/-- `i` as an index of a table of `n` entries, if it is one. -/
def index? (n i : Nat) : Option (Fin n) := if h : i < n then some ⟨i, h⟩ else none

end Sys2Proof.Machine
end

