-- ==== Sys2Proof/Machine/Bytes.lean ====
section
/-! DEFINITION. Bytes, byte order, the frame check and the frame (chapter 1, R2, R3, R14). -/

namespace Sys2Proof.Machine

/-- One byte of an unsigned quantity. -/
def b8 (n : Nat) : Byte := BitVec.ofNat 8 n

/-- Two bytes, little-endian (R14). -/
def le16 (n : Nat) : List Byte := [b8 n, b8 (n / 256)]

/-- Four bytes, little-endian (R14). -/
def le32 (n : Nat) : List Byte := [b8 n, b8 (n / 256), b8 (n / 65536), b8 (n / 16777216)]

/-- A mark: 0 clear, 1 set (R14). -/
def markByte (m : Bool) : Byte := if m then 1 else 0

/-- The byte of an absent optional index or enumerated value (R14). -/
def absentByte : Byte := 0xFF

/-- The byte of an optional value. -/
def optByte : Option Nat → Byte
  | none => absentByte
  | some n => b8 n

/-- The unsigned byte at a body position. -/
def u8 (body : List Byte) (i : Nat) : Nat := (body.getD i 0).toNat

/-- The unsigned 2-byte field at a body position (R14). -/
def u16 (body : List Byte) (i : Nat) : Nat := u8 body i + 256 * u8 body (i + 1)

/-- The unsigned 4-byte field at a body position (R14). -/
def u32 (body : List Byte) (i : Nat) : Nat := u16 body i + 65536 * u16 body (i + 2)

/-- The signed 2-byte field at a body position, two's complement (R14). -/
def s16 (body : List Byte) (i : Nat) : Int := (BitVec.ofNat 16 (u16 body i)).toInt

/-- One bit of the check register's step (R3): generator x^16 + x^12 + x^5 + 1. -/
def crcBit (r : BitVec 16) : BitVec 16 := if r.msb then (r <<< 1) ^^^ 0x1021 else r <<< 1

/-- A byte entering the check register, most significant bit first (R3). -/
def crcByte (r : BitVec 16) (b : Byte) : BitVec 16 :=
  crcBit (crcBit (crcBit (crcBit (crcBit (crcBit (crcBit (crcBit (r ^^^ (b.setWidth 16 <<< 8)))))))))

/-- The frame check of the bytes it covers (R3). -/
def frameCheck (bytes : List Byte) : BitVec 16 := bytes.foldl crcByte 0xFFFF

/-- The check's two bytes, high byte first (R3). -/
def checkBytes (bytes : List Byte) : List Byte :=
  [(frameCheck bytes >>> 8).setWidth 8, (frameCheck bytes).setWidth 8]

/-- The start code (R2). -/
def startCode : Byte := 0xC3

/-- The bytes of a frame that the check covers (R3). -/
def frameCovered (kind tag : Byte) (body : List Byte) : List Byte := le16 body.length ++ kind :: tag :: body

/-- A whole frame (R2). -/
def encodeFrame (kind tag : Byte) (body : List Byte) : List Byte :=
  startCode :: (frameCovered kind tag body ++ checkBytes (frameCovered kind tag body))

/-- The kind with bit 7 set (R2). -/
def replyKind (kind : Byte) : Byte := kind ||| 0x80

/-- The body length in bytes 1 and 2 of a frame being assembled (R4). -/
def frameLength (bytes : List Byte) : Nat := u16 bytes 1

end Sys2Proof.Machine
end

