-- ==== Sys2Proof/Machine/Operands.lean ====
section
/-! DEFINITION. The codes of the enumerations, both ways (R14), and the reading of record fields. -/

namespace Sys2Proof.Machine

def Bay.code : Bay → Nat
  | .a => 0
  | .b => 1

/-- The bay a byte names (R14). -/
def Bay.ofCode : Nat → Option Bay
  | 0 => some .a
  | 1 => some .b
  | _ => none

def Mode.code : Mode → Nat
  | .unconfigured => 0 | .idle => 1 | .running => 2 | .holding => 3
  | .held => 4 | .halted => 5 | .parked => 6 | .waking => 7

def RecipeState.code : RecipeState → Nat
  | .empty => 0 | .editing => 1 | .closed => 2

def PanelState.code : PanelState → Nat
  | .cutting => 0 | .stacking => 1 | .complete => 2

def BoardState.code : BoardState → Nat
  | .skipped => 0 | .waiting => 1 | .precut => 2 | .ready => 3 | .held => 4 | .freed => 5
  | .queued => 6 | .stacked => 7 | .chuted => 8 | .failed => 9 | .lost => 10 | .abandoned => 11

/-- Positions in the introduction's state table (R14). -/
def TabState.code : TabState → Nat
  | .uncut => 0 | .cutting => 1 | .verifyPending => 2 | .verifying => 3
  | .recutPending => 4 | .severed => 5 | .faulted => 6 | .bypassed => 7

def Disposition.code : Disposition → Nat
  | .good => 0 | .scrap => 1 | .skip => 2

def RouterState.code : RouterState → Nat
  | .idle => 0 | .cut => 1 | .verify => 2

def BitState.code : BitState → Nat
  | .unknown => 0 | .known => 1 | .expired => 2

def SpindleState.code : SpindleState → Nat
  | .stopped => 0 | .spinup => 1 | .atSpeed => 2 | .coasting => 3

def ProbeMode.code : ProbeMode → Nat
  | .off => 0 | .full => 1 | .early => 2

def ProbeMode.ofCode : Nat → Option ProbeMode
  | 0 => some .off | 1 => some .full | 2 => some .early | _ => none

def ProbeState.code : ProbeState → Nat
  | .idle => 0 | .move => 1 | .settle => 2 | .check => 3

def Verdict.code : Verdict → Nat
  | .severed => 0 | .uncut => 1

def PickerState.code : PickerState → Nat
  | .idle => 0 | .approach => 1 | .gripping => 2 | .holding => 3
  | .carrying => 4 | .placing => 5 | .returning => 6

def EntryState.code : EntryState → Nat
  | .reserved => 0 | .occupied => 1

def BayState.code : BayState → Nat
  | .absent => 0 | .present => 1 | .ready => 2 | .active => 3 | .complete => 4

def StackerState.code : StackerState → Nat
  | .idle => 0 | .fetch => 1 | .checkSlot => 2 | .present => 3
  | .push => 4 | .confirm => 5 | .divert => 6 | .waitBay => 7

def SlotState.code : SlotState → Nat
  | .unused => 0 | .open_ => 1 | .filled _ _ => 2 | .blocked => 3

def Sense.code : Sense → Nat
  | .activeHigh => 0 | .activeLow => 1

def Sense.ofCode : Nat → Option Sense
  | 0 => some .activeHigh | 1 => some .activeLow | _ => none

def SamplePeriod.code : SamplePeriod → Nat
  | .p01 => 0 | .p05 => 1 | .p20 => 2

def SamplePeriod.ofCode : Nat → Option SamplePeriod
  | 0 => some .p01 | 1 => some .p05 | 2 => some .p20 | _ => none

def DetectMode.code : DetectMode → Nat
  | .lowLevel => 0 | .highLevel => 1 | .rising => 2 | .falling => 3 | .both => 4

def DetectMode.ofCode : Nat → Option DetectMode
  | 0 => some .lowLevel | 1 => some .highLevel | 2 => some .rising | 3 => some .falling
  | 4 => some .both | _ => none

def AuxRole.code : AuxRole → Nat
  | .notice => 0 | .hold => 1 | .fault => 2 | .wake => 3

def AuxRole.ofCode : Nat → Option AuxRole
  | 0 => some .notice | 1 => some .hold | 2 => some .fault | 3 => some .wake | _ => none

def Direction.ofCode : Nat → Option Direction
  | 0 => some .xPlus | 1 => some .xMinus | 2 => some .yPlus | 3 => some .yMinus | _ => none

def Material.ofCode : Nat → Option Material
  | 0 => some .soft | 1 => some .light | 2 => some .standard | 3 => some .hard | _ => none

def TabRole.ofCode : Nat → Option TabRole
  | 0 => some .release | 1 => some .relief | 2 => some .normal | _ => none

def FillDir.ofCode : Nat → Option FillDir
  | 0 => some .bottomUp | 1 => some .topDown | _ => none

/-- A mark field of a request; any value but 0 and 1 is refused (R14). -/
def markOf : Nat → Option Bool
  | 0 => some false | 1 => some true | _ => none

/-- The hardness figure of a material class (section 5.3). -/
def Material.hardness : Material → Nat
  | .soft => 4 | .light => 6 | .standard => 8 | .hard => 12

def Latch.code : Latch → Nat
  | .clear => 0 | .set => 1 | .standing => 1

def Detail.kindCode : Detail → Nat
  | .none => 0 | .board _ => 1 | .tab _ => 2 | .bay _ => 3 | .nest _ => 4 | .line _ => 5

/-- The detail byte; absent when there is none (R14). Log entry 9. -/
def Detail.byte : Detail → Byte
  | .none => absentByte
  | .board i => b8 i.val
  | .tab i => b8 i.val
  | .bay x => b8 (Bay.code x)
  | .nest n => b8 n.val
  | .line n => b8 n.val

/-- A field test that failed: out of its range or list, or an index outside its table (R12). -/
inductive FieldFail where
  | bad (position : Nat)
  | full (position : Nat)
  deriving DecidableEq, Repr

/-- The first failing test of a list of field tests in body order. -/
def firstFail : List (Bool × FieldFail) → Option FieldFail
  | [] => none
  | (ok, f) :: t => if ok then firstFail t else some f

/-- The value lies in the closed range. -/
def inRange (lo hi v : Nat) : Bool := decide (lo ≤ v) && decide (v ≤ hi)

/-- The field tests of board record k (R30). -/
def boardTests (body : List Byte) (k : Nat) : List (Bool × FieldFail) :=
  [ (decide (u8 body (6 * k) ≤ 63), .full (6 * k)),
    (inRange 500 59500 (u16 body (6 * k + 1)), .bad (6 * k + 1)),
    (inRange 500 44500 (u16 body (6 * k + 3)), .bad (6 * k + 3)),
    (decide (u8 body (6 * k + 5) ≤ 3), .bad (6 * k + 5)) ]

/-- Board record k of a body (R30). -/
def boardRecord (body : List Byte) (k : Nat) : Option (Fin 64 × BoardDef) :=
  (index? 64 (u8 body (6 * k))).map fun i =>
    (i, { pickX := u16 body (6 * k + 1), pickY := u16 body (6 * k + 3), height := u8 body (6 * k + 5) })

/-- The field tests of tab record k (R32). -/
def tabTests (body : List Byte) (k : Nat) : List (Bool × FieldFail) :=
  [ (decide (u16 body (13 * k) ≤ 255), .full (13 * k)),
    (decide (u8 body (13 * k + 2) ≤ 63), .bad (13 * k + 2)),
    (decide (u8 body (13 * k + 3) ≤ 63) || decide (u8 body (13 * k + 3) = 255), .bad (13 * k + 3)),
    (inRange 500 59500 (u16 body (13 * k + 4)), .bad (13 * k + 4)),
    (inRange 500 44500 (u16 body (13 * k + 6)), .bad (13 * k + 6)),
    (decide (u8 body (13 * k + 8) ≤ 3), .bad (13 * k + 8)),
    (inRange 100 2000 (u16 body (13 * k + 9)), .bad (13 * k + 9)),
    (decide (u8 body (13 * k + 11) ≤ 3), .bad (13 * k + 11)),
    (decide (u8 body (13 * k + 12) ≤ 2), .bad (13 * k + 12)) ]

/-- Tab record k of a body (R32). -/
def tabRecord (body : List Byte) (k : Nat) : Option (Fin 256 × TabDef) := do
  let i ← index? 256 (u16 body (13 * k))
  let owner ← index? 64 (u8 body (13 * k + 2))
  let dir ← Direction.ofCode (u8 body (13 * k + 8))
  let material ← Material.ofCode (u8 body (13 * k + 11))
  let role ← TabRole.ofCode (u8 body (13 * k + 12))
  pure (i, { owner := owner, neighbour := index? 64 (u8 body (13 * k + 3))
             x := u16 body (13 * k + 4), y := u16 body (13 * k + 6)
             dir := dir, length := u16 body (13 * k + 9), material := material, role := role })

/-- A point `d` along a direction from a start point (R34, R118). -/
def along (dir : Direction) (x y d : Int) : Int × Int :=
  match dir with
  | .xPlus => (x + d, y)
  | .xMinus => (x - d, y)
  | .yPlus => (x, y + d)
  | .yMinus => (x, y - d)

/-- The end point of a tab (R34). -/
def TabDef.endPoint (t : TabDef) : Int × Int := along t.dir t.x t.y t.length

end Sys2Proof.Machine
end

