-- ==== Sys2Proof/Machine/Flags.lean ====
section
/-! DEFINITION. The conditions the blocks read: live and needed, front and window, permissions, fault records, line levels. -/

namespace Sys2Proof.Machine

/-! ### Field lines -/

/-- The filtered level of a dedicated line, read once: unknown reads as deasserted (R165). -/
def asserted (s : State) (l : Fin 16) : Bool := (getAt s.lines.ded l).filter.level == some true

/-- The line of a nest (L11 to L13). -/
def nestLine (n : Fin 3) : Fin 16 := ⟨11 + n.val, by omega⟩

/-- The presence line of a bay (L9, L10). -/
def presenceLine : Bay → Fin 16
  | .a => 9
  | .b => 10

/-- The detection of a level mode stands (R169). -/
def levelStands (a : AuxLine) : Bool :=
  match a.mode with
  | .lowLevel => a.filter.level == some false
  | .highLevel => a.filter.level == some true
  | .rising | .falling | .both => false

/-! ### Faults -/

/-- The record of a source, pending or in service (R178). -/
def recordOf (f : Faults) (src : Source) : Option FaultRec :=
  (f.waiting ++ f.stack).find? fun r => decide (r.source = src)

/-- Some source of the range `lo` to `hi` has a record, pending or in service. -/
def recordIn (f : Faults) (lo hi : Nat) : Bool :=
  (f.waiting ++ f.stack).any fun r => inRange lo hi r.source.val

/-- Some record of level 0 to 4 is pending or in service (R182). -/
def haltingOpen (f : Faults) : Bool := (f.waiting ++ f.stack).any fun r => decide (r.level ≤ 4)

/-- A halt latch is set. -/
def latched (f : Faults) : Bool := f.allStop || f.cutStop

/-- The condition of a source stands (R177). -/
def conditionStands (s : State) (src : Source) : Bool :=
  if src = Source.stopChain then s.lines.stop.level == some true
  else if src = Source.doorOpen then (getAt s.lines.ded 15).filter.level == some false
  else if src = Source.driveFault then (getAt s.lines.ded 4).filter.level == some true
  else if h : 19 ≤ src.val then
    let a := getAt s.lines.aux ⟨src.val - 19, by omega⟩
    decide (a.role = .fault) && levelStands a
  else false

/-! ### Boards and tabs -/

/-- The runtime record of a board. -/
def boardRun (s : State) (b : Fin 64) : Option BoardRun := Table.get s.seq.boards b

/-- The runtime record of a tab. -/
def tabRun (s : State) (t : Fin 256) : Option TabRun := Table.get s.seq.tabs t

/-- The board's state, if it has a runtime record. -/
def boardState (s : State) (b : Fin 64) : Option BoardState := (boardRun s b).map (·.state)

/-- The tab's state, if it has a runtime record. -/
def tabState (s : State) (t : Fin 256) : Option TabState := (tabRun s t).map (·.state)

/-- Singulated and not FAILED, LOST or ABANDONED (00_scope, Live). -/
def BoardRun.live (r : BoardRun) : Bool :=
  decide (r.disposition ≠ .skip) &&
    match r.state with
    | .failed | .lost | .abandoned => false
    | _ => true

/-- The board is live. -/
def boardLive (s : State) (b : Fin 64) : Bool :=
  match boardRun s b with
  | some r => r.live
  | none => false

/-- The boards of a tab: its owner and its neighbour, if any (R68). -/
def TabDef.boards (d : TabDef) : List (Fin 64) := d.owner :: d.neighbour.toList

/-- At least one board of the tab is live (R68). -/
def tabNeeded (s : State) (t : Fin 256) : Bool :=
  match Table.get s.recipe.tabs t with
  | some d => (TabDef.boards d).any (boardLive s)
  | none => false

/-- Every tab that touches the board (R37). -/
def tabsOf (s : State) (b : Fin 64) : List (Fin 256) :=
  match Table.get s.recipe.lists b with
  | some l => l.tabs
  | none => []

/-- The board's release tab (R37). -/
def releaseTab (s : State) (b : Fin 64) : Option (Fin 256) := (Table.get s.recipe.lists b).map (·.release)

/-- Before QUEUED: WAITING, PRECUT, READY, HELD or FREED (R49). -/
def BoardState.beforeQueued : BoardState → Bool
  | .waiting | .precut | .ready | .held | .freed => true
  | _ => false

/-- Not freed and not terminal (R70, front). -/
def BoardState.mayFront : BoardState → Bool
  | .waiting | .precut | .ready | .held => true
  | _ => false

/-- May stand in the window behind the front (R70). -/
def BoardState.mayWindow : BoardState → Bool
  | .waiting | .precut | .ready => true
  | _ => false

/-- The board's state satisfies `p`. -/
def boardIs (s : State) (p : BoardState → Bool) (b : Fin 64) : Bool :=
  match boardState s b with
  | some x => p x
  | none => false

/-- The release order from the front on (R70). -/
def fromFront (s : State) : List (Fin 64) :=
  s.seq.order.dropWhile fun b => !boardIs s BoardState.mayFront b

/-- The front board (R70). -/
def front (s : State) : Option (Fin 64) := (fromFront s).head?

/-- The window: the front and the next K boards that are neither terminal nor freed (R70, R39). -/
def window (s : State) : List (Fin 64) :=
  match fromFront s with
  | [] => []
  | f :: rest => f :: (rest.filter (boardIs s BoardState.mayWindow)).take s.recipe.depth

/-- The CUTTING record (R46). -/
def cuttingRecord (s : State) : Option PanelRec :=
  s.seq.records.find? fun r => decide (r.state = .cutting)

/-- PANEL STOP has been taken for the CUTTING record. -/
def stopTaken (s : State) : Bool :=
  match cuttingRecord s with
  | some r => r.stop
  | none => false

/-! ### Permissions -/

/-- Cutting is permitted (R71). -/
def cuttingPermitted (s : State) : Bool :=
  (decide (s.cell.mode = .running) || decide (s.cell.mode = .holding)) && !latched s.faults &&
    decide (s.spindle.state = .atSpeed) && decide (s.router.bit = .known) && decide (s.router.wear < s.router.life)

/-- A CUT order may be presented (R94). -/
def cutMayPresent (s : State) : Bool := !latched s.faults && decide (s.spindle.state = .atSpeed)

/-- A stalled picker move may be presented again (R129). -/
def moveMayResume (s : State) : Bool := !latched s.faults && (recordOf s.faults Source.pickerTimeout).isNone

/-- The stacker is free to move (R153). -/
def freeToMove (s : State) : Bool := !s.faults.allStop && !recordIn s.faults 13 18

/-- The Nest Queue can reserve a nest (R144). -/
def canReserve (s : State) : Bool :=
  decide (s.nests.length < 3) && s.nests.all fun e => decide (e.state ≠ .reserved)

/-- The lowest-numbered free nest (R144). -/
def freeNest (s : State) : Option (Fin 3) :=
  [(0 : Fin 3), 1, 2].find? fun n => s.nests.all fun e => decide (e.nest ≠ n)

/-- A push is in progress on the bay (R151). -/
def pushInProgress (s : State) (x : Bay) : Bool :=
  decide (s.stacker.target = some x) &&
    (decide (s.stacker.state = .push) || decide (s.stacker.state = .confirm))

/-! ### Bays -/

/-- A Bay Record. -/
def bayOf (s : State) : Bay → BayRec
  | .a => s.bays.a
  | .b => s.bays.b

/-- The number of visits V (R42, R152). -/
def Profile.visits (p : Profile) : Nat := ceilDiv p.slots p.step

/-- The slot of visit number `i`, none once the visits are exhausted (R152). -/
def Profile.visitSlot (p : Profile) (i : Nat) : Option Nat :=
  if Profile.visits p ≤ i then none
  else match p.dir with
    | .bottomUp => some (i * p.step)
    | .topDown => some (p.slots - 1 - i * p.step)

/-- The elevator height of a slot (R152). -/
def Profile.height (p : Profile) (slot : Nat) : Nat := p.base + slot * p.pitch

/-- The slot lies on the visit path (R150). -/
def Profile.onPath (p : Profile) (slot : Nat) : Bool :=
  (List.range (Profile.visits p)).any fun i => Profile.visitSlot p i == some slot

end Sys2Proof.Machine
end

