-- ==== Sys2Proof/Machine/Ops.lean ====
section
/-! DEFINITION. The operations the blocks share: notices, fault records, ports, tallies, spindle, bays. -/

namespace Sys2Proof.Machine

/-- How an operation raises a fault: with the units' reaction to a new ALL_STOP, or, while that
reaction itself runs, without it (a latch already set changes nothing, R111). -/
abbrev Raiser := Source → Detail → State → State

/-! ### Notice Table -/

/-- A raise: the first since the last clear captures the payload, any other changes nothing (R16). -/
def raiseNotice (n : Notice) (payload : List Byte) (s : State) : State :=
  let r := getAt s.notices n
  if r.raised then s
  else s.withNotices (setAt s.notices n { r with raised := true, sent := false, payload := payload })

/-- The frame in transmission, with its withdrawn mark set if it is the notice's (R19). -/
def Tx.withdraw (n : Notice) (t : Tx) : Tx :=
  match t.what with
  | .notice m w => { t with what := .notice m (w || decide (m = n)) }
  | .reply | .overrun => t

/-- What a NOTICE CLEAR does to the notice itself (R19, R20). -/
def clearNotice (n : Notice) (s : State) : State :=
  let r := getAt s.notices n
  let s := s.withNotices (setAt s.notices n { r with raised := false, sent := false, payload := [] })
  s.withLink { s.link with tx := s.link.tx.map (Tx.withdraw n) }

/-- BAY_x_COMPLETE (notices 4 and 5). -/
def bayCompleteNotice : Bay → Notice
  | .a => 4
  | .b => 5

/-- BAY_x_CHANGED (notices 6 and 7). -/
def bayChangedNotice : Bay → Notice
  | .a => 6
  | .b => 7

/-! ### Fault Service -/

/-- The latch of a level's halt class set (R176). -/
def setLatch (level : Nat) (f : Faults) : Faults :=
  if level ≤ 1 then { f with allStop := true }
  else if level ≤ 4 then { f with cutStop := true }
  else f

/-- The cell goes to HALTED where a latch is set in a mode that halts (R57). -/
def haltCell (s : State) : State :=
  if latched s.faults then
    match s.cell.mode with
    | .running | .holding | .held | .idle =>
      s.withCell { s.cell with mode := .halted, ret := some s.cell.mode, idleTimer := none }
    | .waking => s.withCell { s.cell with mode := .halted, idleTimer := none }
    | .unconfigured | .halted | .parked => s
  else s

/-- The payload of FAULT_TAKEN (R21). -/
def FaultRec.payload (r : FaultRec) : List Byte :=
  [b8 r.source.val, b8 r.level, b8 (Detail.kindCode r.detail), Detail.byte r.detail, b8 r.repeats]

/-- The pending record the take rule moves: lowest level, then lowest source (R179). -/
def mostUrgent : List FaultRec → Option FaultRec
  | [] => none
  | r :: t =>
    match mostUrgent t with
    | none => some r
    | some m =>
      if r.level < m.level || (decide (r.level = m.level) && decide (r.source < m.source)) then some r else some m

/-- The take rule (R179). -/
def takeRule (s : State) : State :=
  match mostUrgent s.faults.waiting with
  | none => s
  | some r =>
    if (match s.faults.stack with
        | [] => true
        | top :: _ => decide (r.level < top.level)) then
      let f := { s.faults with
        waiting := s.faults.waiting.filter fun q => decide (q.source ≠ r.source)
        stack := r :: s.faults.stack }
      raiseNotice Notice.faultTaken (FaultRec.payload r) (s.withFaults f)
    else s

/-- One more repeat in the record of the source (R178). -/
def FaultRec.count (src : Source) (r : FaultRec) : FaultRec :=
  if r.source = src then { r with repeats := min 255 (r.repeats + 1) } else r

/-- A raise, as far as the Fault Service and the cell mode go (R178, R176, R57, R179). -/
def raiseRecord : Raiser := fun src d s =>
  match recordOf s.faults src with
  | some r =>
    haltCell (s.withFaults (setLatch r.level
      { s.faults with
        waiting := s.faults.waiting.map (FaultRec.count src)
        stack := s.faults.stack.map (FaultRec.count src) }))
  | none =>
    let level := getAt s.faults.levels src
    let r : FaultRec := { source := src, level := level, detail := d, repeats := 0 }
    takeRule (haltCell (s.withFaults (setLatch level { s.faults with waiting := s.faults.waiting ++ [r] })))

/-! ### Cell mode -/

/-- Entering a mode: HELD raises HOLD_REACHED (R55), and a mode that halts goes on to HALTED while a
latch is set (R57). -/
def enterMode (m : Mode) (s : State) : State :=
  let s := s.withCell { s.cell with mode := m }
  haltCell (if m = .held then raiseNotice Notice.holdReached [] s else s)

/-! ### Boards, tabs and Panel Records -/

/-- The operation in the router or the probe belongs to an earlier panel from now on (log entry 10). -/
def orphanOperation (s : State) : State :=
  let s := s.withRouter { s.router with operation := s.router.operation.map fun o => { o with orphan := true } }
  s.withProbe { s.probe with work := s.probe.work.map fun w => { w with op := { w.op with orphan := true } } }

/-- A board's runtime record changed, if it has one. -/
def modBoard (b : Fin 64) (f : BoardRun → BoardRun) (s : State) : State :=
  s.withSeq { s.seq with boards := Table.modify b f s.seq.boards }

/-- A tab's runtime record changed, if it has one. -/
def modTab (t : Fin 256) (f : TabRun → TabRun) (s : State) : State :=
  s.withSeq { s.seq with tabs := Table.modify t f s.seq.tabs }

/-- A tab's state changed. -/
def setTab (t : Fin 256) (st : TabState) (s : State) : State := modTab t (fun r => { r with state := st }) s

/-- A board's state changed. -/
def setBoard (b : Fin 64) (st : BoardState) (s : State) : State := modBoard b (fun r => { r with state := st }) s

/-- The Panel Records that satisfy `p` changed. -/
def modRecords (p : PanelRec → Bool) (f : PanelRec → PanelRec) (s : State) : State :=
  s.withSeq { s.seq with records := s.seq.records.map fun r => if p r then f r else r }

/-- A tally of the CUTTING record (R51). -/
def tallyCutting (f : PanelRec → PanelRec) (s : State) : State :=
  modRecords (fun r => decide (r.state = .cutting)) f s

/-- A tally of the record with this serial (R51). -/
def tallySerial (serial : Serial) (f : PanelRec → PanelRec) (s : State) : State :=
  modRecords (fun r => decide (r.serial = serial)) f s

/-- The board's nest becomes absent, if the runtime records are still those of its panel (R89). -/
def clearBoardNest (serial : Serial) (b : Fin 64) (s : State) : State :=
  if s.seq.runOf = some serial then modBoard b (fun r => { r with nest := none }) s else s

/-- The reservation for a board is released: its RESERVED entry removed, its nest absent (R144). -/
def releaseReservation (b : Fin 64) (s : State) : State :=
  let s := s.withNests (s.nests.filter fun e => !(decide (e.board = b) && decide (e.state = .reserved)))
  modBoard b (fun r => { r with nest := none }) s

/-- A board becomes FAILED (R51). -/
def boardFailed (b : Fin 64) (s : State) : State :=
  tallyCutting (fun r => { r with failed := r.failed + 1 }) (setBoard b .failed s)

/-- A board becomes ABANDONED (R51). -/
def boardAbandoned (b : Fin 64) (s : State) : State :=
  tallyCutting (fun r => { r with abandoned := r.abandoned + 1 }) (setBoard b .abandoned s)

/-- A board becomes LOST before it was QUEUED, its reservation released (R51, R88). -/
def boardLostEarly (b : Fin 64) (s : State) : State :=
  tallyCutting (fun r => { r with lost := r.lost + 1 }) (releaseReservation b (setBoard b .lost s))

/-- The tab states that a tab without a live board leaves for BYPASSED (R68). -/
def TabState.waits : TabState → Bool
  | .uncut | .recutPending | .verifyPending => true
  | _ => false

/-- A tab that is no longer needed changes as R68 gives. -/
def bypassTab (s : State) (t : Fin 256) : State :=
  match tabState s t with
  | some st => if TabState.waits st && !tabNeeded s t then setTab t .bypassed s else s
  | none => s

/-- The tabs of a board that has just failed or been abandoned (R68). -/
def bypassTabs (b : Fin 64) (s : State) : State := (tabsOf s b).foldl bypassTab s

/-- The outcome of a QUEUED board, tallied in its own record; its runtime record changes with it where
that panel's records still exist (R51, R89). -/
def reportOutcome (serial : Serial) (b : Fin 64) (tally : PanelRec → PanelRec) (f : BoardRun → BoardRun)
    (s : State) : State :=
  let s := tallySerial serial (fun r => tally { r with outstanding := r.outstanding - 1 }) s
  if s.seq.runOf = some serial then modBoard b f s else s

/-- A QUEUED board becomes LOST (R51). -/
def reportLost (serial : Serial) (b : Fin 64) (s : State) : State :=
  reportOutcome serial b (fun r => { r with lost := r.lost + 1 }) (fun r => { r with state := .lost }) s

/-- A QUEUED board becomes CHUTED (R51). -/
def reportChuted (serial : Serial) (b : Fin 64) (s : State) : State :=
  reportOutcome serial b (fun r => { r with chuted := r.chuted + 1 }) (fun r => { r with state := .chuted }) s

/-- A QUEUED board becomes STACKED, with its bay and slot (R51, R65). -/
def reportStacked (serial : Serial) (b : Fin 64) (x : Bay) (slot : Nat) (s : State) : State :=
  reportOutcome serial b (fun r => { r with stacked := r.stacked + 1 })
    (fun r => { r with state := .stacked, bay := some x, slot := some slot }) s

/-- The payload of PANEL_COMPLETE (R21). -/
def PanelRec.payload (r : PanelRec) : List Byte :=
  le32 r.serial.toNat ++ [b8 r.stacked, b8 r.chuted, b8 r.failed, b8 r.lost, b8 r.abandoned]

/-- STACKING with no entry outstanding: goes to COMPLETE (R50). -/
def PanelRec.done (r : PanelRec) : Bool := decide (r.state = .stacking) && decide (r.outstanding = 0)

/-- Records that have reached COMPLETE are reported and removed (R50). -/
def removeComplete (s : State) : State :=
  let s' := (s.seq.records.filter PanelRec.done).foldl
    (fun s r => raiseNotice Notice.panelComplete (PanelRec.payload r) s) s
  s'.withSeq { s'.seq with records := s'.seq.records.filter fun r => !PanelRec.done r }

/-- No board of the panel is before QUEUED (R49). -/
def noneBeforeQueued (s : State) : Bool := s.seq.boards.all fun e => !BoardState.beforeQueued e.2.state

/-- The mode where the CUTTING record has left CUTTING (R49). -/
def leaveCuttingMode (s : State) : State :=
  match s.cell.mode with
  | .running | .holding | .held => enterMode .idle (s.withCell { s.cell with holdLatch := false })
  | .halted => s.withCell { s.cell with ret := some .idle, holdLatch := false }
  | .unconfigured | .idle | .parked | .waking => s

/-- The test of a CUTTING record for leaving CUTTING, and of every record for COMPLETE (R49, R50). -/
def recordTest (s : State) : State :=
  match cuttingRecord s with
  | some r =>
    if noneBeforeQueued s then
      let s := modRecords (fun q => decide (q.state = .cutting)) (fun q => { q with state := .stacking }) s
      removeComplete (leaveCuttingMode (raiseNotice Notice.panelCutDone (le32 r.serial.toNat) s))
    else removeComplete s
  | none => removeComplete s

/-! ### Order ports -/

/-- An order presented: on the outputs, strobed and in flight (R173). -/
def Port.present (o : Order) (p : Port) : Port :=
  { p with record := some o, inFlight := true, strobes := p.strobes + 1 }

/-- A STOP pulse ends the order in flight (R173). -/
def Port.stop (p : Port) : Port :=
  if p.inFlight then { p with inFlight := false, stops := p.stops + 1 } else p

/-- The order in flight completes (R173). -/
def Port.done (p : Port) : Port := { p with inFlight := false }

/-- The order in flight, if any. -/
def Port.flying (p : Port) : Option Order := if p.inFlight then p.record else none

/-! ### Bit arithmetic (section 5.3) -/

/-- The half point Wh (R96, R99). -/
def halfPoint (life : Nat) : Nat := life / 2

/-- The derate D (R99 step 2). -/
def derate (life wear : Nat) : Nat :=
  if wear ≤ halfPoint life then 0
  else min 512 ((wear - halfPoint life) * 512 / (life - halfPoint life))

/-- The effective feed F of a cut (R99). -/
def effectiveFeed (life wear baseFeed percent attempt : Nat) : Nat :=
  let raw := baseFeed * (1024 - derate life wear) * percent / 102400
  let f := clampNat 20 600 raw
  if 2 ≤ attempt then max 20 (f / 2) else f

/-- The cut time T in ms (R100). -/
def cutTime (length feed : Nat) : Nat := ceilDiv (100 * length) feed

/-- The wear ΔW of a completed cut (R101). -/
def cutWear (d : TabDef) : Nat := ceilDiv (d.length * Material.hardness d.material) 16

/-- The greatest sum of wear (R101). -/
def wearLimit : Nat := 16777215

/-- Wear added to the bit, with the comparisons that follow each accrual (R101, R102). -/
def addWear (raise : Raiser) (dw : Nat) (s : State) : State :=
  let before := s.router.wear
  let w := min wearLimit (before + dw)
  let half := halfPoint s.router.life
  let s := s.withRouter { s.router with wear := w }
  let s := if before ≤ half && half < w then
      raiseNotice Notice.bitWearWarn (le32 w ++ le32 s.router.life) s else s
  if s.router.bit = .known && s.router.life ≤ w then
    raise Source.bitExpired .none (s.withRouter { s.router with bit := .expired })
  else s

/-! ### Spindle (R103) -/

/-- SPINUP entered or restarted with this stabilisation time in ms (R103, R107). -/
def enterSpinup (ms : Nat) (s : State) : State :=
  let s := s.withSpindle { s.spindle with
    state := .spinup, stabilise := some ms, deadline := some (ms + 5000), watch := .delay
    qualify := 0, edgeCounts := false }
  s.withOutputs { s.outputs with spindleRun := true, speedRef := s.spindle.setpoint }

/-- A start request: a STOPPED or COASTING spindle spins up with a full Tsu (R103). -/
def startSpindle (s : State) : State :=
  match s.spindle.state with
  | .stopped | .coasting => enterSpinup (100 * s.spindle.setTime) s
  | .spinup | .atSpeed => s

/-- A stop request (R103). -/
def stopSpindle (s : State) : State :=
  match s.spindle.state with
  | .spinup | .atSpeed =>
    let s := s.withSpindle { s.spindle with
      state := .coasting, stabilise := none, deadline := none, watch := .off, qualify := 0, edgeCounts := false }
    s.withOutputs { s.outputs with spindleRun := false, speedRef := 0 }
  | .stopped | .coasting => s

/-! ### Picker moves (R129) -/

/-- The order of the picker's present state. A CARRY whose board was dropped is the one still on the
port's outputs (R136). -/
def moveOrder (s : State) : Option Order :=
  match s.picker.state with
  | .approach => s.picker.target.map fun t => .approach t.x t.y t.height
  | .carrying =>
    match s.picker.nest with
    | some n => some (.carry n)
    | none => s.ports.picker.record
  | .returning => some .home
  | .idle | .gripping | .holding | .placing => none

/-- The order of the picker's state presented, with a full move timer (R129). -/
def presentMove (s : State) : State :=
  match moveOrder s with
  | some o =>
    let s := s.withPorts { s.ports with picker := Port.present o s.ports.picker }
    s.withPicker { s.picker with moveTimer := some 3000, stalled := false }
  | none => s

/-- A move that falls due: presented, or held back as stalled under ALL_STOP (R129). -/
def dueMove (s : State) : State :=
  if s.faults.allStop then s.withPicker { s.picker with stalled := true } else presentMove s

/-- RETURNING entered, the board and nest fields cleared, HOME due (R137 to R139). -/
def enterReturning (s : State) : State :=
  dueMove (s.withPicker { s.picker with
    state := .returning, board := none, serial := none, nest := none, target := none
    retry := false, withdrawn := false
    gripTimer := none, vacOffTimer := none, blowTimer := none, windowTimer := none })

/-- VACUUM_ON. -/
def setVacuum (on : Bool) (s : State) : State := s.withOutputs { s.outputs with vacuumOn := on }

/-- A board that becomes FAILED or ABANDONED under approach, grip or hold is let go (R139, R82). -/
def letGo (b : Fin 64) (s : State) : State :=
  if s.picker.board = some b then
    match s.picker.state with
    | .approach =>
      if s.picker.withdrawn then s
      else
        let s := releaseReservation b s
        if s.picker.stalled then
          s.withPicker { s.picker with state := .returning, board := none, serial := none, nest := none, target := none }
        else s.withPicker { s.picker with withdrawn := true, nest := none }
    | .gripping | .holding => enterReturning (setVacuum false (releaseReservation b s))
    | .idle | .carrying | .placing | .returning => s
  else s

/-! ### Bays (sections 8.2, 8.3) -/

/-- A Bay Record replaced. -/
def setBay (x : Bay) (r : BayRec) (s : State) : State :=
  match x with
  | .a => s.withBays { s.bays with a := r }
  | .b => s.withBays { s.bays with b := r }

/-- The filled count of a bay. -/
def BayRec.filled (r : BayRec) : Nat :=
  match r.desc with
  | some d => d.filled
  | none => 0

/-- A bay enters COMPLETE (R151). -/
def completeBay (x : Bay) (s : State) : State :=
  let r := bayOf s x
  raiseNotice (bayCompleteNotice x) [b8 (BayRec.filled r)] (setBay x { r with state := .complete, retire := false } s)

/-- One slot of a bay's map settled. -/
def setSlot (x : Bay) (slot : Nat) (v : SlotState) (s : State) : State :=
  let r := bayOf s x
  setBay x { r with map := r.map.set slot v } s

/-- The next visit of a descriptor (R152). -/
def FillDesc.step (d : FillDesc) : FillDesc :=
  { d with visit := d.visit + 1, next := Profile.visitSlot d.values (d.visit + 1) }

/-- The bay is complete at an advance: retired, out of visits, or at its limit (R152). -/
def FillDesc.ends (d : FillDesc) (retire : Bool) : Bool :=
  retire || decide (Profile.visits d.values ≤ d.visit) || decide (d.values.limit ≤ d.filled)

/-- The descriptor advances past a settled slot (R152). -/
def advance (x : Bay) (s : State) : State :=
  let r := bayOf s x
  match r.desc with
  | none => s
  | some d =>
    let d := FillDesc.step d
    let s := setBay x { r with desc := some d } s
    if FillDesc.ends d r.retire then completeBay x s else s

end Sys2Proof.Machine
end

