-- ==== Sys2Proof/Machine/Cutting.lean ====
section
/-! DEFINITION. Cuts and verifies: their orders, interruptions and verdicts (R75 to R82, R92 to R95, R116 to R125). -/

namespace Sys2Proof.Machine

/-! ### The router order port -/

/-- An order presented on the router port. -/
def presentRouter (o : Order) (s : State) : State :=
  s.withPorts { s.ports with router := Port.present o s.ports.router }

/-- The order in flight on the router port, if any, stopped: the head's position is then unknown (R93). -/
def stopRouterPort (s : State) : State :=
  if s.ports.router.inFlight then
    let s := s.withPorts { s.ports with router := Port.stop s.ports.router }
    s.withRouter { s.router with clearance := true }
  else s

/-- MOVE_CLEAR presented before the first order after an unknown position (R93). -/
def presentMoveClear (s : State) : State :=
  let s := presentRouter .moveClear s
  s.withRouter { s.router with timer := some 2000 }

/-- The effective feed of an operation formed now (R94, R99). -/
def operationFeed (s : State) (op : Operation) : Nat :=
  effectiveFeed s.router.life s.router.wear s.router.baseFeed s.router.override op.attempt

/-- The CUT order of an operation formed now (R94). -/
def cutOrder (s : State) (op : Operation) : Order :=
  .cut (op.record.x + op.dx) (op.record.y + op.dy) op.record.dir op.record.length (operationFeed s op)

/-- The CUT order formed and presented (R94, R100). -/
def presentCut (op : Operation) (s : State) : State :=
  let t := cutTime op.record.length (operationFeed s op)
  let s := presentRouter (cutOrder s op) s
  s.withRouter { s.router with presented := true, timer := some (2 * t + 1000), sag := 0 }

/-- The CUT presented where R94 permits it; otherwise it is held back. -/
def presentOrHoldCut (op : Operation) (s : State) : State := if cutMayPresent s then presentCut op s else s

/-- A cut handed over to the Router Unit (R73, R93). -/
def startCut (op : Operation) (s : State) : State :=
  let s := s.withRouter { s.router with state := .cut, operation := some op, presented := false }
  if s.router.clearance then presentMoveClear s else presentOrHoldCut op s

/-! ### The Kerf Probe -/

/-- Effective points Ne (R117). -/
def effectivePoints (points length : Nat) : Nat := min points (max 1 (length / 25))

/-- Effective allowance Ae (R117). -/
def effectiveAllowance (allowance ne : Nat) : Nat := min allowance (ne - 1)

/-- The distance of point i along the tab (R118). -/
def pointDistance (length ne i : Nat) : Nat := (2 * i + 1) * length / (2 * ne)

/-- The coordinates of point i of a verify (R118). -/
def probePoint (w : Verify) (i : Nat) : Int × Int :=
  along w.op.record.dir (w.op.record.x + w.op.dx) (w.op.record.y + w.op.dy) (pointDistance w.op.record.length w.ne i)

/-- The working record built at the start of a verify, the router in VERIFY (R116). -/
def verifySetup (op : Operation) (s : State) : State :=
  let ne := effectivePoints s.probe.settings.points op.record.length
  let w : Verify :=
    { op := op, settings := s.probe.settings, ne := ne, ae := effectiveAllowance s.probe.settings.allowance ne
      index := 0, hits := 0, misses := 0, timer := none }
  let s := s.withProbe { s.probe with state := .move, work := some w, moveTimer := none }
  s.withRouter { s.router with state := .verify, operation := none, presented := false, timer := none }

/-- PROBE_MOVE to the present point, with its completion timer (R119). -/
def presentProbeMove (w : Verify) (s : State) : State :=
  let p := probePoint w w.index
  let s := presentRouter (.probeMove p.1 p.2) s
  s.withProbe { s.probe with state := .move, moveTimer := some 500 }

/-- The router and the probe idle, the order in flight stopped (R76, R77, R112). -/
def dropRouter (s : State) : State :=
  let s := stopRouterPort s
  let s := s.withRouter { s.router with state := .idle, operation := none, presented := false, timer := none }
  s.withProbe { s.probe with state := .idle, work := none, moveTimer := none }

/-! ### What an ended operation does to its tab and boards -/

/-- The boards of a tab given up fail; tabs left without a live board are bypassed; the picker lets go
(R81). -/
def giveUp (raise : Raiser) (t : Fin 256) (s : State) : State :=
  let s := raise Source.tabUncut (.tab t) (setTab t .faulted s)
  match Table.get s.recipe.tabs t with
  | none => s
  | some d =>
    let dead := (TabDef.boards d).filter (boardLive s)
    let s := dead.foldl (fun s b => boardFailed b s) s
    let s := dead.foldl (fun s b => bypassTabs b s) s
    dead.foldl (fun s b => letGo b s) s

/-- The release operation of a held board that R53 keeps held under PANEL STOP. -/
def heldUnderStop (s : State) (op : Operation) : Bool :=
  stopTaken s && decide (op.record.role = .release) && decide (boardState s op.record.owner = some .held)

/-- R53: that operation has ended without SEVERED; the board is abandoned and let go. -/
def endHeldUnderStop (op : Operation) (s : State) : State :=
  letGo op.record.owner (bypassTabs op.record.owner (boardAbandoned op.record.owner (setTab op.tab .bypassed s)))

/-- The tab of an interrupted cut (`cut`) or verify (R76, R77, R53). An operation of an earlier panel
changes nothing (log entry 10). -/
def tabInterrupted (raise : Raiser) (cut : Bool) (op : Operation) (s : State) : State :=
  if op.orphan then s
  else if !tabNeeded s op.tab then setTab op.tab .bypassed s
  else if heldUnderStop s op then endHeldUnderStop op s
  else if !cut then setTab op.tab .verifyPending s
  else if 2 ≤ op.attempt then giveUp raise op.tab s
  else setTab op.tab .recutPending s

/-- The operation on the router ends without completing (R76, R77, R95, R125): by its timeout, which
raises ROUTER_TIMEOUT with the tab, or by any other cause. -/
def interruptRouter (raise : Raiser) (timeout : Bool) (s : State) : State :=
  match s.router.state with
  | .idle => s
  | .cut =>
    match s.router.operation with
    | none => dropRouter s
    | some op =>
      let presented := s.router.presented
      let s := dropRouter s
      let s := if timeout then raise Source.routerTimeout (.tab op.tab) s else s
      let s := if presented then addWear raise (ceilDiv (cutWear op.record) 2) s else s
      tabInterrupted raise true op s
  | .verify =>
    match s.probe.work with
    | none => dropRouter s
    | some w =>
      let s := dropRouter s
      let s := if timeout then raise Source.routerTimeout (.tab w.op.tab) s else s
      tabInterrupted raise false w.op s

/-! ### Verdicts -/

/-- One live board counts a severed non-release tab (R69). -/
def BoardRun.lower (r : BoardRun) : BoardRun :=
  if BoardRun.live r then
    let n := r.remaining - 1
    match r.state with
    | .waiting | .precut => { r with remaining := n, state := if n = 0 then .ready else .precut }
    | _ => { r with remaining := n }
  else r

/-- The remaining counts of a tab's live boards fall by one (R69, R78). -/
def lowerCounts (d : TabDef) (s : State) : State :=
  (TabDef.boards d).foldl (fun s b => modBoard b BoardRun.lower s) s

/-- The held board of a severed release tab is FREED and carried (R79, R133). -/
def freeBoard (b : Fin 64) (s : State) : State :=
  if boardState s b = some .held then
    let s := setBoard b .freed s
    if s.picker.state = .holding && s.picker.board = some b then
      dueMove (s.withPicker { s.picker with state := .carrying })
    else s
  else s

/-- The Run Sequencer handles a verdict (R78 to R81, R53). -/
def handleVerdict (raise : Raiser) (op : Operation) (v : Verdict) (s : State) : State :=
  if op.orphan then s
  else match v with
  | .severed =>
    let needed := tabNeeded s op.tab
    let s := setTab op.tab .severed s
    if !needed then s
    else if op.record.role = .release then freeBoard op.record.owner s
    else lowerCounts op.record s
  | .uncut =>
    if !tabNeeded s op.tab then setTab op.tab .bypassed s
    else if heldUnderStop s op then endHeldUnderStop op s
    else if 2 ≤ op.attempt then giveUp raise op.tab s
    else setTab op.tab .recutPending s

/-- A verdict: the snapshot frozen, the probe and the router IDLE, the verdict handed over (R123). -/
def giveVerdict (raise : Raiser) (w : Verify) (ne hits misses : Nat) (v : Verdict) (s : State) : State :=
  let snap : Snapshot :=
    { tab := w.op.tab, attempt := w.op.attempt, ne := ne, hits := hits, misses := misses
      sampled := hits + misses, verdict := v }
  let s := s.withProbe { s.probe with state := .idle, work := none, moveTimer := none, snapshot := some snap }
  let s := s.withRouter { s.router with state := .idle, operation := none, presented := false, timer := none }
  handleVerdict raise w.op v s

/-- What follows the start of a verify: in mode OFF its verdict, otherwise the move to point 0, behind
MOVE_CLEAR where the head's position is unknown (R116, R119, R93). -/
def verifyGo (raise : Raiser) (s : State) : State :=
  match s.probe.work with
  | none => s
  | some w =>
    match w.settings.mode with
    | .off => giveVerdict raise w 0 0 0 .severed s
    | .full | .early => if s.router.clearance then presentMoveClear s else presentProbeMove w s

/-- The verdict after a reading, if the readings decide it (R122). -/
def probeDecision (w : Verify) : Option Verdict :=
  let read := w.hits + w.misses
  match w.settings.mode with
  | .full => if read < w.ne then none else if w.misses ≤ w.ae then some .severed else some .uncut
  | .early => if w.ae < w.misses then some .uncut else if read < w.ne then none else some .severed
  | .off => some .severed

/-- CHECK: PROBE_BEAM read once, counted, and the decision taken (R121, R122). -/
def checkPoint (raise : Raiser) (s : State) : State :=
  match s.probe.work with
  | none => s
  | some w =>
    let w := if asserted s 6 then { w with hits := w.hits + 1, timer := none }
             else { w with misses := w.misses + 1, timer := none }
    let s := s.withProbe { s.probe with state := .check, work := some w }
    match probeDecision w with
    | some v => giveVerdict raise w w.ne w.hits w.misses v s
    | none =>
      let w := { w with index := w.index + 1 }
      presentProbeMove w (s.withProbe { s.probe with work := some w })

/-- ROUTER_DONE completes the CUT: the tab VERIFYING and the router VERIFY, the verify begun whatever the latches,
and the wear added (R75, R95, R101, R102, R116). A fault of that wear finds the verify begun, and in mode OFF its
verdict given. Log entry 12. -/
def completeCut (raise : Raiser) (op : Operation) (s : State) : State :=
  let s := s.withPorts { s.ports with router := Port.done s.ports.router }
  let s := if op.orphan then s else setTab op.tab .verifying s
  addWear raise (cutWear op.record) (verifyGo raise (verifySetup op s))

/-- ROUTER_DONE completes MOVE_CLEAR: the position is known and the waiting order is presented, a CUT
subject to R94 (R93). -/
def completeMoveClear (s : State) : State :=
  let s := s.withPorts { s.ports with router := Port.done s.ports.router }
  let s := s.withRouter { s.router with clearance := false, timer := none }
  match s.router.state with
  | .idle => s
  | .cut =>
    match s.router.operation with
    | some op => presentOrHoldCut op s
    | none => s
  | .verify =>
    match s.probe.work with
    | some w => presentProbeMove w s
    | none => s

/-- ROUTER_DONE completes a PROBE_MOVE: the probe settles (R119, R120). -/
def completeProbeMove (s : State) : State :=
  let s := s.withPorts { s.ports with router := Port.done s.ports.router }
  match s.probe.work with
  | some w =>
    s.withProbe { s.probe with
      state := .settle, moveTimer := none, work := some { w with timer := some w.settings.settle } }
  | none => s

/-! ### The next cut (R72, R73) -/

/-- The tab waiting to be recut or verified again (R72 step 1). -/
def pendingTab (s : State) : Option (Fin 256) :=
  Table.first (fun _ r => decide (r.state = .recutPending) || decide (r.state = .verifyPending)) s.seq.tabs

/-- The role of a tab is RELEASE and its board is not HELD. -/
def awaitsHold (s : State) (t : Fin 256) : Bool :=
  match Table.get s.recipe.tabs t with
  | some d => decide (d.role = .release) && !decide (boardState s d.owner = some .held)
  | none => true

/-- The release tab of the held board, if it is UNCUT (R72 step 2). -/
def heldRelease (s : State) : Option (Fin 256) :=
  match Table.first (fun _ r => decide (r.state = .held)) s.seq.boards with
  | none => none
  | some b =>
    match releaseTab s b with
    | none => none
    | some t => if tabState s t = some .uncut then some t else none

/-- The rank of a tab in a window cut (R72 step 3). -/
def TabDef.rank (d : TabDef) : Nat :=
  if d.neighbour.isSome then 0 else if d.role = .relief then 1 else 2

/-- A needed UNCUT non-release tab, with its rank. -/
def candidate (s : State) (t : Fin 256) : Option (Fin 256 × Nat) :=
  match Table.get s.recipe.tabs t with
  | some d =>
    if d.role ≠ .release && tabState s t = some .uncut && (TabDef.boards d).any (boardLive s) then
      some (t, TabDef.rank d) else none
  | none => none

/-- The candidate of lowest rank, then lowest index. -/
def lowestRank : List (Fin 256 × Nat) → Option (Fin 256 × Nat)
  | [] => none
  | c :: rest =>
    match lowestRank rest with
    | none => some c
    | some m => if c.2 < m.2 || (decide (c.2 = m.2) && decide (c.1 ≤ m.1)) then some c else some m

/-- The tab a window board offers (R72 step 3). -/
def boardOffer (s : State) (b : Fin 64) : Option (Fin 256) :=
  (lowestRank ((tabsOf s b).filterMap (candidate s))).map Prod.fst

/-- The window cut (R72 step 3). -/
def windowCut (s : State) : Option (Fin 256) := (window s).findSome? (boardOffer s)

/-- The tab the Run Sequencer takes (R72); in HOLDING the window is not cut. -/
def chosenTab (s : State) : Option (Fin 256) :=
  match pendingTab s with
  | some t => if awaitsHold s t then none else some t
  | none =>
    match heldRelease s with
    | some t => some t
    | none => if s.cell.mode = .running then windowCut s else none

/-- The chosen operation started: the tab's state and attempts, and the hand-over (R73). -/
def startTab (raise : Raiser) (t : Fin 256) (s : State) : State :=
  match Table.get s.recipe.tabs t, tabRun s t, cuttingRecord s with
  | some d, some r, some p =>
    let op (n : Nat) : Operation := { tab := t, record := d, attempt := n, dx := p.dx, dy := p.dy, orphan := false }
    match r.state with
    | .uncut | .recutPending =>
      startCut (op (r.attempts + 1)) (modTab t (fun r => { state := .cutting, attempts := r.attempts + 1 }) s)
    | .verifyPending => verifyGo raise (verifySetup (op r.attempts) (setTab t .verifying s))
    | .cutting | .verifying | .severed | .faulted | .bypassed => s
  | _, _, _ => s

/-- The choice of the next cut, made whenever the router is IDLE and cutting is permitted (R72, R73). -/
def chooseCut (raise : Raiser) (s : State) : State :=
  if s.router.state = .idle && cuttingPermitted s then
    match chosenTab s with
    | some t => startTab raise t s
    | none => s
  else s

/-- A CUT held back after MOVE_CLEAR, presented when both conditions hold again (R94). -/
def presentHeldCut (s : State) : State :=
  match s.router.state, s.router.operation with
  | .cut, some op =>
    if !s.router.presented && !s.ports.router.inFlight then presentOrHoldCut op s else s
  | _, _ => s

/-- The hold on a board ends before it is freed: its release operation is stopped, and the board
returns to READY unless that has ended it (R86). -/
def holdEnds (raise : Raiser) (b : Fin 64) (s : State) : State :=
  let s :=
    match releaseTab s b with
    | some t =>
      if tabState s t = some .cutting || tabState s t = some .verifying then interruptRouter raise false s else s
    | none => s
  if boardState s b = some .held then setBoard b .ready s else s

end Sys2Proof.Machine
end

