-- ==== Sys2Proof/Machine/Picking.lean ====
section
/-! DEFINITION. The picker cycle: grant, grip, loss, drop, placement and return (chapter 7, R83 to R88, R143 to R145). -/

namespace Sys2Proof.Machine

/-- The picker may be granted an approach to the front board (R83). -/
def grantable (s : State) : Bool :=
  decide (s.picker.state = .idle) && decide (s.cell.mode = .running) && !latched s.faults &&
    !recordIn s.faults 9 12 && canReserve s

/-- The pick point of a board with its panel's offsets, and its height class (R84, R130). -/
def pickTarget (d : BoardDef) (p : PanelRec) : Target := { x := d.pickX + p.dx, y := d.pickY + p.dy, height := d.height }

/-- The grant: the lowest free nest reserved, the board's nest set, the picker sent (R84, R130, R144). -/
def grantBoard (b : Fin 64) (n : Fin 3) (d : BoardDef) (p : PanelRec) (r : BoardRun) (s : State) : State :=
  let e : NestEntry := { nest := n, board := b, serial := p.serial, disposition := r.disposition, state := .reserved }
  let s := s.withNests (s.nests ++ [e])
  let s := modBoard b (fun r => { r with nest := some n }) s
  dueMove (s.withPicker { s.picker with
    state := .approach, board := some b, serial := some p.serial, nest := some n
    target := some (pickTarget d p), retry := false, withdrawn := false })

/-- The picker grant, made at the moment its last condition comes to hold (R83). -/
def grant (s : State) : State :=
  if grantable s then
    match front s with
    | none => s
    | some b =>
      match boardRun s b, freeNest s, Table.get s.recipe.boards b, cuttingRecord s with
      | some r, some n, some d, some p => if r.state = .ready then grantBoard b n d p r s else s
      | _, _, _, _ => s
  else s

/-- A stalled move presented again when R129 permits it. -/
def presentStalled (s : State) : State :=
  if s.picker.stalled && moveMayResume s then presentMove s else s

/-- The board is gripped: HOLDING, reported, and the board HELD (R131, R133, R85). -/
def gripped (s : State) : State :=
  let s := s.withPicker { s.picker with state := .holding, gripTimer := none }
  match s.picker.board with
  | some b => if boardState s b = some .ready then setBoard b .held s else s
  | none => s

/-- VACUUM_ON goes on and the grip timer starts; a VACUUM_OK already asserted grips at once (R131). -/
def startGrip (s : State) : State :=
  let s := setVacuum true (s.withPicker { s.picker with gripTimer := some s.picker.gripTime, vacOffTimer := none })
  if asserted s 5 then gripped s else s

/-- GRIPPING entered at the end of an approach (R130). -/
def enterGrip (s : State) : State := startGrip (s.withPicker { s.picker with state := .gripping, retry := false })

/-- The 50 ms pause with the vacuum off, before a retry or a regrip (R131, R134). -/
def vacuumPause (retry : Bool) (s : State) : State :=
  setVacuum false (s.withPicker { s.picker with
    state := .gripping, retry := retry, gripTimer := none, vacOffTimer := some 50 })

/-- A failed grip: GRIP_FAILED, the reservation released, home (R131, R85). -/
def gripFails (raise : Raiser) (s : State) : State :=
  match s.picker.board with
  | some b =>
    let s := setVacuum false (s.withPicker { s.picker with gripTimer := none, vacOffTimer := none })
    enterReturning (releaseReservation b (raise Source.gripFailed (.board b) s))
  | none => enterReturning (setVacuum false s)

/-- The regrip mark of a board; a board without a runtime record has no regrip. -/
def regripUsed (s : State) (b : Fin 64) : Bool :=
  match boardRun s b with
  | some r => r.regrip
  | none => true

/-- VACUUM_OK deasserts while HOLDING (R134, R135, R86, R87): VACUUM_LOST, the loss reported with the regrip mark set
in every case, and a regrip or a failed grip; a board that the raise or the report has failed or abandoned has been
let go. -/
def holdLost (raise : Raiser) (b : Fin 64) (s : State) : State :=
  let s := raise Source.vacuumLost (.board b) s
  let used := regripUsed s b
  let s := modBoard b (fun r => { r with regrip := true }) s
  if s.picker.state = .holding && s.picker.board = some b then
    let s := holdEnds raise b s
    if s.picker.state = .holding && s.picker.board = some b then
      if used then gripFails raise s else vacuumPause false s
    else s
  else s

/-- VACUUM_OK deasserts while CARRYING a board: it is dropped (R136, R88). -/
def boardDropped (raise : Raiser) (b : Fin 64) (s : State) : State :=
  let s := raise Source.boardDropped (.board b) (setVacuum false s)
  let s := boardLostEarly b s
  let s := s.withPicker { s.picker with board := none, serial := none, nest := none }
  if s.picker.stalled then s.withPicker { s.picker with state := .returning, target := none } else s

/-- The placement is confirmed: entry OCCUPIED, board QUEUED, outstanding + 1, home (R137, R145, R88). -/
def placementConfirmed (b : Fin 64) (n : Fin 3) (s : State) : State :=
  let s := s.withNests (s.nests.map fun e =>
    if e.nest = n && e.state = .reserved then { e with state := .occupied } else e)
  let s := tallyCutting (fun r => { r with outstanding := r.outstanding + 1 }) (setBoard b .queued s)
  enterReturning s

/-- The window expires unconfirmed: NEST_MISMATCH, the entry removed, the board LOST, home (R137, R145). -/
def placementRefused (raise : Raiser) (b : Fin 64) (n : Fin 3) (s : State) : State :=
  let s := raise Source.nestMismatch (.nest n) (s.withPicker { s.picker with windowTimer := none })
  enterReturning (boardLostEarly b s)

/-- The picker's move stopped where one is in flight, and stalled (R129, R140). -/
def stallMove (s : State) : State :=
  if s.ports.picker.inFlight then
    let s := s.withPorts { s.ports with picker := Port.stop s.ports.picker }
    s.withPicker { s.picker with moveTimer := none, stalled := true }
  else s

/-- PICKER_DONE completes the picker's move: the state's next step (R129, R130, R137, R138). -/
def completeMove (s : State) : State :=
  let s := s.withPorts { s.ports with picker := Port.done s.ports.picker }
  let s := s.withPicker { s.picker with moveTimer := none }
  match s.picker.state with
  | .approach => if s.picker.withdrawn then enterReturning s else enterGrip s
  | .carrying =>
    match s.picker.board with
    | some _ =>
      let s := s.withOutputs { s.outputs with vacuumOn := false, blowOff := true }
      s.withPicker { s.picker with state := .placing, blowTimer := some s.picker.blowTime }
    | none => enterReturning s
  | .returning =>
    s.withPicker { s.picker with
      state := .idle, board := none, serial := none, nest := none, target := none
      retry := false, withdrawn := false, stalled := false }
  | .idle | .gripping | .holding | .placing => s

end Sys2Proof.Machine
end

