-- ==== Sys2Proof/Machine/Stacking.lean ====
section
/-! DEFINITION. The stacker cycle (chapter 8, R146, R149 to R162). -/

namespace Sys2Proof.Machine

/-! ### Orders -/

/-- A transfer order that falls due: presented, or held back (R153, R155). -/
def dueTransfer (o : Order) (s : State) : State :=
  if freeToMove s then
    let s := s.withPorts { s.ports with transfer := Port.present o s.ports.transfer }
    s.withStacker { s.stacker with transferTimer := some 3000, heldTransfer := none }
  else s.withStacker { s.stacker with heldTransfer := some o }

/-- An elevator order that falls due: presented, or held back (R153, R155). -/
def dueElevate (o : Order) (s : State) : State :=
  if freeToMove s then
    let s := s.withPorts { s.ports with elevator := Port.present o s.ports.elevator }
    s.withStacker { s.stacker with elevateTimer := some 4000, heldElevate := none }
  else s.withStacker { s.stacker with heldElevate := some o }

/-- ELEVATE for the bay's next slot, which becomes the slot in hand (R154, R156). -/
def elevateFor (x : Bay) (s : State) : State :=
  match (bayOf s x).desc with
  | none => s
  | some d =>
    match d.next with
    | none => s
    | some n =>
      dueElevate (.elevate x (Profile.height d.values n))
        (s.withStacker { s.stacker with slot := some n, elevated := false })

/-- The transfer order of the stage is in flight or held back. -/
def transferBusy (s : State) : Bool := s.ports.transfer.inFlight || s.stacker.heldTransfer.isSome

/-- An elevator order in flight stopped, its mark and timer cleared (R146, R160). A held-back one is dropped: the
model's choice (log entry 38 for R146, log entry 22 for R160). -/
def stopElevate (s : State) : State :=
  let s := s.withPorts { s.ports with elevator := Port.stop s.ports.elevator }
  s.withStacker { s.stacker with elevateTimer := none, heldElevate := none }

/-- The stacker IDLE with nothing in hand, its marks clear and its timers stopped (R158, R162). -/
def stackerIdle (s : State) : State := s.withStacker Stacker.reset

/-- PUSH. -/
def setPush (on : Bool) (s : State) : State := s.withOutputs { s.outputs with push := on }

/-! ### Bay choice and target bay -/

/-- The bay a GOOD board may go to: the ACTIVE bay, or a READY one, A before B (R154). -/
def bayChoice (s : State) : Option Bay :=
  if s.bays.a.state = .active then some .a
  else if s.bays.b.state = .active then some .b
  else if s.bays.a.state = .ready then some .a
  else if s.bays.b.state = .ready then some .b
  else none

/-- The bay chosen becomes ACTIVE and the board's target (R154). -/
def takeBay (x : Bay) (s : State) : State :=
  let s := setBay x { bayOf s x with state := .active } s
  s.withStacker { s.stacker with target := some x }

/-- The board in hand loses its target bay before a push (R160). -/
def loseTarget (s : State) : State :=
  let s := stopElevate s
  s.withStacker { s.stacker with target := none, slot := none, elevated := false }

/-- A GOOD board is in hand without a target bay, before its push. -/
def untargeted (s : State) : Bool :=
  (match s.stacker.hand with
   | some h => decide (h.disposition = .good)
   | none => false) && s.stacker.target.isNone &&
    match s.stacker.state with
    | .fetch | .checkSlot | .present | .waitBay => true
    | .idle | .push | .confirm | .divert => false

/-- The bay choice made again for a board without a target bay (R154, R160); in FETCH the fetch goes on
(log entry 11). -/
def retarget (s : State) : State :=
  if untargeted s then
    match bayChoice s with
    | some x =>
      let s := elevateFor x (takeBay x s)
      if s.stacker.state = .fetch then s else s.withStacker { s.stacker with state := .checkSlot }
    | none => s
  else s

/-- WAIT_BAY entered by a board without a bay once its transfer order is complete (R155, R160). -/
def awaitBay (s : State) : State :=
  if untargeted s && !transferBusy s && decide (s.stacker.state ≠ .fetch) then
    s.withStacker { s.stacker with state := .waitBay }
  else s

/-! ### The stages -/

/-- A cycle begins: the head entry in hand, the bay choice, FROM_NEST and ELEVATE (R154). -/
def startCycle (s : State) : State :=
  if s.stacker.state = .idle && freeToMove s then
    match s.nests with
    | [] => s
    | e :: _ =>
      if e.state = .occupied then
        let h : Hand := { board := e.board, serial := e.serial, disposition := e.disposition, nest := e.nest }
        let s := s.withStacker { s.stacker with state := .fetch, hand := some h, target := none, slot := none, elevated := false }
        let s := dueTransfer (.fromNest e.nest) s
        if e.disposition = .good then
          match bayChoice s with
          | some x => elevateFor x (takeBay x s)
          | none => s
        else s
      else s
  else s

/-- The reading of CHECK_SLOT: on to PRESENT, or the slot BLOCKED and the next one tried (R156). -/
def checkSlot (x : Bay) (slot : Nat) (s : State) : State :=
  if asserted s 8 then
    let s := advance x (setSlot x slot .blocked s)
    if (bayOf s x).state = .active then elevateFor x s else loseTarget s
  else dueTransfer .toMouth (s.withStacker { s.stacker with state := .present })

/-- The reading is taken once ELEVATE is complete and no transfer order is under way (R156, R160). -/
def tryCheck (s : State) : State :=
  match s.stacker.target, s.stacker.slot with
  | some x, some slot =>
    if s.stacker.state = .checkSlot && s.stacker.elevated && !transferBusy s then checkSlot x slot s else s
  | _, _ => s

/-- The fetch has ended: the entry leaves the queue and the next stage follows (R146, R155). -/
def fetchEnds (h : Hand) (s : State) : State :=
  let s := s.withNests (s.nests.filter fun e => decide (e.nest ≠ h.nest))
  let s := clearBoardNest h.serial h.board s
  let s := s.withStacker { s.stacker with nestClear := none }
  if h.disposition = .good then
    match s.stacker.target with
    | some _ => tryCheck (s.withStacker { s.stacker with state := .checkSlot })
    | none => s.withStacker { s.stacker with state := .waitBay }
  else dueTransfer .toChute (s.withStacker { s.stacker with state := .divert })

/-- TRANSFER_DONE completes FROM_NEST (R146). -/
def completeFromNest (s : State) : State :=
  match s.stacker.hand with
  | some h =>
    if asserted s (nestLine h.nest) then s.withStacker { s.stacker with nestClear := some 200 } else fetchEnds h s
  | none => s

/-- The leave step of the stroke (R157). -/
def startLeave (s : State) : State :=
  setPush true (s.withStacker { s.stacker with homeWait := none, leave := some 300 })

/-- The stroke from its home wait (R157). -/
def startStroke (s : State) : State :=
  if asserted s 7 then startLeave s else s.withStacker { s.stacker with homeWait := some 1500 }

/-- PUSH entered; the stroke begins, or is held back (R157, R153). DESIGN CHOICE (log entry 36): what is held back is
the stroke with its home wait, which does not run until the stacker is free to move. -/
def enterPush (s : State) : State :=
  let s := s.withStacker { s.stacker with state := .push }
  if freeToMove s then startStroke s else s.withStacker { s.stacker with heldStroke := true }

/-- The push has failed (R157). -/
def pushFails (raise : Raiser) (s : State) : State :=
  match s.stacker.hand, s.stacker.target, s.stacker.slot with
  | some h, some x, some slot =>
    let s := setPush false (stackerIdle s)
    let s := raise Source.pushFault (.bay x) s
    advance x (reportLost h.serial h.board (setSlot x slot .blocked s))
  | _, _, _ => s

/-- The slot in hand settled FILLED and the board STACKED (R158). -/
def slotFilled (h : Hand) (x : Bay) (slot : Nat) (s : State) : State :=
  let s := setSlot x slot (.filled h.board h.serial) (stackerIdle s)
  let r := bayOf s x
  let s := setBay x { r with desc := r.desc.map fun d => { d with filled := d.filled + 1 } } s
  advance x (reportStacked h.serial h.board x slot s)

/-- CONFIRM: SLOT_OCCUPIED read once (R158). -/
def confirm (raise : Raiser) (s : State) : State :=
  match s.stacker.hand, s.stacker.target, s.stacker.slot with
  | some h, some x, some slot =>
    let s := s.withStacker { s.stacker with state := .confirm }
    if asserted s 8 then slotFilled h x slot s
    else
      let s := reportLost h.serial h.board (setSlot x slot .blocked (stackerIdle s))
      advance x (raise Source.pushFault (.bay x) s)
  | _, _, _ => s

/-- The recovery of a push cut short, with the pusher home (R161). -/
def recoverPush (s : State) : State :=
  let s := s.withStacker { s.stacker with recovering := false, homeWait := none }
  match s.stacker.hand, s.stacker.target, s.stacker.slot with
  | some h, some x, some slot => if asserted s 8 then slotFilled h x slot s else startLeave s
  | _, _, _ => s

/-- PUSHER_HOME asserts (R157, R161). DESIGN CHOICE (log entry 36): a home wait that runs counts as a stroke in
progress, so the leave step starts at the assertion even while the stacker is not free to move. -/
def pusherHome (raise : Raiser) (s : State) : State :=
  if s.stacker.homeWait.isSome then
    if s.stacker.recovering then recoverPush s else startLeave s
  else if s.stacker.return_.isSome then
    confirm raise (setPush false (s.withStacker { s.stacker with return_ := none }))
  else s

/-- PUSHER_HOME deasserts: within the leave time the return timer starts (R157). -/
def pusherLeaves (s : State) : State :=
  if s.stacker.leave.isSome then s.withStacker { s.stacker with leave := none, return_ := some 1500 } else s

/-- TRANSFER_DONE completes TO_MOUTH (R157, R160). -/
def completeToMouth (s : State) : State :=
  match s.stacker.state with
  | .present =>
    match s.stacker.target with
    | some _ => enterPush s
    | none => s
  | .checkSlot => tryCheck s
  | .idle | .fetch | .push | .confirm | .divert | .waitBay => s

/-- TRANSFER_DONE completes TO_CHUTE: CHUTE_GATE on and the chute window (R159). -/
def completeToChute (s : State) : State :=
  let s := s.withOutputs { s.outputs with chuteGate := true }
  s.withStacker { s.stacker with chuteWindow := some 1000 }

/-- TRANSFER_DONE completes the transfer order in flight. -/
def completeTransfer (s : State) : State :=
  match Port.flying s.ports.transfer with
  | none => s
  | some o =>
    let s := s.withPorts { s.ports with transfer := Port.done s.ports.transfer }
    let s := s.withStacker { s.stacker with transferTimer := none }
    match o with
    | .fromNest _ => completeFromNest s
    | .toMouth => completeToMouth s
    | .toChute => completeToChute s
    | .cut _ _ _ _ _ | .probeMove _ _ | .moveClear | .approach _ _ _ | .carry _ | .home | .elevate _ _ => s

/-- ELEVATOR_DONE completes ELEVATE (R156). -/
def completeElevate (s : State) : State :=
  let s := s.withPorts { s.ports with elevator := Port.done s.ports.elevator }
  tryCheck (s.withStacker { s.stacker with elevateTimer := none, elevated := true })

/-- CHUTE_GATE off and the stacker IDLE at the end of a diversion (R159). -/
def endDivert (s : State) : State := stackerIdle (s.withOutputs { s.outputs with chuteGate := false })

/-- A CHUTE_PASS edge with the gate on: the board CHUTED (R159). -/
def chutePassed (s : State) : State :=
  match s.stacker.hand with
  | some h =>
    if s.outputs.chuteGate && s.stacker.chuteWindow.isSome then
      endDivert (reportChuted h.serial h.board s)
    else s
  | none => s

/-- The chute window expires: CHUTE_MISSED, the board LOST (R159). -/
def chuteMissed (raise : Raiser) (s : State) : State :=
  match s.stacker.hand with
  | some h =>
    let s := raise Source.chuteMissed (.board h.board) (s.withStacker { s.stacker with chuteWindow := none })
    endDivert (reportLost h.serial h.board s)
  | none => s

/-- The nest clear window expires: the fetch has failed and the entry stays (R146). DESIGN CHOICE (log entry 38): an
ELEVATE that is held back at that moment is dropped with the failed fetch. -/
def fetchFails (raise : Raiser) (h : Hand) (s : State) : State :=
  let s := raise Source.nestMismatch (.nest h.nest) (s.withStacker { s.stacker with nestClear := none })
  stackerIdle (stopElevate s)

/-- What a push stands for when the stacker becomes free to move: a held-back stroke begins, a push cut
short is recovered (R153, R161). -/
def resumePush (s : State) : State :=
  if s.stacker.state = .push && freeToMove s then
    if s.stacker.recovery then
      let s := s.withStacker { s.stacker with recovery := false, recovering := true, heldStroke := false }
      if asserted s 7 then recoverPush s else s.withStacker { s.stacker with homeWait := some 1500 }
    else if s.stacker.heldStroke then startStroke (s.withStacker { s.stacker with heldStroke := false })
    else s
  else s

/-- The held-back orders presented when the stacker becomes free to move (R153). -/
def presentHeldBack (s : State) : State :=
  if freeToMove s then
    let s := match s.stacker.heldTransfer with
      | some o => dueTransfer o s
      | none => s
    match s.stacker.heldElevate with
    | some o => dueElevate o s
    | none => s
  else s

/-- ALL_STOP at the stacker (R161): orders stopped and held back, PUSH off, a push marked for recovery. -/
def haltStacker (s : State) : State :=
  let s := match Port.flying s.ports.transfer with
    | some o =>
      let s := s.withPorts { s.ports with transfer := Port.stop s.ports.transfer }
      s.withStacker { s.stacker with transferTimer := none, heldTransfer := some o }
    | none => s
  let s := match Port.flying s.ports.elevator with
    | some o =>
      let s := s.withPorts { s.ports with elevator := Port.stop s.ports.elevator }
      s.withStacker { s.stacker with elevateTimer := none, heldElevate := some o }
    | none => s
  let s := setPush false s
  if s.stacker.homeWait.isSome || s.stacker.leave.isSome || s.stacker.return_.isSome then
    s.withStacker { s.stacker with
      homeWait := none, leave := none, return_ := none, recovering := false, recovery := true }
  else s

/-- A timed-out transfer or elevator order is stopped and held back (R155). -/
def transferTimesOut (raise : Raiser) (s : State) : State :=
  match Port.flying s.ports.transfer, s.stacker.hand with
  | some o, some h =>
    let s := s.withPorts { s.ports with transfer := Port.stop s.ports.transfer }
    let s := s.withStacker { s.stacker with transferTimer := none, heldTransfer := some o }
    raise Source.transferTimeout (.board h.board) s
  | _, _ => s

/-- R155, with the order's bay as detail. -/
def elevatorTimesOut (raise : Raiser) (s : State) : State :=
  match Port.flying s.ports.elevator with
  | some (.elevate x height) =>
    let s := s.withPorts { s.ports with elevator := Port.stop s.ports.elevator }
    let s := s.withStacker { s.stacker with elevateTimer := none, heldElevate := some (.elevate x height) }
    raise Source.elevatorTimeout (.bay x) s
  | _ => s

/-! ### Bays coming and going -/

/-- BAY_x_CHANGED, with the bay's state as payload (R149, R21). -/
def bayChanged (x : Bay) (s : State) : State :=
  raiseNotice (bayChangedNotice x) [b8 (BayState.code (bayOf s x).state)] s

/-- The bay's presence line asserts (R149). -/
def bayInserted (x : Bay) (s : State) : State :=
  if (bayOf s x).state = .absent then bayChanged x (setBay x { bayOf s x with state := .present } s) else s

/-- The board in hand of a bay withdrawn (R160). -/
def targetWithdrawn (x : Bay) (s : State) : State :=
  if s.stacker.target = some x then
    match s.stacker.state with
    | .push | .confirm =>
      match s.stacker.hand with
      | some h => stackerIdle (setPush false (reportLost h.serial h.board s))
      | none => stackerIdle (setPush false s)
    | .idle | .fetch | .checkSlot | .present | .divert | .waitBay => loseTarget s
  else s

/-- The bay's presence line deasserts (R149). -/
def bayWithdrawn (raise : Raiser) (x : Bay) (s : State) : State :=
  match (bayOf s x).state with
  | .absent => s
  | .present | .complete => bayChanged x (setBay x BayRec.reset s)
  | .ready => raise Source.bayPulled (.bay x) (setBay x BayRec.reset s)
  | .active => targetWithdrawn x (raise Source.bayPulled (.bay x) (setBay x BayRec.reset s))

/-- The descriptor and map built from a profile (R150). -/
def loadBay (x : Bay) (i : Fin 4) (p : Profile) (s : State) : State :=
  let d : FillDesc := { profile := i, values := p, visit := 0, next := Profile.visitSlot p 0, filled := 0 }
  let m := (List.range p.slots).map fun n => if Profile.onPath p n then SlotState.open_ else .unused
  setBay x { state := .ready, desc := some d, map := m, retire := false } s

/-- A bay retired with no push in progress: COMPLETE at once, and the board in hand loses it (R151). -/
def retireNow (x : Bay) (s : State) : State :=
  let s := completeBay x s
  if s.stacker.target = some x then loseTarget s else s

end Sys2Proof.Machine
end

