-- ==== Sys2Proof/Machine/Halt.lean ====
section
/-! DEFINITION. A raise with what a new ALL_STOP does to the units (R57, R90, R111, R140, R161, R178). -/

namespace Sys2Proof.Machine

/-- ALL_STOP at the spindle: turned off where SPINDLE_RUN is on, the restart mark set (R57, R111). -/
def haltSpindle (s : State) : State :=
  if s.outputs.spindleRun then
    let s := stopSpindle s
    s.withCell { s.cell with restart := true }
  else s

/-- What the units do when ALL_STOP becomes set (R111, R125, R140, R161). A fault raised by it finds
the latch set already and stops nothing more (R111). -/
def allStopUnits (s : State) : State :=
  interruptRouter raiseRecord false (haltStacker (stallMove (haltSpindle s)))

/-- A raise of a fault source (R178), with the reaction of the units where it sets ALL_STOP (R176). -/
def raise : Raiser := fun src d s =>
  let s1 := raiseRecord src d s
  if s1.faults.allStop && !s.faults.allStop then allStopUnits s1 else s1

end Sys2Proof.Machine
end

