-- ==== Sys2Proof/Machine/Settle.lean ====
section
/-! DEFINITION. What follows a command at the same moment: the standing conditions each block acts on, and the outbound line (R15). -/

namespace Sys2Proof.Machine

/-! ### Park and wake (R60 to R62) -/

/-- PARKED raised with the return mode (R60). -/
def raiseParked (s : State) : State :=
  raiseNotice Notice.parked [optByte (s.cell.ret.map Mode.code)] s

/-- The cell parks (R60). -/
def parkCell (s : State) : State :=
  let s := s.withCell { s.cell with ret := some s.cell.mode, idleTimer := none, mode := .parked }
  let s := stopSpindle s
  if s.spindle.state = .stopped then raiseParked s else s

/-- A cause latch cleared by its role's own action: standing while the level stands (R169). -/
def AuxLine.taken (a : AuxLine) : AuxLine := { a with latch := if levelStands a then .standing else .clear }

/-- One aux line replaced. -/
def setAux (n : Fin 4) (a : AuxLine) (s : State) : State :=
  s.withLines { s.lines with aux := setAt s.lines.aux n a }

/-- The latch of an enabled WAKE line cleared by the start of a wake (R62). -/
def AuxLine.woken (a : AuxLine) : AuxLine :=
  if a.role = .wake && a.enable && a.latch ≠ .clear then AuxLine.taken a else a

/-- A wake starts (R62). -/
def startWake (s : State) : State :=
  let s := clearNotice Notice.parked s
  let s := s.withLines { s.lines with aux := s.lines.aux.map AuxLine.woken }
  if s.faults.allStop then s.withCell { s.cell with mode := .halted, restart := true }
  else if s.faults.cutStop then startSpindle (s.withCell { s.cell with mode := .halted })
  else startSpindle (s.withCell { s.cell with mode := .waking })

/-! ### The hold (R54, R55) -/

/-- The hold can be taken in the present mode (R54, first four rows). -/
def holdTakeable (s : State) : Bool :=
  match s.cell.mode with
  | .running | .holding | .held => true
  | .halted =>
    match s.cell.ret with
    | some .running | some .holding | some .held => true
    | _ => false
  | .unconfigured | .idle | .parked | .waking => false

/-- Taking the hold (R54). -/
def takeHold (s : State) : State :=
  let s := s.withCell { s.cell with holdLatch := true }
  match s.cell.mode with
  | .running => enterMode .holding s
  | .halted => if s.cell.ret = some .running then s.withCell { s.cell with ret := some .holding } else s
  | .unconfigured | .idle | .holding | .held | .parked | .waking => s

/-- The pending tab would be started at once (R55). -/
def pendingWouldStart (s : State) : Bool :=
  match pendingTab s with
  | some t => !awaitsHold s t && cuttingPermitted s
  | none => false

/-- The boundary of a hold (R55). -/
def atBoundary (s : State) : Bool :=
  decide (s.router.state = .idle) &&
    (decide (s.picker.state = .idle) || decide (s.picker.state = .returning)) && !pendingWouldStart s

/-- HOLDING goes to HELD at the boundary (R55). -/
def boundary (s : State) : State :=
  if s.cell.mode = .holding && atBoundary s then enterMode .held s else s

/-! ### Roles of the aux lines (R170) -/

/-- The notice of an aux line. -/
def auxNotice (n : Fin 4) : Notice := ⟨11 + n.val, by omega⟩

/-- The fault source of an aux line. -/
def auxSource (n : Fin 4) : Source := ⟨19 + n.val, by omega⟩

/-- The number of an aux line in a detail (R14). -/
def auxDetail (n : Fin 4) : Fin 20 := ⟨16 + n.val, by omega⟩

/-- A standing HOLD latch takes the hold (R170). -/
def standingHold (s : State) : Bool :=
  !s.cell.holdLatch &&
    (decide (s.cell.mode = .running) || (decide (s.cell.mode = .halted) && decide (s.cell.ret = some .running)))

/-- The HOLD role of a line (R54, R170). -/
def auxHold (n : Fin 4) (s : State) : State :=
  let a := getAt s.lines.aux n
  if a.role = .hold && a.enable then
    match a.latch with
    | .set => if holdTakeable s then takeHold (setAux n (AuxLine.taken a) s) else s
    | .standing => if standingHold s then takeHold (setAux n (AuxLine.taken a) s) else s
    | .clear => s
  else s

/-- The role of a line acts on its cause latch (R170). -/
def auxRole (s : State) (n : Fin 4) : State :=
  let a := getAt s.lines.aux n
  if !a.enable then s
  else match a.role with
  | .notice => if a.latch = .set then raiseNotice (auxNotice n) [] s else s
  | .hold => auxHold n s
  | .fault =>
    if a.latch = .set then raise (auxSource n) (.line (auxDetail n)) (setAux n (AuxLine.taken a) s) else s
  | .wake => if a.latch ≠ .clear && s.cell.mode = .parked then startWake s else s

/-- The roles of X0 to X3, in order. -/
def auxRoles (s : State) : State := [(0 : Fin 4), 1, 2, 3].foldl auxRole s

/-! ### The idle-park timer (R61) -/

/-- The idle-park timer's conditions hold (R61). -/
def idleParkHolds (s : State) : Bool :=
  decide (s.cell.mode = .idle) && s.seq.records.isEmpty && decide (s.stacker.state = .idle)

/-- The idle-park timer runs exactly while its conditions hold and its time is not 0 (R61). -/
def idleTimer (s : State) : State :=
  s.withCell { s.cell with
    idleTimer := if idleParkHolds s && s.spindle.parkTime ≠ 0 then some s.spindle.parkTime else none }

/-! ### One moment -/

/-- The conditions each block acts on at the moment they come to hold, taken once in a fixed order:
log entry 12. -/
def settlePass (s : State) : State :=
  let s := presentHeldCut (presentStalled (auxRoles (recordTest s)))
  let s := grant (boundary (chooseCut raise s))
  let s := resumePush (presentHeldBack s)
  idleTimer (startCycle (awaitBay (retarget s)))

/-- Two passes: what one reaction makes possible for a block earlier in the order follows at the same
moment. -/
def settle (s : State) : State := settlePass (settlePass s)

/-! ### The outbound line (R15) -/

/-- HIGH notices (section 1.6). -/
def Notice.high (n : Notice) : Bool := decide (n.val = 0) || decide (n.val = 1) || decide (n.val = 4) || decide (n.val = 5)

/-- Waits for the outbound line (R16). -/
def NoticeRec.sendable (r : NoticeRec) : Bool := r.raised && r.enabled && !r.sent

/-- The notices in the order of their urgency: HIGH before LOW, then the lower number (R15). -/
def noticesByUrgency : List Notice := [0, 1, 4, 5, 2, 3, 6, 7, 8, 9, 10, 11, 12, 13, 14, 15]

/-- The most urgent sendable notice (R15). -/
def nextNotice (s : State) : Option Notice :=
  noticesByUrgency.find? fun n => NoticeRec.sendable (getAt s.notices n)

/-- The frame of the reply in the slot (R11). -/
def Slot.frame (x : Slot) : Tx := { what := .reply, bytes := encodeFrame (replyKind x.kind) x.tag x.reply }

/-- The frame of an OVERRUN answer (R11, status 10). -/
def Answer.frame (a : Answer) : Tx := { what := .overrun, bytes := encodeFrame a.kind a.tag [10] }

/-- The frame of a notice (R21). -/
def noticeFrame (n : Notice) (r : NoticeRec) : Tx :=
  { what := .notice n false, bytes := encodeFrame 0xFE 0 (b8 n.val :: r.payload) }

/-- The oldest owed reply (R15). -/
def owedFrame (k : Link) : Option Tx :=
  match k.slot, k.overrun with
  | none, [] => none
  | none, a :: _ => some (Answer.frame a)
  | some x, [] => some (Slot.frame x)
  | some x, a :: _ => some (if x.ahead = 0 then Slot.frame x else Answer.frame a)

/-- The frame a free line begins with (R15). -/
def nextFrame (s : State) : Option Tx :=
  match owedFrame s.link with
  | some t => some t
  | none => (nextNotice s).map fun n => noticeFrame n (getAt s.notices n)

/-- A free outbound line begins the next frame (R15). -/
def linkKick (s : State) : State :=
  if s.link.tx.isNone then s.withLink { s.link with tx := nextFrame s } else s

/-- What ends every command: the reactions of the moment, and the outbound line. -/
def finish (s : State) : State := linkKick (settle s)

end Sys2Proof.Machine
end

