-- ==== Sys2Proof/Machine/Lines.lean ====
section
/-! DEFINITION. Field lines: filters, acceptances, and what each change does in the units (chapter 9, R147, R149). -/

namespace Sys2Proof.Machine

/-! ### The filter (R164, R165) -/

/-- One sample read by a filter (R164); while the level is unknown, three consecutive samples that agree
set it (R165). -/
def Filter.sample (v : Bool) (f : Filter) : Filter :=
  match f.level with
  | some l =>
    if v = l then { f with count := 0, seen := v }
    else if 2 ≤ f.count then { level := some v, count := 0, seen := v }
    else { f with count := f.count + 1, seen := v }
  | none =>
    if f.count = 0 || f.seen ≠ v then { f with count := 1, seen := v }
    else if 2 ≤ f.count then { level := some v, count := 0, seen := v }
    else { f with count := f.count + 1, seen := v }

/-- Three samples of one value (R164). Log entry 13. -/
def Filter.accept (v : Bool) (f : Filter) : Filter := Filter.sample v (Filter.sample v (Filter.sample v f))

/-- A filter restarted from the present input (R166, R171). -/
def Filter.restart (v : Bool) : Filter := { level := some v, count := 0, seen := v }

/-- A raw input read through a sense, and a level turned back into its input (R164). -/
def throughSense (sense : Sense) (v : Bool) : Bool :=
  match sense with
  | .activeHigh => v
  | .activeLow => !v

/-- A dedicated line after the acceptance of a level. -/
def DedLine.accept (v : Bool) (l : DedLine) : DedLine :=
  { l with filter := Filter.accept v l.filter }

/-- An aux line after the acceptance of a level, high or low. -/
def AuxLine.accept (v : Bool) (a : AuxLine) : AuxLine :=
  { a with filter := Filter.accept v a.filter }

/-- One dedicated line replaced. -/
def setDed (l : Fin 16) (d : DedLine) (s : State) : State :=
  s.withLines { s.lines with ded := setAt s.lines.ded l d }

/-! ### Changes handed to the level consumers -/

/-- VACUUM_OK asserts (R131). -/
def vacuumAsserted (s : State) : State :=
  if s.picker.state = .gripping && s.picker.gripTimer.isSome && s.outputs.vacuumOn then gripped s else s

/-- VACUUM_OK deasserts (R134, R136). -/
def vacuumDeasserted (s : State) : State :=
  match s.picker.state, s.picker.board with
  | .holding, some b => holdLost raise b s
  | .carrying, some b => boardDropped raise b s
  | _, _ => s

/-- The reserved entry of a nest whose board the picker is placing (R147). -/
def placingOn (s : State) (n : Fin 3) : Bool :=
  decide (s.picker.state = .placing) && decide (s.picker.nest = some n) &&
    s.nests.any fun e => decide (e.nest = n) && decide (e.state = .reserved)

/-- A nest line asserts (R147, R137). -/
def nestAsserted (n : Fin 3) (s : State) : State :=
  if placingOn s n then
    match s.picker.windowTimer, s.picker.board with
    | some _, some b => placementConfirmed b n s
    | _, _ => s
  else raise Source.nestMismatch (.nest n) s

/-- The stacker is fetching the head entry from this nest (R147). -/
def fetchingFrom (s : State) (n : Fin 3) : Option Hand :=
  match s.nests, s.stacker.hand with
  | e :: _, some h =>
    if e.nest = n && e.state = .occupied && s.stacker.state = .fetch && h.nest = n then some h else none
  | _, _ => none

/-- The OCCUPIED entry of a nest. -/
def occupiedOn (s : State) (n : Fin 3) : Option NestEntry :=
  s.nests.find? fun e => decide (e.nest = n) && decide (e.state = .occupied)

/-- An OCCUPIED board taken from its nest without a fetch (R147, R89). -/
def nestTaken (e : NestEntry) (s : State) : State :=
  let s := s.withNests (s.nests.filter fun q => decide (q.nest ≠ e.nest))
  reportLost e.serial e.board (clearBoardNest e.serial e.board s)

/-- A nest line deasserts (R147, R146). -/
def nestDeasserted (n : Fin 3) (s : State) : State :=
  if placingOn s n then s
  else match fetchingFrom s n with
    | some h => if s.stacker.nestClear.isSome then fetchEnds h s else s
    | none =>
      let s := raise Source.nestMismatch (.nest n) s
      match occupiedOn s n with
      | some e => nestTaken e s
      | none => s

/-- The change of a dedicated line's level, assertion or deassertion, at its level consumers (R164). -/
def levelChange (l : Fin 16) (now : Bool) (s : State) : State :=
  match l.val, now with
  | 4, true => raise Source.driveFault (.line 4) s
  | 5, true => vacuumAsserted s
  | 5, false => vacuumDeasserted s
  | 7, true => pusherHome raise s
  | 7, false => pusherLeaves s
  | 9, true => bayInserted .a s
  | 9, false => bayWithdrawn raise .a s
  | 10, true => bayInserted .b s
  | 10, false => bayWithdrawn raise .b s
  | 11, true => nestAsserted 0 s
  | 11, false => nestDeasserted 0 s
  | 12, true => nestAsserted 1 s
  | 12, false => nestDeasserted 1 s
  | 13, true => nestAsserted 2 s
  | 13, false => nestDeasserted 2 s
  | 15, false => raise Source.doorOpen (.line 15) s
  | _, _ => s

/-- A level handed over where it has changed. From the unknown level a deasserted line changes nothing,
but for DOOR_CLOSED (R165). -/
def handOver (l : Fin 16) (before : Option Bool) (now : Bool) (s : State) : State :=
  match before with
  | some v => if v = now then s else levelChange l now s
  | none => if now || l.val = 15 then levelChange l now s else s

/-! ### Assertion edges (R173) -/

/-- ROUTER_DONE completes the order in flight (R93, R95, R119). -/
def routerDone (s : State) : State :=
  match Port.flying s.ports.router with
  | some (.cut _ _ _ _ _) =>
    match s.router.operation with
    | some op => completeCut raise op s
    | none => s
  | some .moveClear => completeMoveClear s
  | some (.probeMove _ _) => completeProbeMove s
  | _ => s

/-- PICKER_DONE completes the order in flight (R129). -/
def pickerDone (s : State) : State := if s.ports.picker.inFlight then completeMove s else s

/-- ELEVATOR_DONE completes the order in flight (R155). -/
def elevatorDone (s : State) : State := if s.ports.elevator.inFlight then completeElevate s else s

/-- An assertion edge at its edge consumers: the DONE lines and CHUTE_PASS (R164). -/
def edge (l : Fin 16) (s : State) : State :=
  match l.val with
  | 0 => routerDone s
  | 1 => pickerDone s
  | 2 => completeTransfer s
  | 3 => elevatorDone s
  | 14 => chutePassed s
  | _ => s

/-- The acceptance of a level on a dedicated line (R164, R165); the first is no assertion edge. -/
def acceptLine (l : Fin 16) (v : Bool) (s : State) : State :=
  let d := getAt s.lines.ded l
  let s := handOver l d.filter.level v (setDed l (DedLine.accept v d) s)
  if v && d.filter.level = some false then edge l s else s

/-! ### Aux lines (R169) -/

/-- A detection at the acceptance of a level (R169). -/
def DetectMode.detects (m : DetectMode) (high : Bool) : Bool :=
  match m with
  | .lowLevel => !high
  | .highLevel => high
  | .rising => high
  | .falling => !high
  | .both => true

/-- The cause latch at an acceptance: set by a detection, a standing one clear at the end of its
detection (R169). -/
def AuxLine.detect (high : Bool) (a : AuxLine) : AuxLine :=
  match a.latch with
  | .clear => if DetectMode.detects a.mode high then { a with latch := .set } else a
  | .standing => if DetectMode.detects a.mode high then a else { a with latch := .clear }
  | .set => a

/-- The acceptance of a level on an aux line; the first counts as a change (R169). -/
def acceptAux (n : Fin 4) (high : Bool) (s : State) : State :=
  let a := getAt s.lines.aux n
  if a.filter.level = some high then setAux n (AuxLine.accept high a) s
  else setAux n (AuxLine.detect high (AuxLine.accept high a)) s

/-- A latch cleared by a request or a reset: set again while the level stands (R169). -/
def AuxLine.relatch (a : AuxLine) : AuxLine := { a with latch := if levelStands a then .set else .clear }

/-! ### Restarts (R166, R171, R174) -/

/-- The input present at a pin at a restart: the one the outside has supplied for it, a free value where it has
supplied none. It need not be the level last accepted: the input may have moved since. Log entry 5. -/
def presentInput (pin : Option Bool) (s : State) : Bool × State :=
  match pin with
  | some v => (v, s)
  | none => (Config.freePin s.free, s.withFree (s.free + 1))

/-- A dedicated line's filter restarted from the input present at its pin, which it uses up; the level now (R166). -/
def restartDed (l : Fin 16) (sense : Sense) (period : SamplePeriod) (s : State) : Bool × State :=
  let d := getAt s.lines.ded l
  let p := presentInput d.pin s
  let v := throughSense sense p.1
  (v, setDed l { sense := sense, period := period, filter := Filter.restart v, pin := none } p.2)

/-- An aux line configured, its latch cleared and its filter restarted from the input present at its pin, which it
uses up (R171). -/
def restartAux (n : Fin 4) (mode : DetectMode) (role : AuxRole) (period : SamplePeriod) (enable : Bool)
    (s : State) : State :=
  let a := getAt s.lines.aux n
  let p := presentInput a.pin s
  let a : AuxLine :=
    { mode := mode, role := role, enable := enable, period := period
      filter := Filter.restart p.1, pin := none, latch := .clear }
  setAux n (AuxLine.relatch a) p.2

/-! ### The stop chain (R167) -/

/-- The stop chain filter accepts open (`true`) or closed. -/
def acceptStop (isOpen : Bool) (s : State) : State :=
  let before := s.lines.stop.level
  let s := s.withLines { s.lines with stop := Filter.accept isOpen s.lines.stop }
  if isOpen && before ≠ some true then raise Source.stopChain .none s else s

end Sys2Proof.Machine
end

