-- ==== Sys2Proof/Machine/LineEvents.lean ====
section
/-! DEFINITION. The events of the field lines (chapter 9, R164 to R169). -/

namespace Sys2Proof.Machine

/-- STOP_CHAIN_OPEN (R167). -/
def execStopChainOpen (s : State) : Host.Outcome State Fault Refusal := .next (finish (acceptStop true s))

/-- STOP_CHAIN_CLOSED (R167). -/
def execStopChainClosed (s : State) : Host.Outcome State Fault Refusal := .next (finish (acceptStop false s))

/-- DRIVE_FAULT_CHANGE (R168). -/
def execDriveFaultChange (v : Bool) (s : State) : Host.Outcome State Fault Refusal :=
  .next (finish (acceptLine 4 v s))

/-- DOOR_CLOSED_CHANGE (R168). -/
def execDoorClosedChange (v : Bool) (s : State) : Host.Outcome State Fault Refusal :=
  .next (finish (acceptLine 15 v s))

/-- AUX_LINE_ACCEPT (R169). -/
def execAuxLineAccept (n : Fin 4) (high : Bool) (s : State) : Host.Outcome State Fault Refusal :=
  .next (finish (acceptAux n high s))

/-- LINE_ACCEPTANCE (R164). -/
def execLineAcceptance (l : Fin 16) (v : Bool) (s : State) : Host.Outcome State Fault Refusal :=
  .next (finish (acceptLine l v s))

end Sys2Proof.Machine
end

