-- ==== Sys2Proof/Machine/Requests.lean ====
section
/-! DEFINITION. Requests and replies: the request slot, the status codes, refusals and clamps (R7 to R14). -/

namespace Sys2Proof.Machine

/-- Status codes (R11). -/
inductive Status where
  | ok | accepted | clamped | wrongMode | badKind | badLength | badField | badRecipe
  | tableFull | notFound | overrun | wrongFault | conditionPresent | busy | noBit | faultsOpen
  deriving DecidableEq, Repr

/-- The code of a status (R11). -/
def Status.code : Status → Byte
  | .ok => 0 | .accepted => 1 | .clamped => 2 | .wrongMode => 3 | .badKind => 4 | .badLength => 5
  | .badField => 6 | .badRecipe => 7 | .tableFull => 8 | .notFound => 9 | .overrun => 10
  | .wrongFault => 11 | .conditionPresent => 12 | .busy => 13 | .noBit => 14 | .faultsOpen => 15

/-- What a block makes of a request: the state after it, and the reply's body (R10). -/
abbrev Handler := List Byte → State → State × List Byte

/-- A request carried out, with its result (R11). -/
def done (st : Status) (result : List Byte) (s : State) : State × List Byte := (s, Status.code st :: result)

/-- A refusal without more (R11); it changes nothing (R10). -/
def refuse (st : Status) (s : State) : State × List Byte := (s, [Status.code st])

/-- A refusal on a field value, with its position (R12). -/
def refuseField (f : FieldFail) (s : State) : State × List Byte :=
  match f with
  | .bad p => (s, Status.code .badField :: le16 p)
  | .full p => (s, Status.code .tableFull :: le16 p)

/-- BAD_FIELD at a position (R12). -/
def badField (p : Nat) (s : State) : State × List Byte := refuseField (.bad p) s

/-- CLAMPED if any value was changed by the clamp, OK otherwise (R13). -/
def clampStatus (changed : Bool) : Status := if changed then .clamped else .ok

/-- The reply in the slot, its reply-pending mark set (R7). -/
def fillSlot (kind tag : Byte) (body reply : List Byte) (s : State) : State :=
  s.withLink { s.link with
    slot := some { kind := kind, tag := tag, body := body, replyPending := true, reply := reply
                   ahead := s.link.overrun.length } }

/-- What the owning block answers, or BAD_LENGTH before it is asked (R9, R10). -/
def answerTo (lengthOk : Bool) (h : Handler) (body : List Byte) (s : State) : State × List Byte :=
  if lengthOk then h body s else refuse .badLength s

/-- The completion of a request (R7): taken into an empty slot, carried out and answered; refused by an
OVERRUN answer; or dropped with LINK_GARBLED, cause overrun. -/
def takeRequest (kind : Byte) (lengthOk : Bool) (h : Handler) (tag : Byte) (body : List Byte) (s : State) : State :=
  match s.link.slot with
  | none =>
    let r := answerTo lengthOk h body s
    fillSlot kind tag body r.2 r.1
  | some _ =>
    if s.link.overrun.length < 4 then
      s.withLink { s.link with overrun := s.link.overrun ++ [{ kind := replyKind kind, tag := tag }] }
    else raiseNotice Notice.linkGarbled [3] s

/-- The length is a whole number of records, from 1 to the greatest number (R9). -/
def recordsOk (size most len : Nat) : Bool :=
  decide (len % size = 0) && decide (1 ≤ len / size) && decide (len / size ≤ most)

end Sys2Proof.Machine
end

