-- ==== Sys2Proof/Machine/CellRequests.lean ====
section
/-! DEFINITION. The requests of Cell Mode control and of panel runs, and the idle-park timer (chapter 3, R45 to R63). -/

namespace Sys2Proof.Machine

/-! ### PANEL START (R47, R48) -/

/-- A mark's disposition: SCRAP or SKIP (R47). -/
def markDisposition : Nat → Option Disposition
  | 1 => some .scrap
  | 2 => some .skip
  | _ => none

/-- The board a mark names, unless it is undefined or already named (R47 step 6). -/
def markBoard (s : State) (body : List Byte) (j : Nat) (seen : List (Fin 64 × Disposition)) : Option (Fin 64) :=
  match index? 64 (u8 body (8 + 2 * j)) with
  | some b =>
    if (Table.get s.recipe.boards b).isSome && seen.all (fun e => decide (e.1 ≠ b)) then some b else none
  | none => none

/-- The marks of a body from mark `j` on, `left` of them, or the first failing position (R47 step 6). -/
def readMarks (s : State) (body : List Byte) : Nat → Nat → List (Fin 64 × Disposition) →
    Except Nat (List (Fin 64 × Disposition))
  | 0, _, seen => .ok seen
  | left + 1, j, seen =>
    match markBoard s body j seen with
    | none => .error (8 + 2 * j)
    | some b =>
      match markDisposition (u8 body (9 + 2 * j)) with
      | none => .error (9 + 2 * j)
      | some d => readMarks s body left (j + 1) (seen ++ [(b, d)])

/-- An offset in range (R47 step 5). -/
def offsetOk (v : Int) : Bool := decide (-500 ≤ v) && decide (v ≤ 500)

/-- The serial of PANEL START. -/
def startSerial (body : List Byte) : Serial := BitVec.ofNat 32 (u32 body 0)

/-- The disposition of a board under a mark list (R66 step 1). -/
def dispositionOf (marks : List (Fin 64 × Disposition)) (b : Fin 64) : Disposition :=
  match marks.find? fun e => decide (e.1 = b) with
  | some e => e.2
  | none => .good

/-- The non-release tabs of a board (R66 step 3). -/
def nonRelease (s : State) (b : Fin 64) : List (Fin 256) :=
  (tabsOf s b).filter fun t =>
    match Table.get s.recipe.tabs t with
    | some d => decide (d.role ≠ .release)
    | none => false

/-- The board runtime records at the start; every non-release tab of a singulated board is needed by it
(R66). -/
def startBoards (s : State) (marks : List (Fin 64 × Disposition)) : Table 64 BoardRun :=
  s.recipe.boards.map fun e =>
    let d := dispositionOf marks e.1
    let n := if d = .skip then 0 else (nonRelease s e.1).length
    let st := if d = .skip then BoardState.skipped else if n = 0 then .ready else .waiting
    (e.1, { state := st, disposition := d, remaining := n, regrip := false, nest := none, bay := none, slot := none })

/-- The singulated boards of the table, ascending (R66). -/
def singulated (t : Table 64 BoardRun) : List (Fin 64) :=
  (t.filter fun e => decide (e.2.disposition ≠ .skip)).map Prod.fst

/-- The tab runtime records at the start, read from the new board records (R67, R68). -/
def startTabs (s : State) : Table 256 TabRun :=
  s.recipe.tabs.map fun e =>
    (e.1, { state := if tabNeeded s e.1 then TabState.uncut else .bypassed, attempts := 0 })

/-- The runtime records of a new panel (R48 step 2). -/
def buildRuntime (serial : Serial) (marks : List (Fin 64 × Disposition)) (s : State) : State :=
  let boards := startBoards s marks
  let s := s.withSeq { s.seq with runOf := some serial, boards := boards, tabs := [], order := singulated boards }
  orphanOperation (s.withSeq { s.seq with tabs := startTabs s })

/-- The enabled HOLD lines act on their latches (R48 step 6). -/
def holdLines (s : State) : State := [(0 : Fin 4), 1, 2, 3].foldl (fun s n => auxHold n s) s

/-- PANEL START carried out (R48). -/
def startPanel (serial : Serial) (dx dy : Int) (marks : List (Fin 64 × Disposition)) (s : State) : State :=
  let s := buildRuntime serial marks (clearNotice Notice.panelCutDone s)
  let r : PanelRec :=
    { serial := serial, dx := dx, dy := dy, marks := marks, state := .cutting, stop := false, stacked := 0
      chuted := 0, failed := 0, lost := 0, abandoned := 0, outstanding := 0 }
  let s := startSpindle (s.withSeq { s.seq with records := s.seq.records ++ [r] })
  let s := enterMode .running (s.withCell { s.cell with idleTimer := none })
  recordTest (holdLines s)

/-- The needed tabs of runtime records just built (R48). -/
def neededTabs (t : Table 256 TabRun) : Nat := (t.filter fun e => decide (e.2.state = .uncut)).length

/-- PANEL START (R47, R48). -/
def panelStart : Handler := fun body s =>
  let serial := startSerial body
  let dx := s16 body 4
  let dy := s16 body 6
  if s.cell.mode ≠ .idle then refuse .wrongMode s
  else if s.router.bit = .unknown then refuse .noBit s
  else if 2 ≤ s.seq.records.length then refuse .busy s
  else if s.seq.records.any (fun r => decide (r.serial = serial)) then badField 0 s
  else if !offsetOk dx then badField 4 s
  else if !offsetOk dy then badField 6 s
  else match readMarks s body ((body.length - 8) / 2) 0 [] with
    | .error p => badField p s
    | .ok marks =>
      let built := buildRuntime serial marks s
      done .accepted (b8 built.seq.order.length :: le16 (neededTabs built.seq.tabs))
        (startPanel serial dx dy marks s)

/-! ### HOLD AT BOUNDARY and RESUME -/

/-- HOLD AT BOUNDARY (R54). -/
def holdAtBoundary : Handler := fun _ s =>
  if holdTakeable s then
    done .ok [] (match s.cell.mode, s.cell.ret with
      | .running, _ => takeHold s
      | .halted, some .running => takeHold s
      | _, _ => s)
  else refuse .wrongMode s

/-- The return mode entered, and absent afterwards (R59 step 3, R63). -/
def enterReturn (s : State) : State :=
  match s.cell.ret with
  | some m => enterMode m (s.withCell { s.cell with ret := none })
  | none => s

/-- The restart mark acted on (R59 step 2). -/
def restartSpindle (s : State) : State :=
  if s.cell.restart then startSpindle (s.withCell { s.cell with restart := false }) else s

/-- RESUME carried out in HALTED (R59, R182). -/
def resumeHalted (s : State) : State :=
  let s := s.withFaults { s.faults with allStop := false, cutStop := false }
  enterReturn (restartSpindle (clearNotice Notice.holdReached s))

/-- RESUME (R56, R59, R182). -/
def resumeCell : Handler := fun _ s =>
  match s.cell.mode with
  | .holding | .held =>
    done .ok [] (enterMode .running (clearNotice Notice.holdReached (s.withCell { s.cell with holdLatch := false })))
  | .halted => if haltingOpen s.faults then refuse .faultsOpen s else done .ok [] (resumeHalted s)
  | .running | .idle | .unconfigured | .parked | .waking => refuse .wrongMode s

/-! ### PANEL STOP (R52, R53, R56) -/

/-- The board is abandoned by PANEL STOP (R52 steps 2 and 3). -/
def stopAbandons (s : State) (b : Fin 64) (r : BoardRun) : Bool :=
  match r.state with
  | .waiting | .precut | .ready => true
  | .held =>
    match releaseTab s b with
    | some t => !(decide (tabState s t = some .cutting) || decide (tabState s t = some .verifying))
    | none => true
  | _ => false

/-- The boards PANEL STOP abandons. -/
def stopBoards (s : State) : List (Fin 64) :=
  (Table.keys s.seq.boards).filter fun b => (boardRun s b).any (stopAbandons s b)

/-- The mode of a cell whose record stays CUTTING after PANEL STOP (R56). -/
def stopMode (s : State) : State :=
  if (cuttingRecord s).isSome then
    match s.cell.mode with
    | .holding | .held => enterMode .running s
    | .halted =>
      match s.cell.ret with
      | some .holding | some .held => s.withCell { s.cell with ret := some .running }
      | _ => s
    | .running | .idle | .unconfigured | .parked | .waking => s
  else s

/-- PANEL STOP carried out (R52). -/
def stopPanel (s : State) : State :=
  let s := modRecords (fun r => decide (r.state = .cutting)) (fun r => { r with stop := true }) s
  let s := s.withCell { s.cell with holdLatch := false }
  let gone := stopBoards s
  let s := gone.foldl (fun s b => boardAbandoned b s) s
  let s := (Table.keys s.seq.tabs).foldl bypassTab s
  let s := gone.foldl (fun s b => letGo b s) s
  stopMode (recordTest s)

/-- PANEL STOP is taken (R52). -/
def stopTakeable (s : State) : Bool :=
  match s.cell.mode with
  | .running | .holding | .held => true
  | .halted => (cuttingRecord s).isSome
  | .idle | .unconfigured | .parked | .waking => false

/-- PANEL STOP (R52). -/
def panelStop : Handler := fun _ s =>
  if stopTakeable s then
    if stopTaken s then done .accepted [] s else done .accepted [] (stopPanel s)
  else refuse .wrongMode s

/-! ### PARK and WAKE -/

/-- PARK (R60). -/
def parkRequest : Handler := fun _ s =>
  match s.cell.mode with
  | .idle | .held => done .accepted [] (parkCell s)
  | .unconfigured | .running | .holding | .halted | .parked | .waking => refuse .wrongMode s

/-- WAKE (R62). -/
def wakeRequest : Handler := fun _ s =>
  if s.cell.mode = .parked then done .accepted [] (startWake s) else refuse .wrongMode s

/-! ### The requests and the timer -/

/-- PANEL START completes (R7, R47): an even length from 8 to 136. -/
def takePanelStart (tag : Byte) (body : List Byte) (s : State) : State :=
  takeRequest 0x20 (inRange 8 136 body.length && decide (body.length % 2 = 0)) panelStart tag body s

/-- HOLD AT BOUNDARY completes (R7, R54). -/
def takeHoldAtBoundary (tag : Byte) (body : List Byte) (s : State) : State :=
  takeRequest 0x21 (body.length == 0) holdAtBoundary tag body s

/-- RESUME completes (R7, R59). -/
def takeResume (tag : Byte) (body : List Byte) (s : State) : State :=
  takeRequest 0x22 (body.length == 0) resumeCell tag body s

/-- PANEL STOP completes (R7, R52). -/
def takePanelStop (tag : Byte) (body : List Byte) (s : State) : State :=
  takeRequest 0x23 (body.length == 0) panelStop tag body s

/-- PARK completes (R7, R60). -/
def takePark (tag : Byte) (body : List Byte) (s : State) : State :=
  takeRequest 0x24 (body.length == 0) parkRequest tag body s

/-- WAKE completes (R7, R62). -/
def takeWake (tag : Byte) (body : List Byte) (s : State) : State :=
  takeRequest 0x25 (body.length == 0) wakeRequest tag body s

/-- PANEL_START. -/
def execPanelStart (tag : Byte) (body : List Byte) (s : State) : Host.Outcome State Fault Refusal :=
  .next (finish (takePanelStart tag body s))

/-- HOLD_AT_BOUNDARY. -/
def execHoldAtBoundary (tag : Byte) (body : List Byte) (s : State) : Host.Outcome State Fault Refusal :=
  .next (finish (takeHoldAtBoundary tag body s))

/-- RESUME. -/
def execResume (tag : Byte) (body : List Byte) (s : State) : Host.Outcome State Fault Refusal :=
  .next (finish (takeResume tag body s))

/-- PANEL_STOP. -/
def execPanelStop (tag : Byte) (body : List Byte) (s : State) : Host.Outcome State Fault Refusal :=
  .next (finish (takePanelStop tag body s))

/-- PARK. -/
def execPark (tag : Byte) (body : List Byte) (s : State) : Host.Outcome State Fault Refusal :=
  .next (finish (takePark tag body s))

/-- WAKE. -/
def execWake (tag : Byte) (body : List Byte) (s : State) : Host.Outcome State Fault Refusal :=
  .next (finish (takeWake tag body s))

/-- IDLE_PARK_TIMEOUT (R61): the running idle-park timer reaches its time. -/
def execIdleParkTimeout (s : State) : Host.Outcome State Fault Refusal :=
  .next (finish (if s.cell.mode = .idle && s.cell.idleTimer.isSome then parkCell s else s))

end Sys2Proof.Machine
end

