-- ==== Sys2Proof/Machine/Recipe.lean ====
section
/-! DEFINITION. The requests of the Recipe Store (chapter 2, R27 to R43). -/

namespace Sys2Proof.Machine

/-! ### RECIPE BEGIN -/

/-- The cell mode and return mode after RECIPE BEGIN (R29). -/
def unconfigure (s : State) : State :=
  match s.cell.mode with
  | .unconfigured | .idle => s.withCell { s.cell with mode := .unconfigured, ret := none, idleTimer := none }
  | .halted | .parked | .waking => s.withCell { s.cell with ret := some .unconfigured }
  | .running | .holding | .held => s

/-- The runtime records and the release order discarded (R91); an operation that still runs is orphaned. -/
def discardRuntime (s : State) : State :=
  orphanOperation (s.withSeq { s.seq with runOf := none, boards := [], tabs := [], order := [] })

/-- RECIPE BEGIN (R28). -/
def recipeBegin : Handler := fun _ s =>
  if (cuttingRecord s).isSome then refuse .wrongMode s
  else
    let s := s.withRecipe { s.recipe with state := .editing, boards := [], tabs := [], lists := [] }
    done .ok [] (unconfigure (discardRuntime s))

/-! ### BOARD DEFINE and TAB DEFINE -/

/-- The number of records of a body, each of `size` bytes. -/
def recordCount (size : Nat) (body : List Byte) : Nat := body.length / size

/-- The field tests of a whole body, record by record (R30, R32). -/
def allTests (tests : List Byte → Nat → List (Bool × FieldFail)) (count : Nat) (body : List Byte) :
    List (Bool × FieldFail) :=
  ((List.range count).map (tests body)).flatten

/-- The records of a body stored in body order (R31, R33). -/
def storeRecords {n : Nat} {α : Type} (record : List Byte → Nat → Option (Fin n × α)) (count : Nat)
    (body : List Byte) (t : Table n α) : Table n α :=
  ((List.range count).filterMap (record body)).foldl (fun t e => Table.put e.1 e.2 t) t

/-- BOARD DEFINE (R30, R31). -/
def boardDefine : Handler := fun body s =>
  if s.recipe.state ≠ .editing then refuse .wrongMode s
  else
    let count := recordCount 6 body
    match firstFail (allTests boardTests count body) with
    | some f => refuseField f s
    | none =>
      done .ok [] (s.withRecipe { s.recipe with boards := storeRecords boardRecord count body s.recipe.boards })

/-- TAB DEFINE (R32, R33). -/
def tabDefine : Handler := fun body s =>
  if s.recipe.state ≠ .editing then refuse .wrongMode s
  else
    let count := recordCount 13 body
    match firstFail (allTests tabTests count body) with
    | some f => refuseField f s
    | none =>
      done .ok [] (s.withRecipe { s.recipe with tabs := storeRecords tabRecord count body s.recipe.tabs })

/-! ### RECIPE CLOSE -/

/-- The board is defined. -/
def boardDefined (r : Recipe) (b : Fin 64) : Bool := (Table.get r.boards b).isSome

/-- OWNER_UNDEFINED offends (R35 code 1). -/
def ownerUndefined (r : Recipe) (d : TabDef) : Bool :=
  !boardDefined r d.owner || match d.neighbour with
    | some b => !boardDefined r b
    | none => false

/-- SELF_NEIGHBOUR offends (R35 code 2). -/
def selfNeighbour (d : TabDef) : Bool := decide (d.neighbour = some d.owner)

/-- SHARED_RELEASE offends (R35 code 3). -/
def sharedRelease (d : TabDef) : Bool := d.neighbour.isSome && decide (d.role = .release)

/-- The release tabs a board owns. -/
def ownedReleases (r : Recipe) (b : Fin 64) : List (Fin 256) :=
  (r.tabs.filter fun e => decide (e.2.owner = b) && decide (e.2.role = .release)).map Prod.fst

/-- The tabs that touch a board, ascending (R36, R37). -/
def touching (r : Recipe) (b : Fin 64) : List (Fin 256) :=
  (r.tabs.filter fun e => decide (e.2.owner = b) || decide (e.2.neighbour = some b)).map Prod.fst

/-- A board's touch count: once as owner, once as neighbour of each tab (R36). -/
def touchCount (r : Recipe) (b : Fin 64) : Nat :=
  (r.tabs.filter fun e => decide (e.2.owner = b)).length +
    (r.tabs.filter fun e => decide (e.2.neighbour = some b)).length

/-- RELEASE_COUNT offends (R35 code 4, R36): not exactly one RELEASE tab owned, or that one shared. -/
def releaseCount (r : Recipe) (b : Fin 64) : Bool :=
  match ownedReleases r b with
  | [t] =>
    match Table.get r.tabs t with
    | some d => d.neighbour.isSome
    | none => true
  | _ => true

/-- END_OUTSIDE offends (R35 code 6). -/
def endOutside (d : TabDef) : Bool :=
  let p := TabDef.endPoint d
  !(decide (500 ≤ p.1) && decide (p.1 ≤ 59500) && decide (500 ≤ p.2) && decide (p.2 ≤ 44500))

/-- A failed close check: its code, and the index reported (R12, R36). -/
structure CloseFail where
  code : Byte
  index : Byte
  deriving DecidableEq, Repr

/-- A tab check: the lowest-numbered offending tab (R36). -/
def tabCheck (r : Recipe) (code : Byte) (offends : TabDef → Bool) : Option CloseFail :=
  (Table.first (fun _ d => offends d) r.tabs).map fun t => { code := code, index := b8 t.val }

/-- A board check: the lowest-numbered offending board (R36). -/
def boardCheck (r : Recipe) (code : Byte) (offends : Fin 64 → Bool) : Option CloseFail :=
  (Table.first (fun b _ => offends b) r.boards).map fun b => { code := code, index := b8 b.val }

/-- The first close check that fails (R35). -/
def closeFail (r : Recipe) : Option CloseFail :=
  if r.boards.isEmpty then some { code := 0, index := absentByte }
  else (tabCheck r 1 (ownerUndefined r)).orElse fun _ =>
    (tabCheck r 2 selfNeighbour).orElse fun _ =>
    (tabCheck r 3 sharedRelease).orElse fun _ =>
    (boardCheck r 4 (releaseCount r)).orElse fun _ =>
    (boardCheck r 5 fun b => decide (12 < touchCount r b)).orElse fun _ =>
    tabCheck r 6 endOutside

/-- The board tab lists built at the close (R37). -/
def buildLists (r : Recipe) : Table 64 TabList :=
  r.boards.filterMap fun e =>
    match ownedReleases r e.1 with
    | [t] => some (e.1, { release := t, tabs := touching r e.1 })
    | _ => none

/-- The cell mode and return mode after a successful close (R37). -/
def configure (s : State) : State :=
  match s.cell.mode with
  | .unconfigured => enterMode .idle (s.withCell { s.cell with ret := none })
  | .halted | .parked | .waking =>
    if s.cell.ret = some .unconfigured then s.withCell { s.cell with ret := some .idle } else s
  | .idle | .running | .holding | .held => s

/-- RECIPE CLOSE (R35, R37). -/
def recipeClose : Handler := fun body s =>
  let k := u8 body 0
  if s.recipe.state ≠ .editing then refuse .wrongMode s
  else if 3 < k then badField 0 s
  else match closeFail s.recipe with
    | some f => (s, [Status.code .badRecipe, f.code, f.index])
    | none =>
      let r := { s.recipe with state := .closed, depth := k, lists := buildLists s.recipe }
      done .ok (b8 r.boards.length :: le16 r.tabs.length) (configure (s.withRecipe r))

/-! ### PROFILE DEFINE -/

/-- A READY or ACTIVE bay holds a descriptor built from the profile (R40 step 1). -/
def BayRec.uses (r : BayRec) (profile : Nat) : Bool :=
  (decide (r.state = .ready) || decide (r.state = .active)) &&
    match r.desc with
    | some d => decide (d.profile.val = profile)
    | none => false

/-- The field tests of PROFILE DEFINE (R40 step 2). -/
def profileTests (body : List Byte) : List (Bool × FieldFail) :=
  [ (decide (u8 body 0 ≤ 3), .bad 0),
    (inRange 1 100 (u8 body 1), .bad 1),
    (inRange 100 5000 (u16 body 2), .bad 2),
    (decide (u32 body 4 ≤ 80000), .bad 4),
    (decide (u8 body 8 ≤ 1), .bad 8),
    (inRange 1 2 (u8 body 9), .bad 9),
    (inRange 1 (u8 body 1) (u8 body 10), .bad 10) ]

/-- The profile of a body whose fields pass. -/
def profileOf (body : List Byte) : Profile :=
  { slots := u8 body 1, pitch := u16 body 2, base := u32 body 4
    dir := (FillDir.ofCode (u8 body 8)).getD .bottomUp
    step := u8 body 9, limit := u8 body 10 }

/-- The height of slot N − 1 (R41). -/
def Profile.top (p : Profile) : Nat := Profile.height p (p.slots - 1)

/-- PROFILE DEFINE (R40 to R42). -/
def profileDefine : Handler := fun body s =>
  let i := u8 body 0
  if BayRec.uses s.bays.a i || BayRec.uses s.bays.b i then refuse .wrongMode s
  else match firstFail (profileTests body), index? 4 i with
    | some f, _ => refuseField f s
    | none, none => badField 0 s
    | none, some n =>
      let p := profileOf body
      if 80000 < Profile.top p then badField 4 s
      else
        done .ok (b8 (Profile.visits p) :: le32 (Profile.top p))
          (s.withRecipe { s.recipe with profiles := Table.put n p s.recipe.profiles })

/-! ### The requests -/

/-- RECIPE BEGIN completes (R7, R28). -/
def takeRecipeBegin (tag : Byte) (body : List Byte) (s : State) : State :=
  takeRequest 0x10 (body.length == 0) recipeBegin tag body s

/-- BOARD DEFINE completes (R7, R30). -/
def takeBoardDefine (tag : Byte) (body : List Byte) (s : State) : State :=
  takeRequest 0x11 (recordsOk 6 8 body.length) boardDefine tag body s

/-- TAB DEFINE completes (R7, R32). -/
def takeTabDefine (tag : Byte) (body : List Byte) (s : State) : State :=
  takeRequest 0x12 (recordsOk 13 16 body.length) tabDefine tag body s

/-- RECIPE CLOSE completes (R7, R35). -/
def takeRecipeClose (tag : Byte) (body : List Byte) (s : State) : State :=
  takeRequest 0x13 (body.length == 1) recipeClose tag body s

/-- PROFILE DEFINE completes (R7, R40). -/
def takeProfileDefine (tag : Byte) (body : List Byte) (s : State) : State :=
  takeRequest 0x14 (body.length == 11) profileDefine tag body s

/-- RECIPE_BEGIN. -/
def execRecipeBegin (tag : Byte) (body : List Byte) (s : State) : Host.Outcome State Fault Refusal :=
  .next (finish (takeRecipeBegin tag body s))

/-- BOARD_DEFINE. -/
def execBoardDefine (tag : Byte) (body : List Byte) (s : State) : Host.Outcome State Fault Refusal :=
  .next (finish (takeBoardDefine tag body s))

/-- TAB_DEFINE. -/
def execTabDefine (tag : Byte) (body : List Byte) (s : State) : Host.Outcome State Fault Refusal :=
  .next (finish (takeTabDefine tag body s))

/-- RECIPE_CLOSE. -/
def execRecipeClose (tag : Byte) (body : List Byte) (s : State) : Host.Outcome State Fault Refusal :=
  .next (finish (takeRecipeClose tag body s))

/-- PROFILE_DEFINE. -/
def execProfileDefine (tag : Byte) (body : List Byte) (s : State) : Host.Outcome State Fault Refusal :=
  .next (finish (takeProfileDefine tag body s))

end Sys2Proof.Machine
end

