-- ==== Sys2Proof/Machine/Reports.lean ====
section
/-! DEFINITION. STATUS QUERY and TABLE READ (R22 to R24). -/

namespace Sys2Proof.Machine

/-! ### STATUS QUERY (R22) -/

/-- One Panel Record; absent: 0xFF, then zeros. -/
def recordBytes : Option PanelRec → List Byte
  | none => absentByte :: List.replicate 10 0
  | some r =>
    b8 (PanelState.code r.state) :: le32 r.serial.toNat ++
      [b8 r.stacked, b8 r.chuted, b8 r.failed, b8 r.lost, b8 r.abandoned, b8 r.outstanding]

/-- The probe snapshot (R124). -/
def snapshotBytes : Option Snapshot → List Byte
  | none => List.replicate 8 0
  | some x =>
    [1, b8 x.tab.val, b8 x.attempt, b8 x.ne, b8 x.hits, b8 x.misses, b8 x.sampled, b8 (Verdict.code x.verdict)]

/-- One Nest Queue entry; beyond the count: nest 0xFF, then zeros. -/
def entryBytes : Option NestEntry → List Byte
  | none => absentByte :: List.replicate 7 0
  | some e =>
    b8 e.nest.val :: b8 e.board.val :: le32 e.serial.toNat ++
      [b8 (Disposition.code e.disposition), b8 (EntryState.code e.state)]

/-- One bay (R148). -/
def bayBytes (r : BayRec) : List Byte :=
  [b8 (BayState.code r.state), optByte (r.desc.map fun d => d.profile.val), b8 (BayRec.filled r)
   , optByte (r.desc.bind fun d => d.next), markByte r.retire]

/-- The top record of the In-Service Stack. For an empty stack the source is 0xFF and the other bytes
are 0, as R24 gives for the stack's table. Log entry 14. -/
def topBytes (f : Faults) : List Byte :=
  match f.stack with
  | [] => [absentByte, 0, 0, 0, 0]
  | r :: _ => [b8 r.source.val, b8 r.level, b8 (Detail.kindCode r.detail), Detail.byte r.detail, b8 r.repeats]

/-- The status record of every block, 104 bytes (R22). -/
def statusRecord (s : State) : List Byte :=
  [b8 (RecipeState.code s.recipe.state), b8 s.recipe.depth
   , b8 (Mode.code s.cell.mode), optByte (s.cell.ret.map Mode.code), markByte s.cell.holdLatch] ++
  recordBytes s.seq.records[0]? ++ recordBytes s.seq.records[1]? ++
  [optByte ((front s).map fun b => b.val)] ++
  [b8 (RouterState.code s.router.state), b8 (SpindleState.code s.spindle.state)] ++
  le32 s.spindle.rpm ++ le16 s.spindle.setpoint ++ [b8 s.router.override] ++
  le32 s.router.wear ++ le32 s.router.life ++ le16 s.router.baseFeed ++ [b8 (BitState.code s.router.bit)] ++
  snapshotBytes s.probe.snapshot ++
  [b8 (ProbeState.code s.probe.state), b8 (PickerState.code s.picker.state)
   , optByte (s.picker.board.map fun b => b.val)] ++
  [b8 s.nests.length] ++ entryBytes s.nests[0]? ++ entryBytes s.nests[1]? ++ entryBytes s.nests[2]? ++
  [b8 (StackerState.code s.stacker.state)] ++ bayBytes s.bays.a ++ bayBytes s.bays.b ++
  [markByte s.faults.allStop, markByte s.faults.cutStop] ++
  [b8 s.faults.stack.length] ++ topBytes s.faults ++ [b8 s.faults.waiting.length]

/-- STATUS QUERY (R22). -/
def statusQuery : Handler := fun _ s => done .ok (statusRecord s) s

/-! ### TABLE READ (R23, R24) -/

/-- Absent fields. -/
def absent (n : Nat) : List Byte := List.replicate n absentByte

/-- A board runtime entry. -/
def boardEntry (s : State) (i : Nat) : List Byte :=
  match index? 64 i with
  | none => []
  | some b =>
    if (Table.get s.recipe.boards b).isNone then b8 i :: 0 :: absent 7
    else match boardRun s b with
      | none => b8 i :: 1 :: absent 7
      | some r =>
        [b8 i, 1, b8 (BoardState.code r.state), b8 (Disposition.code r.disposition), b8 r.remaining
         , markByte r.regrip, optByte (r.nest.map fun n => n.val), optByte (r.bay.map Bay.code), optByte r.slot]

/-- A tab runtime entry. -/
def tabEntry (s : State) (i : Nat) : List Byte :=
  match index? 256 i with
  | none => []
  | some t =>
    if (Table.get s.recipe.tabs t).isNone then b8 i :: 0 :: absent 2
    else match tabRun s t with
      | none => b8 i :: 1 :: absent 2
      | some r => [b8 i, 1, b8 (TabState.code r.state), b8 r.attempts]

/-- A slot's entry; a slot at or beyond N of a loaded bay has no stated slot state (log entry 7). -/
def slotEntry (s : State) (r : BayRec) (i : Nat) : List Byte :=
  match r.desc with
  | none => b8 i :: absent 6
  | some _ =>
    match r.map[i]? with
    | some (.filled b serial) => b8 i :: b8 (SlotState.code (.filled b serial)) :: b8 b.val :: le32 serial.toNat
    | some x => [b8 i, b8 (SlotState.code x), absentByte, 0, 0, 0, 0]
    | none => [b8 i, Config.freeSlotState s.free i, absentByte, 0, 0, 0, 0]

/-- A stack entry, position 0 at the bottom. -/
def stackEntry (s : State) (i : Nat) : List Byte :=
  match s.faults.stack.reverse[i]? with
  | some r =>
    [b8 i, b8 r.source.val, b8 r.level, b8 (Detail.kindCode r.detail), Detail.byte r.detail, b8 r.repeats]
  | none => [b8 i, absentByte, 0, 0, 0, 0]

/-- The fixed mark of a source (R175). -/
def Source.fixed (src : Source) : Bool := decide (src.val ≤ 1)

/-- A record's fields after its place (R24). -/
def FaultRec.entry (place : Byte) (r : FaultRec) : List Byte :=
  [place, b8 r.level, b8 (Detail.kindCode r.detail), Detail.byte r.detail, b8 r.repeats]

/-- A fault source's entry. -/
def sourceEntry (s : State) (i : Nat) : List Byte :=
  match index? 23 i with
  | none => []
  | some src =>
    [b8 i, b8 (getAt s.faults.levels src), markByte (Source.fixed src)] ++
      match s.faults.waiting.find? (fun r => decide (r.source = src)),
            s.faults.stack.find? (fun r => decide (r.source = src)) with
      | some r, _ => FaultRec.entry 1 r
      | none, some r => FaultRec.entry 2 r
      | none, none => 0 :: absent 4

/-- A notice's entry; urgency HIGH is 0 (R14). -/
def noticeEntry (s : State) (i : Nat) : List Byte :=
  match index? 16 i with
  | none => []
  | some n =>
    let r := getAt s.notices n
    [b8 i, markByte r.raised, markByte r.sent, markByte r.enabled, if Notice.high n then 0 else 1]

/-- A line's entry: L0 to L15 at 0 to 15, X0 to X3 at 16 to 19 (R14). -/
def lineEntry (s : State) (i : Nat) : List Byte :=
  match index? 16 i with
  | some l =>
    let d := getAt s.lines.ded l
    [b8 i, b8 (Sense.code d.sense), absentByte, b8 (SamplePeriod.code d.period)
     , markByte (d.filter.level == some true), absentByte]
  | none =>
    match index? 4 (i - 16) with
    | some n =>
      let a := getAt s.lines.aux n
      [b8 i, b8 (DetectMode.code a.mode), b8 (AuxRole.code a.role), b8 (SamplePeriod.code a.period)
       , markByte (a.filter.level == some true), b8 (Latch.code a.latch)]
    | none => []

/-- A table's last index and its entry bytes, by selector (R23). -/
def tableShape : Nat → Option (Nat × Nat)
  | 0 => some (63, 9)
  | 1 => some (255, 4)
  | 2 => some (99, 7)
  | 3 => some (99, 7)
  | 4 => some (7, 6)
  | 5 => some (22, 8)
  | 6 => some (15, 5)
  | 7 => some (19, 6)
  | _ => none

/-- One entry of a table, by selector (R24). -/
def tableEntry (s : State) (sel i : Nat) : List Byte :=
  match sel with
  | 0 => boardEntry s i
  | 1 => tabEntry s i
  | 2 => slotEntry s s.bays.a i
  | 3 => slotEntry s s.bays.b i
  | 4 => stackEntry s i
  | 5 => sourceEntry s i
  | 6 => noticeEntry s i
  | 7 => lineEntry s i
  | _ => []

/-- The entries of a range, ascending (R23). -/
def tableBytes (s : State) (sel start count : Nat) : List Byte :=
  ((List.range count).map fun k => tableEntry s sel (start + k)).flatten

/-- TABLE READ (R23). Reading a Slot Map uses up one free value (log entry 7). -/
def tableRead : Handler := fun body s =>
  let sel := u8 body 0
  let start := u8 body 1
  let count := u8 body 2
  match tableShape sel with
  | none => badField 0 s
  | some (last, size) =>
    if last < start then badField 1 s
    else if count = 0 then badField 2 s
    else if last < start + count - 1 then badField 2 s
    else if 508 < count * size then badField 2 s
    else
      let r := [b8 sel, b8 start, b8 count] ++ tableBytes s sel start count
      done .ok r (if sel = 2 || sel = 3 then s.withFree (s.free + 1) else s)

/-- STATUS QUERY completes (R7, R22). -/
def takeStatusQuery (tag : Byte) (body : List Byte) (s : State) : State :=
  takeRequest 0x01 (body.length == 0) statusQuery tag body s

/-- TABLE READ completes (R7, R23). -/
def takeTableRead (tag : Byte) (body : List Byte) (s : State) : State :=
  takeRequest 0x02 (body.length == 3) tableRead tag body s

/-- STATUS_QUERY. -/
def execStatusQuery (tag : Byte) (body : List Byte) (s : State) : Host.Outcome State Fault Refusal :=
  .next (finish (takeStatusQuery tag body s))

/-- TABLE_READ. -/
def execTableRead (tag : Byte) (body : List Byte) (s : State) : Host.Outcome State Fault Refusal :=
  .next (finish (takeTableRead tag body s))

end Sys2Proof.Machine
end

