-- ==== Sys2Proof/Machine/Reset.lean ====
section
/-! DEFINITION. Power-on and CELL RESET (R25, R26, R45, R64, R91, R113, R127, R142, R163, R174, R184). -/

namespace Sys2Proof.Machine

/-- A raiser that raises nothing: a BIT_EXPIRED of the wear CELL RESET adds is discarded with the fault
sets (R113). DESIGN CHOICE (log entry 35): the FAULT_TAKEN that the take rule would raise for it (R179) goes with
the discarded record, and is not raised. -/
def noRaise : Raiser := fun _ _ s => s

/-- The wear of a presented cut that CELL RESET interrupts (R101, R113); the BIT_WEAR_WARN it may raise comes after
the notices have been cleared, and stays (R26, R102). DESIGN CHOICE (log entry 35): the FAULT_TAKEN of a BIT_EXPIRED
of the same wear is not raised beside it (`noRaise`). -/
def resetWear (s : State) : State :=
  match s.router.state, s.router.operation with
  | .cut, some op => if s.router.presented then addWear noRaise (ceilDiv (cutWear op.record) 2) s else s
  | _, _ => s

/-- The spindle turned off, its timers stopped; the tach capture kept (R113). -/
def Spindle.cellReset (p : Spindle) : Spindle :=
  { p with
    state := match p.state with
      | .spinup | .atSpeed => .coasting
      | .stopped => .stopped
      | .coasting => .coasting
    stabilise := none, deadline := none, watch := .off, qualify := 0, edgeCounts := false }

/-- R113. -/
def Router.cellReset (r : Router) : Router :=
  { r with state := .idle, operation := none, presented := false, clearance := true, sag := 0, timer := none }

/-- R127. -/
def Probe.cellReset (p : Probe) : Probe :=
  { p with state := .idle, work := none, moveTimer := none, snapshot := none }

/-- A bay at CELL RESET: a push in progress settles its slot BLOCKED and advances, an ACTIVE bay becomes
READY, the retire-pending mark is cleared (R163). `push` is the slot being pushed. -/
def resetBay (x : Bay) (push : Option Nat) (s : State) : State :=
  let s := match push with
    | some slot => advance x (setSlot x slot .blocked s)
    | none => s
  let r := bayOf s x
  setBay x { r with state := if r.state = .active then .ready else r.state, retire := false } s

/-- The slot a push in progress on the bay is settling. -/
def pushedSlot (s : State) (x : Bay) : Option Nat := if pushInProgress s x then s.stacker.slot else none

/-- The notices of a CELL RESET: cleared, their enabled marks kept, the frame in transmission withdrawn
(R26). -/
def resetNotices (s : State) : State :=
  let s := s.withNotices (s.notices.map fun r => { r with raised := false, sent := false, payload := [] })
  s.withLink { s.link with tx := s.link.tx.map fun t =>
    match t.what with
    | .notice n _ => { t with what := .notice n true }
    | .reply | .overrun => t }

/-- The units, the runs, the fault sets, the outputs and the ports (R64, R113, R127, R142, R163, R174, R184). -/
def resetUnits (s : State) : State :=
  let s := s.withPorts
    { router := Port.stop s.ports.router, picker := Port.stop s.ports.picker
      transfer := Port.stop s.ports.transfer, elevator := Port.stop s.ports.elevator }
  let s := s.withOutputs Outputs.reset
  let s := s.withRouter (Router.cellReset s.router)
  let s := s.withSpindle (Spindle.cellReset s.spindle)
  let s := s.withProbe (Probe.cellReset s.probe)
  let s := s.withPicker { Picker.reset with gripTime := s.picker.gripTime, blowTime := s.picker.blowTime }
  let s := s.withNests []
  let s := s.withStacker Stacker.reset
  let s := s.withSeq Sequencer.reset
  s.withFaults { s.faults with waiting := [], stack := [], allStop := false, cutStop := false }

/-- The cell mode after CELL RESET (R64). -/
def resetCell (s : State) : State :=
  s.withCell
    { mode := if s.recipe.state = .closed then .idle else .unconfigured
      ret := none, holdLatch := false, restart := false, idleTimer := none }

/-- A dedicated line's filter restarted, with its change handed over, except where the Fault Service
raises a standing condition itself (R174, R184). -/
def resetLine (s : State) (l : Fin 16) : State :=
  let d := getAt s.lines.ded l
  let r := restartDed l d.sense d.period s
  if l.val = 4 || l.val = 15 then r.2 else handOver l d.filter.level r.1 r.2

/-- An aux line's filter restarted and its latch cleared (R174). -/
def resetAux (s : State) (n : Fin 4) : State :=
  let a := getAt s.lines.aux n
  restartAux n a.mode a.role a.period a.enable s

/-- A condition source that stands, raised once (R184). -/
def raiseStanding (src : Source) (d : Detail) (s : State) : State :=
  if conditionStands s src then raise src d s else s

/-- CELL RESET carried out (R64). -/
def resetAll (s : State) : State :=
  let pushA := pushedSlot s .a
  let pushB := pushedSlot s .b
  let s := resetCell (resetUnits (resetWear (resetNotices s)))
  let s := resetBay .b pushB (resetBay .a pushA s)
  let s := (List.finRange 16).foldl resetLine s
  let s := [(0 : Fin 4), 1, 2, 3].foldl resetAux s
  raiseStanding Source.driveFault (.line 4)
    (raiseStanding Source.doorOpen (.line 15) (raiseStanding Source.stopChain .none s))

/-- CELL RESET (R26, R64). -/
def cellResetRequest : Handler := fun _ s => done .ok [] (resetAll s)

/-- CELL RESET completes (R7, R64). -/
def takeCellReset (tag : Byte) (body : List Byte) (s : State) : State :=
  takeRequest 0x03 (body.length == 0) cellResetRequest tag body s

/-- CELL_RESET. -/
def execCellReset (tag : Byte) (body : List Byte) (s : State) : Host.Outcome State Fault Refusal :=
  .next (finish (takeCellReset tag body s))

/-- POWER_ON (R25, R44, R45, R91, R113, R127, R142, R163, R174, R184): every block as after power-on; the
commands that wait outside and the count of free values used are the model's. -/
def execPowerOn (s : State) : Host.Outcome State Fault Refusal :=
  .next { State.reset with pending := s.pending, free := s.free }

end Sys2Proof.Machine
end

