-- ==== Sys2Proof/Machine/ServiceRequests.lean ====
section
/-! DEFINITION. The requests of the Field Lines, the Fault Service and the Notice Table (R18, R19, R166, R171, R180 to R183, with R112, R141, R162). -/

namespace Sys2Proof.Machine

/-! ### Field Lines -/

/-- LINE CONFIGURE (R166). -/
def lineConfigure : Handler := fun body s =>
  match index? 16 (u8 body 0), Sense.ofCode (u8 body 1), SamplePeriod.ofCode (u8 body 2) with
  | none, _, _ => badField 0 s
  | some _, none, _ => badField 1 s
  | some _, some _, none => badField 2 s
  | some l, some sense, some period =>
    let before := (getAt s.lines.ded l).filter.level
    let r := restartDed l sense period s
    done .ok [] (handOver l before r.1 r.2)

/-- AUX CONFIGURE (R171). -/
def auxConfigure : Handler := fun body s =>
  match index? 4 (u8 body 0), DetectMode.ofCode (u8 body 1), AuxRole.ofCode (u8 body 2),
        SamplePeriod.ofCode (u8 body 3), markOf (u8 body 4) with
  | none, _, _, _, _ => badField 0 s
  | some _, none, _, _, _ => badField 1 s
  | some _, some _, none, _, _ => badField 2 s
  | some _, some _, some _, none, _ => badField 3 s
  | some _, some _, some _, some _, none => badField 4 s
  | some n, some mode, some role, some period, some enable =>
    let s := restartAux n mode role period enable s
    let a := getAt s.lines.aux n
    done .ok
      [b8 n.val, b8 (DetectMode.code mode), b8 (AuxRole.code role), b8 (SamplePeriod.code period)
       , markByte enable, markByte (a.filter.level == some true), b8 (Latch.code a.latch)] s

/-! ### Fault Service -/

/-- FAULT LEVEL SET (R180). -/
def faultLevelSet : Handler := fun body s =>
  match index? 23 (u8 body 0) with
  | none => badField 0 s
  | some src =>
    if src.val ≤ 1 then badField 0 s
    else if 7 < u8 body 1 then badField 1 s
    else done .ok [] (s.withFaults { s.faults with levels := setAt s.faults.levels src (u8 body 1) })

/-- The source of the top record, 0xFF for an empty stack (R181). -/
def topSource (f : Faults) : Byte :=
  match f.stack with
  | [] => absentByte
  | r :: _ => b8 r.source.val

/-- FAULT ACKNOWLEDGE (R181). -/
def faultAcknowledge : Handler := fun body s =>
  match index? 23 (u8 body 0) with
  | none => badField 0 s
  | some src =>
    match s.faults.stack with
    | [] => refuse .wrongFault s
    | top :: rest =>
      if top.source ≠ src then refuse .wrongFault s
      else if conditionStands s src then refuse .conditionPresent s
      else
        let s := takeRule (s.withFaults { s.faults with stack := rest })
        done .ok [b8 s.faults.stack.length, topSource s.faults] s

/-- UNIT CLEAR of the ROUTER: its operation interrupted, the order in flight stopped, the head's position unknown
(R112). -/
def clearRouter (s : State) : State :=
  let s := s.withRouter { s.router with clearance := true }
  if s.router.state = .idle then dropRouter s else interruptRouter raise false s

/-- The picker IDLE with its marks clear and its timers stopped, its times kept (R141, R142). -/
def Picker.cleared (p : Picker) : Picker :=
  { Picker.reset with gripTime := p.gripTime, blowTime := p.blowTime }

/-- UNIT CLEAR of the PICKER (R141). DESIGN CHOICE (log entry 39): the unit is IDLE with its board gone before its report
reaches the Run Sequencer, so where the end of the hold makes the board FAILED or ABANDONED (R86, R53) the let-go finds
nothing to send home, and no HOME is presented. -/
def clearPicker (s : State) : State :=
  let p := s.picker
  let s := s.withPorts { s.ports with picker := Port.stop s.ports.picker }
  let s := s.withOutputs { s.outputs with vacuumOn := false, blowOff := false }
  let s := s.withPicker (Picker.cleared p)
  match p.board with
  | none => s
  | some b =>
    match p.state with
    | .approach => if p.withdrawn then s else releaseReservation b s
    | .gripping => releaseReservation b s
    | .holding => releaseReservation b (holdEnds raise b s)
    | .carrying | .placing => boardLostEarly b s
    | .idle | .returning => s

/-- The board in hand lost from the arm (R162, R89). -/
def loseHand (h : Hand) (s : State) : State := reportLost h.serial h.board s

/-- The board in hand settled by its stage (R162 step 2), the stacker already idle. -/
def settleHand (k : Stacker) (s : State) : State :=
  match k.hand with
  | none => s
  | some h =>
    match k.state with
    | .idle => s
    | .fetch =>
      let onNest := s.nests.any fun e => decide (e.nest = h.nest) && decide (e.state = .occupied)
      if onNest && asserted s (nestLine h.nest) then s
      else
        let s := s.withNests (s.nests.filter fun e => decide (e.nest ≠ h.nest))
        loseHand h (clearBoardNest h.serial h.board s)
    | .checkSlot | .present | .divert | .waitBay => loseHand h s
    | .push | .confirm =>
      match k.target, k.slot with
      | some x, some slot => advance x (loseHand h (setSlot x slot .blocked s))
      | _, _ => loseHand h s

/-- UNIT CLEAR of the STACKER (R162). -/
def clearStacker (s : State) : State :=
  let k := s.stacker
  let s := s.withPorts { s.ports with
    transfer := Port.stop s.ports.transfer, elevator := Port.stop s.ports.elevator }
  let s := s.withOutputs { s.outputs with push := false, chuteGate := false }
  settleHand k (stackerIdle s)

/-- The first and last source of a unit's group, and the unit's own clear (R183). -/
def unitOf : Nat → Option (Nat × Nat × (State → State))
  | 0 => some (3, 8, clearRouter)
  | 1 => some (9, 12, clearPicker)
  | 2 => some (13, 18, clearStacker)
  | _ => none

/-- UNIT CLEAR (R183). -/
def unitClear : Handler := fun body s =>
  if s.cell.mode ≠ .halted then refuse .wrongMode s
  else match unitOf (u8 body 0) with
    | none => badField 0 s
    | some (lo, hi, clear) =>
      let gone := s.faults.waiting.filter fun r => inRange lo hi r.source.val
      let kept := s.faults.waiting.filter fun r => !inRange lo hi r.source.val
      done .ok [b8 gone.length] (clear (s.withFaults { s.faults with waiting := kept }))

/-! ### Notice Table -/

/-- NOTICE ENABLE (R18). -/
def noticeEnable : Handler := fun body s =>
  match index? 16 (u8 body 0), markOf (u8 body 1) with
  | none, _ => badField 0 s
  | some _, none => badField 1 s
  | some n, some e =>
    done .ok [] (s.withNotices (setAt s.notices n { getAt s.notices n with enabled := e }))

/-- NOTICE CLEAR of AUX_n at the line's cause latch (R19), also where the notice itself is clear: the model's choice,
log entry 34. -/
def clearAuxLatch (n : Notice) (s : State) : State :=
  match index? 4 (n.val - 11) with
  | some i =>
    let a := getAt s.lines.aux i
    if 11 ≤ n.val && decide (a.role = .notice) then setAux i (AuxLine.relatch a) s else s
  | none => s

/-- NOTICE CLEAR (R19). -/
def noticeClear : Handler := fun body s =>
  match index? 16 (u8 body 0) with
  | none => badField 0 s
  | some n => done .ok [] (clearAuxLatch n (clearNotice n s))

/-! ### The requests -/

/-- LINE CONFIGURE completes (R7, R166). -/
def takeLineConfigure (tag : Byte) (body : List Byte) (s : State) : State :=
  takeRequest 0x50 (body.length == 3) lineConfigure tag body s

/-- AUX CONFIGURE completes (R7, R171). -/
def takeAuxConfigure (tag : Byte) (body : List Byte) (s : State) : State :=
  takeRequest 0x51 (body.length == 5) auxConfigure tag body s

/-- FAULT LEVEL SET completes (R7, R180). -/
def takeFaultLevelSet (tag : Byte) (body : List Byte) (s : State) : State :=
  takeRequest 0x60 (body.length == 2) faultLevelSet tag body s

/-- FAULT ACKNOWLEDGE completes (R7, R181). -/
def takeFaultAcknowledge (tag : Byte) (body : List Byte) (s : State) : State :=
  takeRequest 0x61 (body.length == 1) faultAcknowledge tag body s

/-- UNIT CLEAR completes (R7, R183). -/
def takeUnitClear (tag : Byte) (body : List Byte) (s : State) : State :=
  takeRequest 0x62 (body.length == 1) unitClear tag body s

/-- NOTICE ENABLE completes (R7, R18). -/
def takeNoticeEnable (tag : Byte) (body : List Byte) (s : State) : State :=
  takeRequest 0x70 (body.length == 2) noticeEnable tag body s

/-- NOTICE CLEAR completes (R7, R19). -/
def takeNoticeClear (tag : Byte) (body : List Byte) (s : State) : State :=
  takeRequest 0x71 (body.length == 1) noticeClear tag body s

/-- LINE_CONFIGURE. -/
def execLineConfigure (tag : Byte) (body : List Byte) (s : State) : Host.Outcome State Fault Refusal :=
  .next (finish (takeLineConfigure tag body s))

/-- AUX_CONFIGURE. -/
def execAuxConfigure (tag : Byte) (body : List Byte) (s : State) : Host.Outcome State Fault Refusal :=
  .next (finish (takeAuxConfigure tag body s))

/-- FAULT_LEVEL_SET. -/
def execFaultLevelSet (tag : Byte) (body : List Byte) (s : State) : Host.Outcome State Fault Refusal :=
  .next (finish (takeFaultLevelSet tag body s))

/-- FAULT_ACKNOWLEDGE. -/
def execFaultAcknowledge (tag : Byte) (body : List Byte) (s : State) : Host.Outcome State Fault Refusal :=
  .next (finish (takeFaultAcknowledge tag body s))

/-- UNIT_CLEAR. -/
def execUnitClear (tag : Byte) (body : List Byte) (s : State) : Host.Outcome State Fault Refusal :=
  .next (finish (takeUnitClear tag body s))

/-- NOTICE_ENABLE. -/
def execNoticeEnable (tag : Byte) (body : List Byte) (s : State) : Host.Outcome State Fault Refusal :=
  .next (finish (takeNoticeEnable tag body s))

/-- NOTICE_CLEAR. -/
def execNoticeClear (tag : Byte) (body : List Byte) (s : State) : Host.Outcome State Fault Refusal :=
  .next (finish (takeNoticeClear tag body s))

end Sys2Proof.Machine
end

