-- ==== Sys2Proof/Machine/UnitRequests.lean ====
section
/-! DEFINITION. The requests of the Router Unit, Kerf Probe, Picker Unit and Stacker Unit (R97, R98, R107, R108, R114, R132, R150, R151). -/

namespace Sys2Proof.Machine

/-! ### Router Unit -/

/-- The field tests of BIT SET (R97). -/
def bitTests (body : List Byte) : List (Bool × FieldFail) :=
  [ (inRange 10000 8000000 (u32 body 0), .bad 0),
    (decide (u32 body 4 < u32 body 0), .bad 4),
    (inRange 50 600 (u16 body 8), .bad 8) ]

/-- BIT SET (R97). -/
def bitSet : Handler := fun body s =>
  if s.router.state ≠ .idle then refuse .wrongMode s
  else match firstFail (bitTests body) with
    | some f => refuseField f s
    | none =>
      let r := { s.router with life := u32 body 0, wear := u32 body 4, baseFeed := u16 body 8, bit := .known }
      done .ok (le32 (halfPoint r.life) ++ le16 (effectiveFeed r.life r.wear r.baseFeed r.override 1))
        (s.withRouter r)

/-- SPINDLE SPEED (R107). -/
def spindleSpeed : Handler := fun body s =>
  let v := u16 body 0
  let x := clampNat 20000 60000 v
  let changed := decide (x ≠ s.spindle.setpoint)
  let s := s.withSpindle { s.spindle with setpoint := x }
  let s := match s.spindle.state with
    | .stopped | .coasting => s
    | .spinup | .atSpeed => if changed then enterSpinup 500 s else s
  done (clampStatus (decide (x ≠ v))) (le16 x) s

/-- FEED OVERRIDE (R98). -/
def feedOverride : Handler := fun body s =>
  let v := u8 body 0
  let x := clampNat 25 150 v
  done (clampStatus (decide (x ≠ v))) [b8 x] (s.withRouter { s.router with override := x })

/-- SPINDLE TIMING (R108). -/
def spindleTiming : Handler := fun body s =>
  let t := u8 body 0
  let p := u8 body 1
  let t' := clampNat 5 80 t
  let p' := min 60 p
  done (clampStatus (decide (t' ≠ t) || decide (p' ≠ p))) [b8 t', b8 p']
    (s.withSpindle { s.spindle with setTime := t', parkTime := p' })

/-! ### Kerf Probe -/

/-- PROBE SETTINGS (R114). -/
def probeSettings : Handler := fun body s =>
  match ProbeMode.ofCode (u8 body 0) with
  | none => badField 0 s
  | some m =>
    let n := clampNat 1 32 (u8 body 1)
    let a := min 3 (u8 body 2)
    let t := clampNat 1 20 (u8 body 3)
    let changed := decide (n ≠ u8 body 1) || decide (a ≠ u8 body 2) || decide (t ≠ u8 body 3)
    done (clampStatus changed) [b8 (ProbeMode.code m), b8 n, b8 a, b8 t]
      (s.withProbe { s.probe with settings := { mode := m, points := n, allowance := a, settle := t } })

/-! ### Picker Unit -/

/-- PICKER TIMING (R132). -/
def pickerTiming : Handler := fun body s =>
  let g := clampNat 50 1000 (u16 body 0)
  let b := clampNat 10 200 (u8 body 2)
  done (clampStatus (decide (g ≠ u16 body 0) || decide (b ≠ u8 body 2))) (le16 g ++ [b8 b])
    (s.withPicker { s.picker with gripTime := g, blowTime := b })

/-! ### Stacker Unit -/

/-- BAY LOAD (R150, R20). -/
def bayLoad : Handler := fun body s =>
  match Bay.ofCode (u8 body 0) with
  | none => badField 0 s
  | some x =>
    match (bayOf s x).state with
    | .absent | .active | .complete => refuse .wrongMode s
    | .present | .ready =>
      match index? 4 (u8 body 1) with
      | none => badField 1 s
      | some i =>
        match Table.get s.recipe.profiles i with
        | none => refuse .notFound s
        | some p =>
          let s := clearNotice (bayChangedNotice x) (clearNotice (bayCompleteNotice x) (loadBay x i p s))
          done .ok [b8 (Profile.visits p), optByte (Profile.visitSlot p 0)] s

/-- BAY RETIRE (R151). -/
def bayRetire : Handler := fun body s =>
  match Bay.ofCode (u8 body 0) with
  | none => badField 0 s
  | some x =>
    let r := bayOf s x
    match r.state with
    | .ready => done .ok [] (completeBay x s)
    | .active =>
      if pushInProgress s x then done .accepted [] (setBay x { r with retire := true } s)
      else done .ok [] (retireNow x s)
    | .absent | .present | .complete => refuse .wrongMode s

/-! ### The requests -/

/-- BIT SET completes (R7, R97). -/
def takeBitSet (tag : Byte) (body : List Byte) (s : State) : State :=
  takeRequest 0x30 (body.length == 10) bitSet tag body s

/-- SPINDLE SPEED completes (R7, R107). -/
def takeSpindleSpeed (tag : Byte) (body : List Byte) (s : State) : State :=
  takeRequest 0x31 (body.length == 2) spindleSpeed tag body s

/-- FEED OVERRIDE completes (R7, R98). -/
def takeFeedOverride (tag : Byte) (body : List Byte) (s : State) : State :=
  takeRequest 0x32 (body.length == 1) feedOverride tag body s

/-- PROBE SETTINGS completes (R7, R114). -/
def takeProbeSettings (tag : Byte) (body : List Byte) (s : State) : State :=
  takeRequest 0x33 (body.length == 4) probeSettings tag body s

/-- SPINDLE TIMING completes (R7, R108). -/
def takeSpindleTiming (tag : Byte) (body : List Byte) (s : State) : State :=
  takeRequest 0x34 (body.length == 2) spindleTiming tag body s

/-- PICKER TIMING completes (R7, R132). -/
def takePickerTiming (tag : Byte) (body : List Byte) (s : State) : State :=
  takeRequest 0x35 (body.length == 3) pickerTiming tag body s

/-- BAY LOAD completes (R7, R150). -/
def takeBayLoad (tag : Byte) (body : List Byte) (s : State) : State :=
  takeRequest 0x40 (body.length == 2) bayLoad tag body s

/-- BAY RETIRE completes (R7, R151). -/
def takeBayRetire (tag : Byte) (body : List Byte) (s : State) : State :=
  takeRequest 0x41 (body.length == 1) bayRetire tag body s

/-- BIT_SET. -/
def execBitSet (tag : Byte) (body : List Byte) (s : State) : Host.Outcome State Fault Refusal :=
  .next (finish (takeBitSet tag body s))

/-- SPINDLE_SPEED. -/
def execSpindleSpeed (tag : Byte) (body : List Byte) (s : State) : Host.Outcome State Fault Refusal :=
  .next (finish (takeSpindleSpeed tag body s))

/-- FEED_OVERRIDE. -/
def execFeedOverride (tag : Byte) (body : List Byte) (s : State) : Host.Outcome State Fault Refusal :=
  .next (finish (takeFeedOverride tag body s))

/-- PROBE_SETTINGS. -/
def execProbeSettings (tag : Byte) (body : List Byte) (s : State) : Host.Outcome State Fault Refusal :=
  .next (finish (takeProbeSettings tag body s))

/-- SPINDLE_TIMING. -/
def execSpindleTiming (tag : Byte) (body : List Byte) (s : State) : Host.Outcome State Fault Refusal :=
  .next (finish (takeSpindleTiming tag body s))

/-- PICKER_TIMING. -/
def execPickerTiming (tag : Byte) (body : List Byte) (s : State) : Host.Outcome State Fault Refusal :=
  .next (finish (takePickerTiming tag body s))

/-- BAY_LOAD. -/
def execBayLoad (tag : Byte) (body : List Byte) (s : State) : Host.Outcome State Fault Refusal :=
  .next (finish (takeBayLoad tag body s))

/-- BAY_RETIRE. -/
def execBayRetire (tag : Byte) (body : List Byte) (s : State) : Host.Outcome State Fault Refusal :=
  .next (finish (takeBayRetire tag body s))

end Sys2Proof.Machine
end

