-- ==== Sys2Proof/Machine/Link.lean ====
section
/-! DEFINITION. The Line Link's own events: bytes, frames, gaps, and the end of a frame sent (chapter 1, R4 to R8, R15, R17). -/

namespace Sys2Proof.Machine

/-- A kind with bit 7 set, or not a request code (R8). -/
def takeBadKind (kind tag : Byte) (body : List Byte) (s : State) : State :=
  takeRequest kind true (fun _ s => refuse .badKind s) tag body s

/-- The completion of a request frame, by its kind (R7, R8). -/
def requestCompletes (kind tag : Byte) (body : List Byte) (s : State) : State :=
  match kind.toNat with
  | 0x01 => takeStatusQuery tag body s
  | 0x02 => takeTableRead tag body s
  | 0x03 => takeCellReset tag body s
  | 0x10 => takeRecipeBegin tag body s
  | 0x11 => takeBoardDefine tag body s
  | 0x12 => takeTabDefine tag body s
  | 0x13 => takeRecipeClose tag body s
  | 0x14 => takeProfileDefine tag body s
  | 0x20 => takePanelStart tag body s
  | 0x21 => takeHoldAtBoundary tag body s
  | 0x22 => takeResume tag body s
  | 0x23 => takePanelStop tag body s
  | 0x24 => takePark tag body s
  | 0x25 => takeWake tag body s
  | 0x30 => takeBitSet tag body s
  | 0x31 => takeSpindleSpeed tag body s
  | 0x32 => takeFeedOverride tag body s
  | 0x33 => takeProbeSettings tag body s
  | 0x34 => takeSpindleTiming tag body s
  | 0x35 => takePickerTiming tag body s
  | 0x40 => takeBayLoad tag body s
  | 0x41 => takeBayRetire tag body s
  | 0x50 => takeLineConfigure tag body s
  | 0x51 => takeAuxConfigure tag body s
  | 0x60 => takeFaultLevelSet tag body s
  | 0x61 => takeFaultAcknowledge tag body s
  | 0x62 => takeUnitClear tag body s
  | 0x70 => takeNoticeEnable tag body s
  | 0x71 => takeNoticeClear tag body s
  | _ => takeBadKind kind tag body s

/-! ### Reception (R4 to R6) -/

/-- The receiver's state replaced. -/
def setRx (r : Receiver) (s : State) : State := s.withLink { s.link with rx := r }

/-- LINK_GARBLED with its cause: check 0, length 1, framing 2, overrun 3 (R21). -/
def linkGarbled (cause : Byte) (s : State) : State := raiseNotice Notice.linkGarbled [cause] s

/-- The bytes an assembled frame of this body length has (R2). -/
def frameSize (n : Nat) : Nat := n + 7

/-- A complete frame: its check compared, and handed to the request slot or discarded (R6). -/
def frameComplete (bytes : List Byte) (s : State) : State :=
  let n := frameLength bytes
  let s := setRx .hunt s
  if bytes.drop (5 + n) = checkBytes ((bytes.drop 1).take (4 + n)) then
    requestCompletes (bytes.getD 3 0) (bytes.getD 4 0) ((bytes.drop 5).take n) s
  else linkGarbled 0 s

/-- The frame with one more byte in ASSEMBLE (R4, R5). -/
def assembleByte (bytes : List Byte) (s : State) : State :=
  if bytes.length = 3 && decide (512 < frameLength bytes) then finish (linkGarbled 1 (setRx .resync s))
  else if 3 ≤ bytes.length && bytes.length = frameSize (frameLength bytes) then finish (frameComplete bytes s)
  else setRx (.assemble bytes) s

/-- A byte arrives (R4, R5). Byte 2 with a framing error is taken as the framing error, whatever length it gives: the
model's choice, log entry 33. -/
def rxByte (b : Byte) (stopOk : Bool) (s : State) : State :=
  match s.link.rx with
  | .hunt => if stopOk && b = startCode then setRx (.assemble [b]) s else s
  | .resync => s
  | .assemble bytes =>
    if stopOk then assembleByte (bytes ++ [b]) s
    else finish (linkGarbled 2 (setRx .resync s))

/-- The cause byte of a damage (R5, R21). -/
def Damage.cause : Damage → Byte
  | .length => 1
  | .framing => 2

/-- A frame in ASSEMBLE reveals damage (R5). DESIGN CHOICE (log entry 37): the command carries no byte, so damage of cause
length is taken at any number of bytes received, though R5 tests the length at byte 2 alone. -/
def frameDamage (d : Damage) (s : State) : State :=
  match s.link.rx with
  | .assemble _ => finish (linkGarbled (Damage.cause d) (setRx .resync s))
  | .hunt | .resync => s

/-! ### The end of a frame (R7, R15, R17) -/

/-- An OVERRUN answer leaves the list (R7). -/
def dropAnswer (k : Link) : Link :=
  { k with overrun := k.overrun.tail, slot := k.slot.map fun x => { x with ahead := x.ahead - 1 }, tx := none }

/-- The last byte of the frame in transmission has been sent (R7, R15, R17). -/
def frameEnds (s : State) : State :=
  match s.link.tx with
  | none => s
  | some t =>
    match t.what with
    | .reply => s.withLink { s.link with slot := none, tx := none }
    | .overrun => s.withLink (dropAnswer s.link)
    | .notice n withdrawn =>
      let s := s.withLink { s.link with tx := none }
      if withdrawn then s
      else s.withNotices (setAt s.notices n { getAt s.notices n with sent := true })

/-! ### The commands -/

/-- FRAME_RECEIVED (R6): the bytes that complete the frame. -/
def execFrameReceived (bytes : List Byte) (s : State) : Host.Outcome State Fault Refusal :=
  .next (bytes.foldl (fun s b => rxByte b true s) s)

/-- FRAME_DAMAGED (R5). -/
def execFrameDamaged (d : Damage) (s : State) : Host.Outcome State Fault Refusal := .next (frameDamage d s)

/-- BYTE_GAP_TIMEOUT (R4). -/
def execByteGapTimeout (s : State) : Host.Outcome State Fault Refusal :=
  .next (match s.link.rx with
    | .assemble _ => setRx .hunt s
    | .hunt | .resync => s)

/-- RESYNC_QUIET_TIMEOUT (R5). -/
def execResyncQuietTimeout (s : State) : Host.Outcome State Fault Refusal :=
  .next (match s.link.rx with
    | .resync => setRx .hunt s
    | .hunt | .assemble _ => s)

/-- FRAME_SENT (R15). -/
def execFrameSent (s : State) : Host.Outcome State Fault Refusal := .next (finish (frameEnds s))

/-- BYTE_RECEIVED (R4). -/
def execByteReceived (b : Byte) (stopOk : Bool) (s : State) : Host.Outcome State Fault Refusal :=
  .next (rxByte b stopOk s)

end Sys2Proof.Machine
end

