-- ==== Sys2Proof/Machine/RouterEvents.lean ====
section
/-! DEFINITION. The events of the router port, the Kerf Probe and the spindle (chapters 5 and 6). -/

namespace Sys2Proof.Machine

/-! ### The router order port -/

/-- An assertion edge on a line whose consumers use edges alone: the line accepted as deasserted, which gives
them nothing, and then as asserted (R164). Log entry 4. -/
def acceptEdge (l : Fin 16) (s : State) : State := acceptLine l true (acceptLine l false s)

/-- A DONE command of a port: it stands for an edge on the port's DONE line. While an order of another
kind is in flight no such edge can be the one it names. Log entry 4. -/
def namedDone (ofKind : Order → Bool) (port : Port) (l : Fin 16) (s : State) : State :=
  match Port.flying port with
  | some o => if ofKind o then acceptEdge l s else s
  | none => acceptEdge l s

/-- The order in flight on the router port is a CUT. -/
def Order.isCut : Order → Bool
  | .cut _ _ _ _ _ => true
  | _ => false

/-- The order is MOVE_CLEAR. -/
def Order.isMoveClear : Order → Bool
  | .moveClear => true
  | _ => false

/-- The order is a PROBE_MOVE. -/
def Order.isProbeMove : Order → Bool
  | .probeMove _ _ => true
  | _ => false

/-- The completion timer of a router order of this kind runs. -/
def routerTimes (ofKind : Order → Bool) (s : State) : Bool :=
  match Port.flying s.ports.router with
  | some o => ofKind o && (s.router.timer.isSome || s.probe.moveTimer.isSome)
  | none => false

/-- CUT_COMPLETE (R95): a ROUTER_DONE edge with a CUT in flight. -/
def execCutComplete (s : State) : Host.Outcome State Fault Refusal :=
  .next (finish (namedDone Order.isCut s.ports.router 0 s))

/-- CUT_TIMEOUT (R95). -/
def execCutTimeout (s : State) : Host.Outcome State Fault Refusal :=
  .next (finish (if routerTimes Order.isCut s then interruptRouter raise true s else s))

/-- MOVE_CLEAR_DONE (R93). -/
def execMoveClearDone (s : State) : Host.Outcome State Fault Refusal :=
  .next (finish (namedDone Order.isMoveClear s.ports.router 0 s))

/-- MOVE_CLEAR_TIMEOUT (R93). -/
def execMoveClearTimeout (s : State) : Host.Outcome State Fault Refusal :=
  .next (finish (if routerTimes Order.isMoveClear s then interruptRouter raise true s else s))

/-- PROBE_MOVE_DONE (R119). -/
def execProbeMoveDone (s : State) : Host.Outcome State Fault Refusal :=
  .next (finish (namedDone Order.isProbeMove s.ports.router 0 s))

/-- PROBE_MOVE_TIMEOUT (R119). -/
def execProbeMoveTimeout (s : State) : Host.Outcome State Fault Refusal :=
  .next (finish (if routerTimes Order.isProbeMove s then interruptRouter raise true s else s))

/-- The settle timer runs (R120). -/
def settling (s : State) : Bool :=
  decide (s.probe.state = .settle) && match s.probe.work with
    | some w => w.timer.isSome
    | none => false

/-- SETTLE_TIMEOUT (R120, R121). -/
def execSettleTimeout (s : State) : Host.Outcome State Fault Refusal :=
  .next (finish (if settling s then checkPoint raise s else s))

/-! ### The tach and the spindle -/

/-- In tolerance (R104): |rpm − S| · 100 ≤ 3 · S. -/
def inTolerance (rpm setpoint : Nat) : Bool :=
  decide ((rpm - setpoint) * 100 ≤ 3 * setpoint) && decide ((setpoint - rpm) * 100 ≤ 3 * setpoint)

/-- Sagging (R104). -/
def sagging (rpm setpoint : Nat) : Bool := decide (rpm * 10 < 9 * setpoint)

/-- The end of a wake (R63). -/
def wakeComplete (s : State) : State :=
  match s.cell.mode, s.cell.ret with
  | .waking, some m =>
    let s := enterMode m (s.withCell { s.cell with ret := none })
    raiseNotice Notice.readyAfterWake [b8 (Mode.code m)] s
  | _, _ => s

/-- The third period in tolerance (R105); AT_SPEED the tach watch runs at once (R109). -/
def reachSpeed (s : State) : State :=
  wakeComplete (s.withSpindle { s.spindle with
    state := .atSpeed, stabilise := none, deadline := none
    watch := if s.spindle.watch = .delay then .armed else s.spindle.watch })

/-- A counted period at the qualification (R105). `counted` says that both its edges came after the
stabilisation timer expired. -/
def qualifyPeriod (counted : Bool) (rpm : Nat) (s : State) : State :=
  if s.spindle.state = .spinup && s.spindle.stabilise.isNone && counted then
    let n := if inTolerance rpm s.spindle.setpoint then s.spindle.qualify + 1 else 0
    let s := s.withSpindle { s.spindle with qualify := n }
    if 3 ≤ n then reachSpeed s else s
  else s

/-- The CUT in flight is presented (R110). -/
def cutInFlight (s : State) : Option Operation :=
  if s.router.state = .cut && s.router.presented && s.ports.router.inFlight then s.router.operation else none

/-- A period at the sag watch (R110). -/
def sagPeriod (rpm : Nat) (s : State) : State :=
  match cutInFlight s with
  | none => s
  | some op =>
    if 8 ≤ s.router.sag then s
    else
      let n := if sagging rpm s.spindle.setpoint then s.router.sag + 1 else 0
      let s := s.withRouter { s.router with sag := n }
      if 8 ≤ n then raise Source.spindleSag (.tab op.tab) s else s

/-- The speed of a period of C µs (R104). A period of 0 µs has no stated speed: a free value. Log entry 6. -/
def periodRpm (c : Nat) (s : State) : Nat × State :=
  if c = 0 then (Config.freeRpm s.free, s.withFree (s.free + 1)) else (60000000 / c, s)

/-- A measured period (R104): the last rpm, the qualification, the sag watch. -/
def measurePeriod (counted : Bool) (c : Nat) (s : State) : State :=
  let p := periodRpm c s
  let s := p.2.withSpindle { p.2.spindle with rpm := p.1 }
  sagPeriod p.1 (qualifyPeriod counted p.1 s)

/-- The edge becomes the last edge, counts if the stabilisation timer has expired, and arms a disarmed
watch (R104, R105, R109). -/
def noteEdge (time : Nat) (s : State) : State :=
  let p := s.spindle
  s.withSpindle { p with
    lastEdge := some time
    edgeCounts := decide (p.state = .spinup) && p.stabilise.isNone
    watch := if p.watch = .disarmed then .armed else p.watch }

/-- A tach rising edge (R104). -/
def tachRises (time : Nat) (s : State) : State :=
  let counted := s.spindle.edgeCounts
  match s.spindle.lastEdge with
  | none => noteEdge time s
  | some t =>
    let c := time - t
    if c ≤ 50000 then measurePeriod counted c (noteEdge time s) else noteEdge time s

/-- TACH_EDGE (R104). -/
def execTachEdge (time : Nat) (s : State) : Host.Outcome State Fault Refusal := .next (finish (tachRises time s))

/-- STABILISATION_TIMEOUT (R105). -/
def execStabilisationTimeout (s : State) : Host.Outcome State Fault Refusal :=
  .next (finish (if s.spindle.stabilise.isSome then
    s.withSpindle { s.spindle with stabilise := none, edgeCounts := false } else s))

/-- SPINUP_TIMEOUT (R106). -/
def execSpinupTimeout (s : State) : Host.Outcome State Fault Refusal :=
  .next (finish (if s.spindle.state = .spinup && s.spindle.deadline.isSome then
    raise Source.spinupTimeout .none (s.withSpindle { s.spindle with deadline := none }) else s))

/-- SPINDLE_COAST_TIMEOUT (R103, R60). -/
def execSpindleCoastTimeout (s : State) : Host.Outcome State Fault Refusal :=
  .next (finish (if s.spindle.state = .coasting then
    let s := s.withSpindle { s.spindle with state := .stopped, rpm := 0 }
    if s.cell.mode = .parked then raiseParked s else s
  else s))

/-- The tach watch runs and is armed (R109). -/
def watchArmed (s : State) : Bool :=
  decide (s.spindle.watch = .armed) && (decide (s.spindle.state = .spinup) || decide (s.spindle.state = .atSpeed))

/-- 50 ms without an edge under the armed watch (R109): an AT_SPEED spindle returns to SPINUP, whose watch
begins 1 s later; one in SPINUP has its watch disarmed; TACH_LOST is raised. -/
def tachSilent (s : State) : State :=
  raise Source.tachLost .none
    (if s.spindle.state = .atSpeed then enterSpinup 500 s
     else s.withSpindle { s.spindle with watch := .disarmed })

/-- TACH_LOST (R109). -/
def execTachLost (s : State) : Host.Outcome State Fault Refusal :=
  .next (finish (if watchArmed s then tachSilent s else s))

/-- TACH_WATCH_ARM (R109). -/
def execTachWatchArm (s : State) : Host.Outcome State Fault Refusal :=
  .next (finish (match s.spindle.watch with
    | .delay | .disarmed => s.withSpindle { s.spindle with watch := .armed }
    | .off | .armed => s))

end Sys2Proof.Machine
end

