-- ==== Sys2Proof/Machine/PickerEvents.lean ====
section
/-! DEFINITION. The events of the picker (chapter 7). -/

namespace Sys2Proof.Machine

/-- The order is an APPROACH. -/
def Order.isApproach : Order → Bool
  | .approach _ _ _ => true
  | _ => false

/-- The order is a CARRY. -/
def Order.isCarry : Order → Bool
  | .carry _ => true
  | _ => false

/-- The order is HOME. -/
def Order.isHome : Order → Bool
  | .home => true
  | _ => false

/-- APPROACH_DONE (R130): a PICKER_DONE edge with an APPROACH in flight. -/
def execApproachDone (s : State) : Host.Outcome State Fault Refusal :=
  .next (finish (namedDone Order.isApproach s.ports.picker 1 s))

/-- CARRY_DONE (R137, R136). -/
def execCarryDone (s : State) : Host.Outcome State Fault Refusal :=
  .next (finish (namedDone Order.isCarry s.ports.picker 1 s))

/-- HOME_DONE (R138). -/
def execHomeDone (s : State) : Host.Outcome State Fault Refusal :=
  .next (finish (namedDone Order.isHome s.ports.picker 1 s))

/-- The detail of PICKER_TIMEOUT (R129). -/
def pickerDetail (s : State) : Detail :=
  match s.picker.board with
  | some b => .board b
  | none => .none

/-- PICKER_MOVE_TIMEOUT (R129). -/
def execPickerMoveTimeout (s : State) : Host.Outcome State Fault Refusal :=
  .next (finish (if s.ports.picker.inFlight && s.picker.moveTimer.isSome then
    raise Source.pickerTimeout (pickerDetail s) (stallMove s) else s))

/-- GRIP_TIMEOUT (R131). -/
def execGripTimeout (s : State) : Host.Outcome State Fault Refusal :=
  .next (finish (if s.picker.state = .gripping && s.picker.gripTimer.isSome then
    if s.picker.retry then gripFails raise s else vacuumPause true s
  else s))

/-- VACUUM_OFF_TIMEOUT (R131, R134). -/
def execVacuumOffTimeout (s : State) : Host.Outcome State Fault Refusal :=
  .next (finish (if s.picker.state = .gripping && s.picker.vacOffTimer.isSome then startGrip s else s))

/-- VACUUM_OK_ASSERT (R131). -/
def execVacuumOkAssert (s : State) : Host.Outcome State Fault Refusal := .next (finish (acceptLine 5 true s))

/-- VACUUM_OK_DEASSERT (R134 to R136). -/
def execVacuumOkDeassert (s : State) : Host.Outcome State Fault Refusal := .next (finish (acceptLine 5 false s))

/-- The pulse's end (R137): BLOW_OFF off, the nest window started, or the placement confirmed. -/
def blowEnds (s : State) : State :=
  let s := s.withOutputs { s.outputs with blowOff := false }
  let s := s.withPicker { s.picker with blowTimer := none, windowTimer := some 200 }
  match s.picker.board, s.picker.nest with
  | some b, some n => if asserted s (nestLine n) then placementConfirmed b n s else s
  | _, _ => s

/-- BLOW_OFF_TIMEOUT (R137). -/
def execBlowOffTimeout (s : State) : Host.Outcome State Fault Refusal :=
  .next (finish (if s.picker.state = .placing && s.picker.blowTimer.isSome then blowEnds s else s))

/-- The window's end (R137, R145). -/
def windowEnds (s : State) : State :=
  match s.picker.board, s.picker.nest with
  | some b, some n => placementRefused raise b n s
  | _, _ => s

/-- NEST_WINDOW_TIMEOUT (R137). -/
def execNestWindowTimeout (s : State) : Host.Outcome State Fault Refusal :=
  .next (finish (if s.picker.state = .placing && s.picker.windowTimer.isSome then windowEnds s else s))

end Sys2Proof.Machine
end

