-- ==== Sys2Proof/Machine/StackerEvents.lean ====
section
/-! DEFINITION. The events of the Nest Queue and the stacker (chapter 8). -/

namespace Sys2Proof.Machine

/-- NEST_LINE_ASSERT (R147). -/
def execNestLineAssert (n : Fin 3) (s : State) : Host.Outcome State Fault Refusal :=
  .next (finish (acceptLine (nestLine n) true s))

/-- NEST_LINE_DEASSERT (R147). -/
def execNestLineDeassert (n : Fin 3) (s : State) : Host.Outcome State Fault Refusal :=
  .next (finish (acceptLine (nestLine n) false s))

/-- The order is a FROM_NEST. -/
def Order.isFromNest : Order → Bool
  | .fromNest _ => true
  | _ => false

/-- The order is TO_MOUTH. -/
def Order.isToMouth : Order → Bool
  | .toMouth => true
  | _ => false

/-- The order is TO_CHUTE. -/
def Order.isToChute : Order → Bool
  | .toChute => true
  | _ => false

/-- The order is an ELEVATE. -/
def Order.isElevate : Order → Bool
  | .elevate _ _ => true
  | _ => false

/-- FROM_NEST_DONE (R146): a TRANSFER_DONE edge with a FROM_NEST in flight. -/
def execFromNestDone (s : State) : Host.Outcome State Fault Refusal :=
  .next (finish (namedDone Order.isFromNest s.ports.transfer 2 s))

/-- NEST_CLEAR_WINDOW_TIMEOUT (R146). -/
def execNestClearWindowTimeout (s : State) : Host.Outcome State Fault Refusal :=
  .next (finish (match s.stacker.hand with
    | some h => if s.stacker.nestClear.isSome then fetchFails raise h s else s
    | none => s))

/-- ELEVATE_DONE (R156). -/
def execElevateDone (s : State) : Host.Outcome State Fault Refusal :=
  .next (finish (namedDone Order.isElevate s.ports.elevator 3 s))

/-- TO_MOUTH_DONE (R157). -/
def execToMouthDone (s : State) : Host.Outcome State Fault Refusal :=
  .next (finish (namedDone Order.isToMouth s.ports.transfer 2 s))

/-- TO_CHUTE_DONE (R159). -/
def execToChuteDone (s : State) : Host.Outcome State Fault Refusal :=
  .next (finish (namedDone Order.isToChute s.ports.transfer 2 s))

/-- TRANSFER_TIMEOUT (R155). -/
def execTransferTimeout (s : State) : Host.Outcome State Fault Refusal :=
  .next (finish (if s.stacker.transferTimer.isSome then transferTimesOut raise s else s))

/-- ELEVATOR_TIMEOUT (R155). -/
def execElevatorTimeout (s : State) : Host.Outcome State Fault Refusal :=
  .next (finish (if s.stacker.elevateTimer.isSome then elevatorTimesOut raise s else s))

/-- PUSHER_HOME_ASSERT (R157). -/
def execPusherHomeAssert (s : State) : Host.Outcome State Fault Refusal := .next (finish (acceptLine 7 true s))

/-- PUSHER_HOME_DEASSERT (R157). -/
def execPusherHomeDeassert (s : State) : Host.Outcome State Fault Refusal := .next (finish (acceptLine 7 false s))

/-- HOME_WAIT_TIMEOUT (R157, R161). -/
def execHomeWaitTimeout (s : State) : Host.Outcome State Fault Refusal :=
  .next (finish (if s.stacker.homeWait.isSome then pushFails raise s else s))

/-- LEAVE_TIMEOUT (R157). -/
def execLeaveTimeout (s : State) : Host.Outcome State Fault Refusal :=
  .next (finish (if s.stacker.leave.isSome then pushFails raise s else s))

/-- RETURN_TIMEOUT (R157). -/
def execReturnTimeout (s : State) : Host.Outcome State Fault Refusal :=
  .next (finish (if s.stacker.return_.isSome then pushFails raise s else s))

/-- CHUTE_PASS (R159): an assertion edge of the line. -/
def execChutePass (s : State) : Host.Outcome State Fault Refusal := .next (finish (acceptEdge 14 s))

/-- CHUTE_WINDOW_TIMEOUT (R159). -/
def execChuteWindowTimeout (s : State) : Host.Outcome State Fault Refusal :=
  .next (finish (if s.stacker.chuteWindow.isSome then chuteMissed raise s else s))

/-- BAY_PRESENT_ASSERT (R149). -/
def execBayPresentAssert (x : Bay) (s : State) : Host.Outcome State Fault Refusal :=
  .next (finish (acceptLine (presenceLine x) true s))

/-- BAY_PRESENT_DEASSERT (R149). -/
def execBayPresentDeassert (x : Bay) (s : State) : Host.Outcome State Fault Refusal :=
  .next (finish (acceptLine (presenceLine x) false s))

end Sys2Proof.Machine
end

