-- ==== Sys2Proof/Machine/Dispatch.lean ====
section
/-! DEFINITION. One arm per command: each is a direct call of its meaning. -/

namespace Sys2Proof.Machine

/-- The command's effect on everything but the queue. -/
def exec (i : Instr) (s : State) : Host.Outcome State Fault Refusal :=
  match i with
  | .powerOn => Sys2Proof.Machine.execPowerOn s
  | .frameReceived bytes => Sys2Proof.Machine.execFrameReceived bytes s
  | .frameDamaged cause => Sys2Proof.Machine.execFrameDamaged cause s
  | .byteGapTimeout => Sys2Proof.Machine.execByteGapTimeout s
  | .resyncQuietTimeout => Sys2Proof.Machine.execResyncQuietTimeout s
  | .frameSent => Sys2Proof.Machine.execFrameSent s
  | .statusQuery tag body => Sys2Proof.Machine.execStatusQuery tag body s
  | .tableRead tag body => Sys2Proof.Machine.execTableRead tag body s
  | .cellReset tag body => Sys2Proof.Machine.execCellReset tag body s
  | .recipeBegin tag body => Sys2Proof.Machine.execRecipeBegin tag body s
  | .boardDefine tag body => Sys2Proof.Machine.execBoardDefine tag body s
  | .tabDefine tag body => Sys2Proof.Machine.execTabDefine tag body s
  | .recipeClose tag body => Sys2Proof.Machine.execRecipeClose tag body s
  | .profileDefine tag body => Sys2Proof.Machine.execProfileDefine tag body s
  | .panelStart tag body => Sys2Proof.Machine.execPanelStart tag body s
  | .holdAtBoundary tag body => Sys2Proof.Machine.execHoldAtBoundary tag body s
  | .resume tag body => Sys2Proof.Machine.execResume tag body s
  | .panelStop tag body => Sys2Proof.Machine.execPanelStop tag body s
  | .park tag body => Sys2Proof.Machine.execPark tag body s
  | .wake tag body => Sys2Proof.Machine.execWake tag body s
  | .bitSet tag body => Sys2Proof.Machine.execBitSet tag body s
  | .spindleSpeed tag body => Sys2Proof.Machine.execSpindleSpeed tag body s
  | .feedOverride tag body => Sys2Proof.Machine.execFeedOverride tag body s
  | .probeSettings tag body => Sys2Proof.Machine.execProbeSettings tag body s
  | .spindleTiming tag body => Sys2Proof.Machine.execSpindleTiming tag body s
  | .pickerTiming tag body => Sys2Proof.Machine.execPickerTiming tag body s
  | .bayLoad tag body => Sys2Proof.Machine.execBayLoad tag body s
  | .bayRetire tag body => Sys2Proof.Machine.execBayRetire tag body s
  | .lineConfigure tag body => Sys2Proof.Machine.execLineConfigure tag body s
  | .auxConfigure tag body => Sys2Proof.Machine.execAuxConfigure tag body s
  | .faultLevelSet tag body => Sys2Proof.Machine.execFaultLevelSet tag body s
  | .faultAcknowledge tag body => Sys2Proof.Machine.execFaultAcknowledge tag body s
  | .unitClear tag body => Sys2Proof.Machine.execUnitClear tag body s
  | .noticeEnable tag body => Sys2Proof.Machine.execNoticeEnable tag body s
  | .noticeClear tag body => Sys2Proof.Machine.execNoticeClear tag body s
  | .idleParkTimeout => Sys2Proof.Machine.execIdleParkTimeout s
  | .cutComplete => Sys2Proof.Machine.execCutComplete s
  | .cutTimeout => Sys2Proof.Machine.execCutTimeout s
  | .moveClearDone => Sys2Proof.Machine.execMoveClearDone s
  | .moveClearTimeout => Sys2Proof.Machine.execMoveClearTimeout s
  | .tachEdge time => Sys2Proof.Machine.execTachEdge time s
  | .stabilisationTimeout => Sys2Proof.Machine.execStabilisationTimeout s
  | .spinupTimeout => Sys2Proof.Machine.execSpinupTimeout s
  | .spindleCoastTimeout => Sys2Proof.Machine.execSpindleCoastTimeout s
  | .tachLost => Sys2Proof.Machine.execTachLost s
  | .tachWatchArm => Sys2Proof.Machine.execTachWatchArm s
  | .probeMoveDone => Sys2Proof.Machine.execProbeMoveDone s
  | .probeMoveTimeout => Sys2Proof.Machine.execProbeMoveTimeout s
  | .settleTimeout => Sys2Proof.Machine.execSettleTimeout s
  | .approachDone => Sys2Proof.Machine.execApproachDone s
  | .carryDone => Sys2Proof.Machine.execCarryDone s
  | .homeDone => Sys2Proof.Machine.execHomeDone s
  | .pickerMoveTimeout => Sys2Proof.Machine.execPickerMoveTimeout s
  | .gripTimeout => Sys2Proof.Machine.execGripTimeout s
  | .vacuumOffTimeout => Sys2Proof.Machine.execVacuumOffTimeout s
  | .vacuumOkAssert => Sys2Proof.Machine.execVacuumOkAssert s
  | .vacuumOkDeassert => Sys2Proof.Machine.execVacuumOkDeassert s
  | .blowOffTimeout => Sys2Proof.Machine.execBlowOffTimeout s
  | .nestWindowTimeout => Sys2Proof.Machine.execNestWindowTimeout s
  | .nestLineAssert nest => Sys2Proof.Machine.execNestLineAssert nest s
  | .nestLineDeassert nest => Sys2Proof.Machine.execNestLineDeassert nest s
  | .fromNestDone => Sys2Proof.Machine.execFromNestDone s
  | .nestClearWindowTimeout => Sys2Proof.Machine.execNestClearWindowTimeout s
  | .elevateDone => Sys2Proof.Machine.execElevateDone s
  | .toMouthDone => Sys2Proof.Machine.execToMouthDone s
  | .toChuteDone => Sys2Proof.Machine.execToChuteDone s
  | .transferTimeout => Sys2Proof.Machine.execTransferTimeout s
  | .elevatorTimeout => Sys2Proof.Machine.execElevatorTimeout s
  | .pusherHomeAssert => Sys2Proof.Machine.execPusherHomeAssert s
  | .pusherHomeDeassert => Sys2Proof.Machine.execPusherHomeDeassert s
  | .homeWaitTimeout => Sys2Proof.Machine.execHomeWaitTimeout s
  | .leaveTimeout => Sys2Proof.Machine.execLeaveTimeout s
  | .returnTimeout => Sys2Proof.Machine.execReturnTimeout s
  | .chutePass => Sys2Proof.Machine.execChutePass s
  | .chuteWindowTimeout => Sys2Proof.Machine.execChuteWindowTimeout s
  | .bayPresentAssert bay => Sys2Proof.Machine.execBayPresentAssert bay s
  | .bayPresentDeassert bay => Sys2Proof.Machine.execBayPresentDeassert bay s
  | .stopChainOpen => Sys2Proof.Machine.execStopChainOpen s
  | .stopChainClosed => Sys2Proof.Machine.execStopChainClosed s
  | .driveFaultChange asserted => Sys2Proof.Machine.execDriveFaultChange asserted s
  | .doorClosedChange asserted => Sys2Proof.Machine.execDoorClosedChange asserted s
  | .auxLineAccept line high => Sys2Proof.Machine.execAuxLineAccept line high s
  | .byteReceived byte stopOk => Sys2Proof.Machine.execByteReceived byte stopOk s
  | .lineAcceptance line asserted => Sys2Proof.Machine.execLineAcceptance line asserted s

end Sys2Proof.Machine
end

