-- ==== Sys2Proof/Safety.lean ====
section
/-! DEFINITION. When nothing more happens at a moment, what a safe state is, and the words claims use for the outside of the part. -/

namespace Sys2Proof.Machine

/-! ### No reaction is due -/

/-- The role of an aux line has nothing to act on (R170). -/
def auxStill (s : State) (n : Fin 4) : Bool :=
  let a := getAt s.lines.aux n
  !a.enable ||
    match a.role with
    | .notice => decide (a.latch ≠ .set) || (getAt s.notices (auxNotice n)).raised
    | .hold =>
      match a.latch with
      | .clear => true
      | .set => !holdTakeable s
      | .standing => !standingHold s
    | .fault => decide (a.latch ≠ .set)
    | .wake => decide (a.latch = .clear) || decide (s.cell.mode ≠ .parked)

/-- No Panel Record changes state (R49, R50). -/
def recordsStill (s : State) : Bool :=
  s.seq.records.all (fun r => !PanelRec.done r) && ((cuttingRecord s).isNone || !noneBeforeQueued s)

/-- The router presents and chooses nothing (R72, R94). -/
def routerStill (s : State) : Bool :=
  !(decide (s.router.state = .cut) && s.router.operation.isSome && !s.router.presented && !s.ports.router.inFlight &&
      cutMayPresent s) &&
    !(decide (s.router.state = .idle) && cuttingPermitted s && (chosenTab s).isSome)

/-- The front board is READY. -/
def frontReady (s : State) : Bool :=
  match front s with
  | some b => decide (boardState s b = some .ready)
  | none => false

/-- The picker is neither granted nor resumed (R83, R129). -/
def pickerStill (s : State) : Bool :=
  !(s.picker.stalled && moveMayResume s) && !(grantable s && frontReady s)

/-- The stacker presents, chooses and begins nothing (R153 to R155, R160, R161). -/
def stackerStill (s : State) : Bool :=
  !(freeToMove s && (s.stacker.heldTransfer.isSome || s.stacker.heldElevate.isSome)) &&
    !(decide (s.stacker.state = .push) && freeToMove s && (s.stacker.recovery || s.stacker.heldStroke)) &&
    !(untargeted s && (bayChoice s).isSome) &&
    !(untargeted s && !transferBusy s && decide (s.stacker.state ≠ .fetch) && decide (s.stacker.state ≠ .waitBay)) &&
    !(decide (s.stacker.state = .idle) && freeToMove s && s.nests.head?.any fun e => decide (e.state = .occupied))

/-- No block has a reaction due: between two commands the part stands in such a state. -/
def still (s : State) : Bool :=
  recordsStill s && [(0 : Fin 4), 1, 2, 3].all (auxStill s) && routerStill s &&
    !(decide (s.cell.mode = .holding) && atBoundary s) && pickerStill s && stackerStill s

/-- What ends every command in any case: the idle-park timer runs or stops as R61 gives, and a free outbound line begins
its next frame (R15). -/
def rest (s : State) : State := linkKick (idleTimer s)

/-! ### What the outside sees of a request and of a line -/

/-- The reply to a request in the slot, its reply-pending mark set (R7). -/
def replied (kind tag : Byte) (body reply : List Byte) (s : State) : State :=
  s.withLink { s.link with
    slot := some { kind := kind, tag := tag, body := body, replyPending := true, reply := reply
                   ahead := s.link.overrun.length } }

/-- The next acceptance of a level on the line is an assertion edge (R164). -/
def low (s : State) (l : Fin 16) : Prop := (getAt s.lines.ded l).filter.level = some false

/-- A level accepted on a dedicated line, its change not yet handed over (R164, R165). -/
def accepted (l : Fin 16) (v : Bool) (s : State) : State :=
  let d := getAt s.lines.ded l
  s.withLines { s.lines with
    ded := setAt s.lines.ded l { d with filter := { level := some v, count := 0, seen := v } } }

/-- The order in flight on a port has completed: the port free, its record still on the outputs (R173). -/
def landed (p : Port) : Port := { p with inFlight := false }

/-- A port with a new order strobed (R173). -/
def strobed (o : Order) (p : Port) : Port := { p with record := some o, inFlight := true, strobes := p.strobes + 1 }

/-- A port after a STOP pulse to its order in flight (R173). -/
def stopped (p : Port) : Port := { p with inFlight := false, stops := p.stops + 1 }

/-- The kind, tag and body of the frame of a request (section 1.2), or none for a command that is no request. -/
def requestOf : Instr → Option (Byte × Byte × List Byte)
  | .statusQuery tag body => some (0x01, tag, body)
  | .tableRead tag body => some (0x02, tag, body)
  | .cellReset tag body => some (0x03, tag, body)
  | .recipeBegin tag body => some (0x10, tag, body)
  | .boardDefine tag body => some (0x11, tag, body)
  | .tabDefine tag body => some (0x12, tag, body)
  | .recipeClose tag body => some (0x13, tag, body)
  | .profileDefine tag body => some (0x14, tag, body)
  | .panelStart tag body => some (0x20, tag, body)
  | .holdAtBoundary tag body => some (0x21, tag, body)
  | .resume tag body => some (0x22, tag, body)
  | .panelStop tag body => some (0x23, tag, body)
  | .park tag body => some (0x24, tag, body)
  | .wake tag body => some (0x25, tag, body)
  | .bitSet tag body => some (0x30, tag, body)
  | .spindleSpeed tag body => some (0x31, tag, body)
  | .feedOverride tag body => some (0x32, tag, body)
  | .probeSettings tag body => some (0x33, tag, body)
  | .spindleTiming tag body => some (0x34, tag, body)
  | .pickerTiming tag body => some (0x35, tag, body)
  | .bayLoad tag body => some (0x40, tag, body)
  | .bayRetire tag body => some (0x41, tag, body)
  | .lineConfigure tag body => some (0x50, tag, body)
  | .auxConfigure tag body => some (0x51, tag, body)
  | .faultLevelSet tag body => some (0x60, tag, body)
  | .faultAcknowledge tag body => some (0x61, tag, body)
  | .unitClear tag body => some (0x62, tag, body)
  | .noticeEnable tag body => some (0x70, tag, body)
  | .noticeClear tag body => some (0x71, tag, body)
  | .powerOn | .frameReceived _ | .frameDamaged _ | .byteGapTimeout | .resyncQuietTimeout | .frameSent => none
  | .idleParkTimeout | .cutComplete | .cutTimeout | .moveClearDone | .moveClearTimeout | .tachEdge _ => none
  | .stabilisationTimeout | .spinupTimeout | .spindleCoastTimeout | .tachLost | .tachWatchArm => none
  | .probeMoveDone | .probeMoveTimeout | .settleTimeout | .approachDone | .carryDone | .homeDone => none
  | .pickerMoveTimeout | .gripTimeout | .vacuumOffTimeout | .vacuumOkAssert | .vacuumOkDeassert => none
  | .blowOffTimeout | .nestWindowTimeout | .nestLineAssert _ | .nestLineDeassert _ | .fromNestDone => none
  | .nestClearWindowTimeout | .elevateDone | .toMouthDone | .toChuteDone | .transferTimeout => none
  | .elevatorTimeout | .pusherHomeAssert | .pusherHomeDeassert | .homeWaitTimeout | .leaveTimeout => none
  | .returnTimeout | .chutePass | .chuteWindowTimeout | .bayPresentAssert _ | .bayPresentDeassert _ => none
  | .stopChainOpen | .stopChainClosed | .driveFaultChange _ | .doorClosedChange _ | .auxLineAccept _ _ => none
  | .byteReceived _ _ | .lineAcceptance _ _ => none

/-- The body lengths a request accepts, by its kind (R9, section 1.2). -/
def lengthAccepted (kind : Byte) (n : Nat) : Bool :=
  match kind.toNat with
  | 0x01 | 0x03 | 0x10 | 0x21 | 0x22 | 0x23 | 0x24 | 0x25 => decide (n = 0)
  | 0x13 | 0x32 | 0x41 | 0x61 | 0x62 | 0x71 => decide (n = 1)
  | 0x31 | 0x34 | 0x40 | 0x60 | 0x70 => decide (n = 2)
  | 0x02 | 0x35 | 0x50 => decide (n = 3)
  | 0x33 => decide (n = 4)
  | 0x51 => decide (n = 5)
  | 0x30 => decide (n = 10)
  | 0x14 => decide (n = 11)
  | 0x11 => decide (n ∈ [6, 12, 18, 24, 30, 36, 42, 48])
  | 0x12 => decide (n ∈ [13, 26, 39, 52, 65, 78, 91, 104, 117, 130, 143, 156, 169, 182, 195, 208])
  | 0x20 => decide (8 ≤ n) && decide (n ≤ 136) && decide (n % 2 = 0)
  | _ => false

end Sys2Proof.Machine
end

