-- ==== Sys2Proof/Certificates/Slice0/Obligations.lean ====
section
/-! DEFINITION. The statements for the provers, chapter by chapter of the specification. -/

open Sys2Proof Sys2Proof.Machine

/-! ### The queue of commands, and the rest between commands -/

/-- A step carries out the command at the front of the queue with the queue's rest. -/
def Obligations.StepRunsTheFrontCommand : Prop :=
  ∀ (c : Instr) (rest : List Instr) (s : State), s.pending = c :: rest → step s = exec c (s.withPending rest)

/-- Where no block has a reaction due, what ends a command is the idle-park timer and the outbound line alone
(log entry 12).
What falls due in the Run Sequencer and in Cell Mode control: a CUTTING record whose boards have all reached QUEUED or
ended goes to STACKING, with PANEL_CUT_DONE, and the cell to IDLE or the return mode to IDLE (R49); the records that are
STACKING with nothing outstanding are removed and the first reported by PANEL_COMPLETE (R50); HOLDING goes to HELD at the
boundary (R55); a cell that is WAKING when the spindle reaches AT_SPEED enters its return mode (R63, R105). -/
def Obligations.NothingDueChangesNothing : Prop :=
  (∀ s : State, still s = true → finish s = rest s) ∧
  (∀ s : State,
     let waits (b : BoardState) : Prop := b = .waiting ∨ b = .precut ∨ b = .ready ∨ b = .held ∨ b = .freed
     (cuttingRecord s = none ∨ (∃ e ∈ s.seq.boards, waits e.2.state) → recordTest s = removeComplete s) ∧
     (∀ r, cuttingRecord s = some r → (∀ e ∈ s.seq.boards, ¬ waits e.2.state) →
       s.cell.mode = .halted ∨ latched s.faults = false →
       let cell : Cell :=
         match s.cell.mode with
         | .running | .holding | .held => { s.cell with mode := .idle, holdLatch := false }
         | .halted => { s.cell with ret := some .idle, holdLatch := false }
         | .unconfigured | .idle | .parked | .waking => s.cell
       recordTest s = removeComplete ((raiseNotice Notice.panelCutDone (le32 r.serial.toNat) (s.withSeq
         { s.seq with
           records := s.seq.records.map fun q => if q.state = .cutting then { q with state := .stacking } else q
         })).withCell cell))) ∧
  (∀ s : State,
     let ended (r : PanelRec) : Bool := decide (r.state = .stacking ∧ r.outstanding = 0)
     (s.seq.records.filter ended = [] → removeComplete s = s) ∧
     (∀ r more, s.seq.records.filter ended = r :: more →
       removeComplete s = (raiseNotice Notice.panelComplete
         (le32 r.serial.toNat ++ [b8 r.stacked, b8 r.chuted, b8 r.failed, b8 r.lost, b8 r.abandoned]) s).withSeq
         { s.seq with records := s.seq.records.filter fun r => !ended r })) ∧
  (∀ s : State,
     let reached : Prop :=
       s.router.state = .idle ∧ (s.picker.state = .idle ∨ s.picker.state = .returning) ∧
         ∀ t, pendingTab s = some t → awaitsHold s t = true ∨ cuttingPermitted s = false
     (s.cell.mode = .holding → reached → latched s.faults = false →
       boundary s = raiseNotice Notice.holdReached [] (s.withCell { s.cell with mode := .held })) ∧
     (s.cell.mode ≠ .holding ∨ ¬ reached → boundary s = s)) ∧
  (∀ (m : Mode) (s : State),
     let fast := s.withSpindle
       { s.spindle with
         state := .atSpeed, stabilise := none, deadline := none
         watch := if s.spindle.watch = .delay then .armed else s.spindle.watch }
     (s.cell.mode ≠ .waking → reachSpeed s = fast) ∧
     (s.cell.mode = .waking → s.cell.ret = some m → latched s.faults = false →
       let home := fast.withCell { s.cell with mode := m, ret := none }
       reachSpeed s = raiseNotice Notice.readyAfterWake [b8 (Mode.code m)]
         (if m = .held then raiseNotice Notice.holdReached [] home else home)))

/-! ### The Line Link (chapter 1) -/

/-- The frame of every request is received as that request (R2, R3, R4, R6): with the receiver in HUNT, the bytes of
the frame do what the request does. -/
def Obligations.RequestFrameIsTheRequest : Prop :=
  ∀ (i : Instr) (kind tag : Byte) (body : List Byte) (s : State),
    requestOf i = some (kind, tag, body) → body.length ≤ 512 → s.link.rx = .hunt →
      ∃ t, exec (.frameReceived (encodeFrame kind tag body)) s = .next t ∧ exec i s = .next t

/-- A frame with a wrong check is discarded and LINK_GARBLED raised with cause check; the receiver is in HUNT and
nothing else changes (R6). -/
def Obligations.WrongCheckIsGarbled : Prop :=
  ∀ (kind tag : Byte) (body check : List Byte) (s : State),
    body.length ≤ 512 → check.length = 2 → check ≠ checkBytes (frameCovered kind tag body) → s.link.rx = .hunt →
      still s = true →
        exec (.frameReceived (startCode :: (frameCovered kind tag body ++ check))) s =
          .next (rest (raiseNotice Notice.linkGarbled [0] s))

/-- A kind with bit 7 set, or of no request, is answered BAD_KIND and changes nothing but the slot (R8).
A request whose body length is not one its kind accepts is answered BAD_LENGTH and changes nothing but the slot
(R9). -/
def Obligations.MalformedRequestsAreAnswered : Prop :=
  (∀ (kind tag : Byte) (body : List Byte) (s : State),
     (∀ i, requestOf i ≠ some (kind, tag, body)) → body.length ≤ 512 → s.link.rx = .hunt → s.link.slot = none →
       still s = true →
         exec (.frameReceived (encodeFrame kind tag body)) s = .next (rest (replied kind tag body [4] s))) ∧
  (∀ (i : Instr) (kind tag : Byte) (body : List Byte) (s : State),
     requestOf i = some (kind, tag, body) → lengthAccepted kind body.length = false → s.link.slot = none →
       still s = true → exec i s = .next (rest (replied kind tag body [5] s)))

/-- A request that completes while the slot is occupied is passed to no block: an OVERRUN answer is owed, or, with four
owed already, LINK_GARBLED is raised with cause overrun (R7). -/
def Obligations.OccupiedSlotRefuses : Prop :=
  ∀ (i : Instr) (kind tag : Byte) (body : List Byte) (x : Slot) (s : State),
    requestOf i = some (kind, tag, body) → s.link.slot = some x →
      (s.link.overrun.length < 4 → still s = true →
        exec i s = .next (rest (s.withLink
          { s.link with overrun := s.link.overrun ++ [{ kind := replyKind kind, tag := tag }] }))) ∧
      (4 ≤ s.link.overrun.length → still s = true →
        exec i s = .next (rest (raiseNotice Notice.linkGarbled [3] s)))

/-- Every request that finds the slot empty is answered at its completion, with a status of R11; one answered with a
status other than OK, ACCEPTED or CLAMPED leaves the state of the part as it was (R10). -/
def Obligations.RefusalsChangeNothing : Prop :=
  ∀ (i : Instr) (kind tag : Byte) (body : List Byte) (s : State),
    requestOf i = some (kind, tag, body) → s.link.slot = none →
      ∃ (status : Byte) (result : List Byte) (u : State),
        exec i s = .next (finish (replied kind tag body (status :: result) u)) ∧
          status.toNat ≤ 15 ∧ (2 < status.toNat → u = s)

/-- Bytes and times at the receiver (R4, R5): a start code begins a frame in HUNT, anything else is ignored there and in
RESYNC; the gap and the quiet time return it to HUNT.
A frame in ASSEMBLE that reveals damage is discarded, LINK_GARBLED raised with the cause, and the receiver in RESYNC
(R5). That FRAME_DAMAGED of cause length does so at any number of bytes is the model's choice (log entry 37), and so is that
a framing error at byte 2 counts as framing whatever the length (log entry 33). -/
def Obligations.ReceiverFollowsTheBytes : Prop :=
  (∀ (b : Byte) (ok : Bool) (bytes : List Byte) (s : State),
     (s.link.rx = .hunt → b = 0xC3 → ok = true →
       exec (.byteReceived b ok) s = .next (s.withLink { s.link with rx := .assemble [0xC3] })) ∧
     (s.link.rx = .hunt → ¬ (b = 0xC3 ∧ ok = true) → exec (.byteReceived b ok) s = .next s) ∧
     (s.link.rx = .resync → exec (.byteReceived b ok) s = .next s) ∧
     (s.link.rx = .assemble bytes → ok = true →
       (bytes.length < 2 ∨
         (frameLength (bytes ++ [b]) ≤ 512 ∧ bytes.length + 1 < frameLength (bytes ++ [b]) + 7)) →
       exec (.byteReceived b ok) s = .next (s.withLink { s.link with rx := .assemble (bytes ++ [b]) })) ∧
     (s.link.rx = .assemble bytes →
       exec .byteGapTimeout s = .next (s.withLink { s.link with rx := .hunt })) ∧
     (s.link.rx = .resync →
       exec .resyncQuietTimeout s = .next (s.withLink { s.link with rx := .hunt }))) ∧
  (∀ (b : Byte) (bytes : List Byte) (s : State), s.link.rx = .assemble bytes → still s = true →
     let resync := s.withLink { s.link with rx := .resync }
     exec (.byteReceived b false) s = .next (rest (raiseNotice Notice.linkGarbled [2] resync)) ∧
     exec (.frameDamaged .framing) s = .next (rest (raiseNotice Notice.linkGarbled [2] resync)) ∧
     exec (.frameDamaged .length) s = .next (rest (raiseNotice Notice.linkGarbled [1] resync)) ∧
     (bytes.length = 2 → 512 < frameLength (bytes ++ [b]) →
       exec (.byteReceived b true) s = .next (rest (raiseNotice Notice.linkGarbled [1] resync))))

/-- The last byte of a frame has been sent (R7, R15, R17): a reply frees the slot, an OVERRUN answer leaves the list, a
notice is marked sent unless it was withdrawn; the line then takes the next frame. -/
def Obligations.SentFrameIsSettled : Prop :=
  ∀ (bytes : List Byte) (n : Notice) (withdrawn : Bool) (s : State), still s = true →
    (s.link.tx = some { what := .reply, bytes := bytes } →
      exec .frameSent s = .next (rest (s.withLink { s.link with slot := none, tx := none }))) ∧
    (s.link.tx = some { what := .overrun, bytes := bytes } →
      exec .frameSent s = .next (rest (s.withLink
        { s.link with
          overrun := s.link.overrun.tail, tx := none
          slot := s.link.slot.map fun x => { x with ahead := x.ahead - 1 } }))) ∧
    (s.link.tx = some { what := .notice n withdrawn, bytes := bytes } →
      let free := s.withLink { s.link with tx := none }
      let sent := free.withNotices (setAt s.notices n { getAt s.notices n with sent := true })
      exec .frameSent s = .next (rest (if withdrawn then free else sent)))

/-- A free line with no owed reply begins the most urgent sendable notice: HIGH before LOW, then the lower number
(R15). Owed replies go first, the oldest before the rest: the reply in the slot once the OVERRUN answers appended before
its completion are gone, and otherwise the oldest OVERRUN answer; a line that is not free is left alone (R11, R15).
A raise of a notice that is clear sets its raised mark, clears its sent mark and captures the payload, whether it is
enabled or not; a raise of one that is raised changes nothing (R16). -/
def Obligations.MostUrgentNoticeIsSent : Prop :=
  (∀ (n : Notice) (s : State), s.link.tx = none → s.link.slot = none → s.link.overrun = [] →
    let sendable (m : Notice) : Prop :=
      (getAt s.notices m).raised = true ∧ (getAt s.notices m).enabled = true ∧ (getAt s.notices m).sent = false
    let urgent (m : Notice) : Prop := m.val = 0 ∨ m.val = 1 ∨ m.val = 4 ∨ m.val = 5
    sendable n →
    (∀ m, sendable m → m ≠ n → (urgent n ∧ ¬ urgent m) ∨ ((urgent n ↔ urgent m) ∧ n.val < m.val)) →
      linkKick s = s.withLink
        { s.link with
          tx := some
            { what := .notice n false
              bytes := encodeFrame 0xFE 0 (BitVec.ofNat 8 n.val :: (getAt s.notices n).payload) } }) ∧
  (∀ s : State,
    let begins (t : Tx) : Prop := linkKick s = s.withLink { s.link with tx := some t }
    (s.link.tx ≠ none → linkKick s = s) ∧
    (s.link.tx = none →
      (∀ x, s.link.slot = some x → x.ahead = 0 ∨ s.link.overrun = [] →
        begins { what := .reply, bytes := encodeFrame (x.kind ||| 0x80) x.tag x.reply }) ∧
      (∀ a more, s.link.overrun = a :: more → (∀ x, s.link.slot = some x → x.ahead ≠ 0) →
        begins { what := .overrun, bytes := encodeFrame a.kind a.tag [10] }))) ∧
  (∀ (n : Notice) (payload : List Byte) (s : State),
    let r := getAt s.notices n
    (r.raised = true → raiseNotice n payload s = s) ∧
    (r.raised = false → raiseNotice n payload s = s.withNotices (setAt s.notices n
      { raised := true, sent := false, enabled := r.enabled, payload := payload })))

/-! ### Requests that read (section 1.7) -/

/-- The detail kind and the detail of a fault record as they go out: none, board, tab, bay, nest, line from 0 (R14); the
byte 0xFF where there is no detail (log entry 9). -/
def detailBytes : Detail → List Byte
  | .none => [0, 0xFF]
  | .board b => [1, b8 b.val]
  | .tab t => [2, b8 t.val]
  | .bay x => [3, if x = .a then 0 else 1]
  | .nest n => [4, b8 n.val]
  | .line l => [5, b8 l.val]

/-- STATUS QUERY answers OK with the 104 bytes of the status record, and changes nothing but the slot (R22).
TABLE READ of entries inside a table answers OK with selector, first index, count and the entries, of 9, 4, 7, 7, 6,
8, 5 and 6 bytes each; nothing changes but the slot and, for a Slot Map, the count of free values used (R23).
The status record holds its fields in their order, an absent Panel Record or queue entry as 0xFF and zeros, an empty
snapshot as zeros (R22); an empty stack's top record as 0xFF and zeros is the model's reading (log entry 14). Each table
entry holds its index and its fields, absent ones as 0xFF (R24). A state goes as its position in its list (R14). -/
def Obligations.ReadsAreAnswered : Prop :=
  (∀ (tag : Byte) (s : State), s.link.slot = none → still s = true →
     exec (.statusQuery tag []) s = .next (rest (replied 0x01 tag [] (0 :: statusRecord s) s)) ∧
       (statusRecord s).length = 104) ∧
  (∀ (tag sel first count : Byte) (last size : Nat) (s : State), s.link.slot = none → still s = true →
     [(63, 9), (255, 4), (99, 7), (99, 7), (7, 6), (22, 8), (15, 5), (19, 6)][sel.toNat]? = some (last, size) →
     1 ≤ count.toNat → first.toNat + count.toNat ≤ last + 1 → count.toNat * size ≤ 508 →
       exec (.tableRead tag [sel, first, count]) s =
         .next (rest (replied 0x02 tag [sel, first, count]
           (0 :: sel :: first :: count :: tableBytes s sel.toNat first.toNat count.toNat)
           (if sel = 2 ∨ sel = 3 then s.withFree (s.free + 1) else s))) ∧
         (tableBytes s sel.toNat first.toNat count.toNat).length = count.toNat * size) ∧
  (∀ s : State,
     let mark (b : Bool) : Byte := if b then 1 else 0
     let opt (n : Option Nat) : Byte := match n with | some n => b8 n | none => 0xFF
     let record (r : Option PanelRec) : List Byte :=
       match r with
       | some r =>
         [b8 (PanelState.code r.state)] ++ le32 r.serial.toNat ++
           [b8 r.stacked, b8 r.chuted, b8 r.failed, b8 r.lost, b8 r.abandoned, b8 r.outstanding]
       | none => [0xFF, 0, 0, 0, 0, 0, 0, 0, 0, 0, 0]
     let entry (e : Option NestEntry) : List Byte :=
       match e with
       | some e =>
         [b8 e.nest.val, b8 e.board.val] ++ le32 e.serial.toNat ++
           [b8 (Disposition.code e.disposition), b8 (EntryState.code e.state)]
       | none => [0xFF, 0, 0, 0, 0, 0, 0, 0]
     let bay (r : BayRec) : List Byte :=
       [b8 (BayState.code r.state), opt (r.desc.map fun d => d.profile.val),
        (match r.desc with | some d => b8 d.filled | none => 0), opt (r.desc.bind fun d => d.next), mark r.retire]
     let probe : List Byte :=
       match s.probe.snapshot with
       | some x =>
         [1, b8 x.tab.val, b8 x.attempt, b8 x.ne, b8 x.hits, b8 x.misses, b8 x.sampled, b8 (Verdict.code x.verdict)]
       | none => [0, 0, 0, 0, 0, 0, 0, 0]
     let top : List Byte :=
       match s.faults.stack with
       | r :: _ => [b8 r.source.val, b8 r.level] ++ detailBytes r.detail ++ [b8 r.repeats]
       | [] => [0xFF, 0, 0, 0, 0]
     statusRecord s =
       [b8 (RecipeState.code s.recipe.state), b8 s.recipe.depth] ++
       [b8 (Mode.code s.cell.mode), opt (s.cell.ret.map Mode.code), mark s.cell.holdLatch] ++
       record s.seq.records[0]? ++ record s.seq.records[1]? ++ [opt ((front s).map fun b => b.val)] ++
       [b8 (RouterState.code s.router.state), b8 (SpindleState.code s.spindle.state)] ++ le32 s.spindle.rpm ++
       le16 s.spindle.setpoint ++ [b8 s.router.override] ++
       le32 s.router.wear ++ le32 s.router.life ++ le16 s.router.baseFeed ++ [b8 (BitState.code s.router.bit)] ++
       probe ++ [b8 (ProbeState.code s.probe.state), b8 (PickerState.code s.picker.state)] ++
       [opt (s.picker.board.map fun b => b.val)] ++
       [b8 s.nests.length] ++ entry s.nests[0]? ++ entry s.nests[1]? ++ entry s.nests[2]? ++
       [b8 (StackerState.code s.stacker.state)] ++ bay s.bays.a ++ bay s.bays.b ++
       [mark s.faults.allStop, mark s.faults.cutStop] ++ [b8 s.faults.stack.length] ++ top ++ [b8 s.faults.waiting.length]) ∧
  (∀ s : State,
     let mark (b : Bool) : Byte := if b then 1 else 0
     let opt (n : Option Nat) : Byte := match n with | some n => b8 n | none => 0xFF
     (∀ b : Fin 64, tableBytes s 0 b.val 1 =
        if Table.get s.recipe.boards b = none then [b8 b.val, 0, 0xFF, 0xFF, 0xFF, 0xFF, 0xFF, 0xFF, 0xFF]
        else match boardRun s b with
          | some r =>
            [b8 b.val, 1, b8 (BoardState.code r.state), b8 (Disposition.code r.disposition), b8 r.remaining, mark r.regrip,
             opt (r.nest.map fun n => n.val), opt (r.bay.map fun x => if x = .a then 0 else 1), opt r.slot]
          | none => [b8 b.val, 1, 0xFF, 0xFF, 0xFF, 0xFF, 0xFF, 0xFF, 0xFF]) ∧
     (∀ t : Fin 256, tableBytes s 1 t.val 1 =
        if Table.get s.recipe.tabs t = none then [b8 t.val, 0, 0xFF, 0xFF]
        else match tabRun s t with
          | some r => [b8 t.val, 1, b8 (TabState.code r.state), b8 r.attempts]
          | none => [b8 t.val, 1, 0xFF, 0xFF]) ∧
     (∀ (x : Bay) (n : Nat),
        let entry := tableBytes s (if x = .a then 2 else 3) n 1
        ((bayOf s x).desc = none → entry = [b8 n, 0xFF, 0xFF, 0xFF, 0xFF, 0xFF, 0xFF]) ∧
        ((bayOf s x).desc ≠ none →
          (∀ b serial, (bayOf s x).map[n]? = some (.filled b serial) → entry = [b8 n, 2, b8 b.val] ++ le32 serial.toNat) ∧
          ((bayOf s x).map[n]? = some .unused → entry = [b8 n, 0, 0xFF, 0, 0, 0, 0]) ∧
          ((bayOf s x).map[n]? = some .open_ → entry = [b8 n, 1, 0xFF, 0, 0, 0, 0]) ∧
          ((bayOf s x).map[n]? = some .blocked → entry = [b8 n, 3, 0xFF, 0, 0, 0, 0]))) ∧
     (∀ n : Nat, tableBytes s 4 n 1 =
        match s.faults.stack.reverse[n]? with
        | some r => [b8 n, b8 r.source.val, b8 r.level] ++ detailBytes r.detail ++ [b8 r.repeats]
        | none => [b8 n, 0xFF, 0, 0, 0, 0]) ∧
     (∀ src : Source,
        let setting := [b8 src.val, b8 (getAt s.faults.levels src), mark (src.val ≤ 1)]
        let record (place : Byte) (r : FaultRec) := [place, b8 r.level] ++ detailBytes r.detail ++ [b8 r.repeats]
        (∀ r, s.faults.waiting.find? (fun q => q.source = src) = some r → tableBytes s 5 src.val 1 = setting ++ record 1 r) ∧
        ((∀ q ∈ s.faults.waiting, q.source ≠ src) →
          (∀ r, s.faults.stack.find? (fun q => q.source = src) = some r → tableBytes s 5 src.val 1 = setting ++ record 2 r) ∧
          ((∀ q ∈ s.faults.stack, q.source ≠ src) →
            tableBytes s 5 src.val 1 = setting ++ [0, 0xFF, 0xFF, 0xFF, 0xFF]))) ∧
     (∀ n : Notice,
        let r := getAt s.notices n
        tableBytes s 6 n.val 1 = [b8 n.val, mark r.raised, mark r.sent, mark r.enabled,
          if n.val = 0 ∨ n.val = 1 ∨ n.val = 4 ∨ n.val = 5 then 0 else 1]) ∧
     (∀ l : Fin 16,
        let d := getAt s.lines.ded l
        tableBytes s 7 l.val 1 = [b8 l.val, b8 (Sense.code d.sense), 0xFF, b8 (SamplePeriod.code d.period),
          mark (d.filter.level = some true), 0xFF]) ∧
     (∀ n : Fin 4,
        let a := getAt s.lines.aux n
        tableBytes s 7 (16 + n.val) 1 = [b8 (16 + n.val), b8 (DetectMode.code a.mode), b8 (AuxRole.code a.role),
          b8 (SamplePeriod.code a.period), mark (a.filter.level = some true), mark (a.latch ≠ .clear)])) ∧
  (([RecipeState.empty, .editing, .closed].map RecipeState.code = List.range 3 ∧
    [Mode.unconfigured, .idle, .running, .holding, .held, .halted, .parked, .waking].map Mode.code = List.range 8 ∧
    [PanelState.cutting, .stacking, .complete].map PanelState.code = List.range 3 ∧
    [BoardState.skipped, .waiting, .precut, .ready, .held, .freed, .queued, .stacked, .chuted, .failed, .lost,
      .abandoned].map BoardState.code = List.range 12 ∧
    [TabState.uncut, .cutting, .verifyPending, .verifying, .recutPending, .severed, .faulted, .bypassed].map
      TabState.code = List.range 8) ∧
   ([Disposition.good, .scrap, .skip].map Disposition.code = List.range 3 ∧
    [RouterState.idle, .cut, .verify].map RouterState.code = List.range 3 ∧
    [SpindleState.stopped, .spinup, .atSpeed, .coasting].map SpindleState.code = List.range 4 ∧
    [BitState.unknown, .known, .expired].map BitState.code = List.range 3 ∧
    [Verdict.severed, .uncut].map Verdict.code = List.range 2 ∧
    [ProbeState.idle, .move, .settle, .check].map ProbeState.code = List.range 4) ∧
   ([PickerState.idle, .approach, .gripping, .holding, .carrying, .placing, .returning].map PickerState.code =
      List.range 7 ∧
    [EntryState.reserved, .occupied].map EntryState.code = List.range 2 ∧
    [BayState.absent, .present, .ready, .active, .complete].map BayState.code = List.range 5 ∧
    [StackerState.idle, .fetch, .checkSlot, .present, .push, .confirm, .divert, .waitBay].map StackerState.code =
      List.range 8) ∧
   ([Sense.activeHigh, .activeLow].map Sense.code = List.range 2 ∧
    [SamplePeriod.p01, .p05, .p20].map SamplePeriod.code = List.range 3 ∧
    [DetectMode.lowLevel, .highLevel, .rising, .falling, .both].map DetectMode.code = List.range 5 ∧
    [AuxRole.notice, .hold, .fault, .wake].map AuxRole.code = List.range 4))

/-! ### The Recipe Store (chapter 2) -/

/-- The bytes of a board record (R30). -/
def boardBytes (e : Fin 64 × BoardDef) : List Byte := b8 e.1.val :: le16 e.2.pickX ++ le16 e.2.pickY ++ [b8 e.2.height]

/-- A board record whose fields are in range (section 2.3). -/
def boardFits (e : Fin 64 × BoardDef) : Prop :=
  500 ≤ e.2.pickX ∧ e.2.pickX ≤ 59500 ∧ 500 ≤ e.2.pickY ∧ e.2.pickY ≤ 44500 ∧ e.2.height ≤ 3

/-- The codes of R14 for a tab record. -/
def tabCodes (d : TabDef) : Nat × Nat × Nat :=
  ((match d.dir with | .xPlus => 0 | .xMinus => 1 | .yPlus => 2 | .yMinus => 3),
   (match d.material with | .soft => 0 | .light => 1 | .standard => 2 | .hard => 3),
   (match d.role with | .release => 0 | .relief => 1 | .normal => 2))

/-- The bytes of a tab record (R32). -/
def tabBytes (e : Fin 256 × TabDef) : List Byte :=
  le16 e.1.val ++
    [b8 e.2.owner.val, match e.2.neighbour with | some b => b8 b.val | none => 0xFF] ++
    le16 e.2.x ++ le16 e.2.y ++ [b8 (tabCodes e.2).1] ++ le16 e.2.length ++
    [b8 (tabCodes e.2).2.1, b8 (tabCodes e.2).2.2]

/-- A tab record whose fields are in range (section 2.4). -/
def tabFits (e : Fin 256 × TabDef) : Prop :=
  500 ≤ e.2.x ∧ e.2.x ≤ 59500 ∧ 500 ≤ e.2.y ∧ e.2.y ≤ 44500 ∧ 100 ≤ e.2.length ∧ e.2.length ≤ 2000

/-- BOARD DEFINE in EDITING stores the records its body spells, in body order, and changes nothing else (R30, R31).
TAB DEFINE in EDITING stores the records its body spells, in body order, and changes nothing else (R32, R33). -/
def Obligations.DefinedRecordsAreStored : Prop :=
  (∀ (tag : Byte) (l : List (Fin 64 × BoardDef)) (s : State), s.link.slot = none → s.recipe.state = .editing →
     1 ≤ l.length → l.length ≤ 8 → (∀ e ∈ l, boardFits e) →
     let u := s.withRecipe { s.recipe with boards := l.foldl (fun t e => Table.put e.1 e.2 t) s.recipe.boards }
     still u = true →
       exec (.boardDefine tag (l.flatMap boardBytes)) s =
         .next (rest (replied 0x11 tag (l.flatMap boardBytes) [0] u))) ∧
  (∀ (tag : Byte) (l : List (Fin 256 × TabDef)) (s : State), s.link.slot = none → s.recipe.state = .editing →
     1 ≤ l.length → l.length ≤ 16 → (∀ e ∈ l, tabFits e) →
     let u := s.withRecipe { s.recipe with tabs := l.foldl (fun t e => Table.put e.1 e.2 t) s.recipe.tabs }
     still u = true →
       exec (.tabDefine tag (l.flatMap tabBytes)) s =
         .next (rest (replied 0x12 tag (l.flatMap tabBytes) [0] u)))

/-- RECIPE BEGIN without a CUTTING record empties the tables and the runtime records, keeps K and the profiles, and takes
the cell out of its configured state (R28, R29). An operation that still runs becomes an earlier panel's (log entry 10). -/
def Obligations.RecipeBeginEmpties : Prop :=
  ∀ (tag : Byte) (s : State), s.link.slot = none → cuttingRecord s = none →
    let cell : Cell :=
      match s.cell.mode with
      | .unconfigured | .idle => { s.cell with mode := .unconfigured, ret := none, idleTimer := none }
      | .halted | .parked | .waking => { s.cell with ret := some .unconfigured }
      | .running | .holding | .held => s.cell
    let u := (orphanOperation ((s.withRecipe
        { state := .editing, boards := [], tabs := [], lists := [], depth := s.recipe.depth
          profiles := s.recipe.profiles }).withSeq
        { s.seq with runOf := none, boards := [], tabs := [], order := [] })).withCell cell
    still u = true → exec (.recipeBegin tag []) s = .next (rest (replied 0x10 tag [] [0] u))

/-- A tab that offends close check 1, 2, 3 or 6 (R35, R36): a board of it undefined, its neighbour its owner, a shared tab
of role RELEASE, its end point out of range. -/
def tabOffends (r : Recipe) (check : Nat) (d : TabDef) : Prop :=
  match check with
  | 1 => Table.get r.boards d.owner = none ∨ ∃ b, d.neighbour = some b ∧ Table.get r.boards b = none
  | 2 => d.neighbour = some d.owner
  | 3 => d.neighbour ≠ none ∧ d.role = .release
  | 6 =>
    let x : Int := match d.dir with | .xPlus => d.x + d.length | .xMinus => d.x - d.length | .yPlus | .yMinus => d.x
    let y : Int := match d.dir with | .yPlus => d.y + d.length | .yMinus => d.y - d.length | .xPlus | .xMinus => d.y
    ¬ (500 ≤ x ∧ x ≤ 59500 ∧ 500 ≤ y ∧ y ≤ 44500)
  | _ => False

/-- A board that offends close check 4 or 5 (R35, R36): not the owner of exactly one RELEASE tab, that one a frame tab;
touched more than 12 times as owner and as neighbour. -/
def boardOffends (r : Recipe) (check : Nat) (b : Fin 64) : Prop :=
  match check with
  | 4 =>
    (r.tabs.filter fun e => e.2.owner = b ∧ e.2.role = .release).length ≠ 1 ∨
      ∃ e ∈ r.tabs, e.2.owner = b ∧ e.2.role = .release ∧ e.2.neighbour ≠ none
  | 5 => 12 < (r.tabs.filter fun e => e.2.owner = b).length + (r.tabs.filter fun e => e.2.neighbour = some b).length
  | _ => False

/-- RECIPE CLOSE of a recipe that passes every close check stores K and the board tab lists, moves an UNCONFIGURED cell
to IDLE (and on to HALTED under a halt latch, R57), and counts boards and tabs in its reply (R35, R37).
One that fails a check is answered BAD_RECIPE with the check's code and index, and changes nothing but the slot (R35).
Of a recipe whose tables stand in ascending index, the check that fails is the first of the seven that some board or tab
offends, with the lowest index that offends it, or 0xFF where no board is defined; where none is offended every check
passes (R35, R36).
Where every check passes, each defined board and no other has a list: its release tab, and the tabs that touch it in
ascending index, at most 12 (R37). -/
def Obligations.RecipeCloseConfigures : Prop :=
  (∀ (tag k : Byte) (s : State), s.link.slot = none → s.recipe.state = .editing → k.toNat ≤ 3 →
    closeFail s.recipe = none →
    let cell : Cell :=
      match s.cell.mode with
      | .unconfigured =>
        if latched s.faults then { s.cell with mode := .halted, ret := some .idle, idleTimer := none }
        else { s.cell with mode := .idle, ret := none }
      | .halted | .parked | .waking =>
        if s.cell.ret = some .unconfigured then { s.cell with ret := some .idle } else s.cell
      | .idle | .running | .holding | .held => s.cell
    let u := (s.withRecipe
      { s.recipe with state := .closed, depth := k.toNat, lists := buildLists s.recipe }).withCell cell
    still u = true →
      exec (.recipeClose tag [k]) s =
        .next (rest (replied 0x13 tag [k]
          (0 :: b8 s.recipe.boards.length :: le16 s.recipe.tabs.length) u))) ∧
  (∀ (tag k : Byte) (f : CloseFail) (s : State), s.link.slot = none → s.recipe.state = .editing → k.toNat ≤ 3 →
    closeFail s.recipe = some f → still s = true →
      exec (.recipeClose tag [k]) s = .next (rest (replied 0x13 tag [k] [7, f.code, f.index] s))) ∧
  (∀ r : Recipe, Table.wf r.boards = true → Table.wf r.tabs = true →
    let holds (c : Nat) : Prop :=
      (∀ t d, Table.get r.tabs t = some d → ¬ tabOffends r c d) ∧
      (∀ b, (Table.get r.boards b).isSome = true → ¬ boardOffends r c b)
    (r.boards = [] → closeFail r = some { code := 0, index := 0xFF }) ∧
    (r.boards ≠ [] → (∀ c, holds c) → closeFail r = none) ∧
    (∀ c t d, r.boards ≠ [] → (∀ c', c' < c → holds c') → Table.get r.tabs t = some d → tabOffends r c d →
      (∀ t' d', Table.get r.tabs t' = some d' → tabOffends r c d' → t ≤ t') →
        closeFail r = some { code := b8 c, index := b8 t.val }) ∧
    (∀ c b, r.boards ≠ [] → (∀ c', c' < c → holds c') → (Table.get r.boards b).isSome = true → boardOffends r c b →
      (∀ b', (Table.get r.boards b').isSome = true → boardOffends r c b' → b ≤ b') →
        closeFail r = some { code := b8 c, index := b8 b.val }) ∧
    (closeFail r = none → ∀ b,
      (Table.get r.boards b = none → Table.get (buildLists r) b = none) ∧
      ((Table.get r.boards b).isSome = true → ∃ l, Table.get (buildLists r) b = some l ∧
        (∃ d, Table.get r.tabs l.release = some d ∧ d.owner = b ∧ d.role = .release) ∧
        (∀ t, t ∈ l.tabs ↔ ∃ d, Table.get r.tabs t = some d ∧ (d.owner = b ∨ d.neighbour = some b)) ∧
        l.tabs.Pairwise (· < ·) ∧ l.tabs.length ≤ 12)))

/-- PROFILE DEFINE of a profile no READY or ACTIVE bay uses, whose fields and highest slot are in range, stores it and
answers its visit count and top height (R40 to R42). -/
def Obligations.ProfileDefineStores : Prop :=
  ∀ (tag : Byte) (i : Fin 4) (p : Profile) (s : State), s.link.slot = none →
    (∀ x, ((bayOf s x).state = .ready ∨ (bayOf s x).state = .active) →
      ∀ d, (bayOf s x).desc = some d → d.profile ≠ i) →
    1 ≤ p.slots → p.slots ≤ 100 → 100 ≤ p.pitch → p.pitch ≤ 5000 → (p.step = 1 ∨ p.step = 2) →
    1 ≤ p.limit → p.limit ≤ p.slots → p.base + (p.slots - 1) * p.pitch ≤ 80000 →
    let body := [b8 i.val, b8 p.slots] ++ le16 p.pitch ++ le32 p.base ++
      [if p.dir = .bottomUp then 0 else 1, b8 p.step, b8 p.limit]
    let u := s.withRecipe { s.recipe with profiles := Table.put i p s.recipe.profiles }
    still u = true →
      exec (.profileDefine tag body) s =
        .next (rest (replied 0x14 tag body
          (0 :: b8 ((p.slots + p.step - 1) / p.step) :: le32 (p.base + (p.slots - 1) * p.pitch)) u))

/-! ### Cell modes and panel runs (chapter 3) -/

/-- The bytes of a mark list (R47). -/
def markBytes (l : List (Fin 64 × Disposition)) : List Byte :=
  l.flatMap fun e => [b8 e.1.val, if e.2 = .scrap then 1 else 2]

/-- PANEL START that passes R47, with a board to singulate and no HOLD latch, builds the runtime records, appends the
Panel Record, starts the spindle and runs the cell; it answers the counts of singulated boards and needed tabs (R47, R48,
R66, R67). An operation that still runs becomes an earlier panel's (orphanOperation: the model's choice, log entry 10).
A panel whose boards are all marked SKIP, and a HOLD latch that is set, are left out. -/
def Obligations.PanelStartBuildsTheRun : Prop :=
  ∀ (tag : Byte) (serial : Serial) (dx dy : Int) (marks : List (Fin 64 × Disposition)) (s : State),
    s.link.slot = none → s.cell.mode = .idle → latched s.faults = false → s.router.bit ≠ .unknown →
    s.seq.records.length < 2 → (∀ r ∈ s.seq.records, r.serial ≠ serial) →
    (∀ r ∈ s.seq.records, r.state = .stacking ∧ r.outstanding ≠ 0) →
    -500 ≤ dx → dx ≤ 500 → -500 ≤ dy → dy ≤ 500 →
    (marks.map Prod.fst).Nodup → (∀ e ∈ marks, (Table.get s.recipe.boards e.1).isSome ∧ e.2 ≠ .good) →
    (∀ n, (getAt s.lines.aux n).role = .hold → (getAt s.lines.aux n).latch = .clear) →
    let skipped (b : Fin 64) : Bool := decide ((b, Disposition.skip) ∈ marks)
    (∃ e ∈ s.recipe.boards, skipped e.1 = false) →
    let body := le32 serial.toNat ++ le16 (BitVec.ofInt 16 dx).toNat ++ le16 (BitVec.ofInt 16 dy).toNat ++ markBytes marks
    let boards : Table 64 BoardRun := s.recipe.boards.map fun e =>
      let d := dispositionOf marks e.1
      let n := if d = .skip then 0 else (nonRelease s e.1).length
      (e.1, { state := if d = .skip then .skipped else if n = 0 then .ready else .waiting
              disposition := d, remaining := n, regrip := false, nest := none, bay := none, slot := none })
    let live (b : Fin 64) : Bool := (Table.get s.recipe.boards b).isSome && !skipped b
    let needed (t : Fin 256) : Bool :=
      (Table.get s.recipe.tabs t).any fun d => live d.owner || d.neighbour.any live
    let tabs : Table 256 TabRun := s.recipe.tabs.map fun e =>
      (e.1, { state := if needed e.1 then .uncut else .bypassed, attempts := 0 })
    let order := (s.recipe.boards.map Prod.fst).filter fun b => !skipped b
    let record : PanelRec :=
      { serial := serial, dx := dx, dy := dy, marks := marks, state := .cutting, stop := false, stacked := 0
        chuted := 0, failed := 0, lost := 0, abandoned := 0, outstanding := 0 }
    let built := orphanOperation ((clearNotice Notice.panelCutDone s).withSeq
      { records := s.seq.records ++ [record], runOf := some serial, boards := boards, tabs := tabs, order := order })
    let u := (startSpindle built).withCell { s.cell with mode := .running, idleTimer := none }
    still u = true →
      exec (.panelStart tag body) s =
        .next (rest (replied 0x20 tag body
          (1 :: b8 order.length ::
            le16 (s.recipe.tabs.filter fun e => needed e.1).length) u))

/-- HOLD AT BOUNDARY: taken in RUNNING and in HALTED that returns to RUNNING, without effect where the hold is already
taken, refused WRONG_MODE elsewhere (R54).
RESUME: withdraws a hold in HOLDING and HELD; in HALTED it is refused FAULTS_OPEN while a record of level 0 to 4
stands, and otherwise clears the latches, starts a spindle the halt had stopped, and enters the return mode (R56, R59,
R182). -/
def Obligations.HoldAndResume : Prop :=
  (∀ (tag : Byte) (s : State), s.link.slot = none →
     let hold (c : Cell) := s.withCell { c with holdLatch := true }
     (s.cell.mode = .running → latched s.faults = false → still (hold { s.cell with mode := .holding }) = true →
       exec (.holdAtBoundary tag []) s =
         .next (rest (replied 0x21 tag [] [0] (hold { s.cell with mode := .holding })))) ∧
     (s.cell.mode = .halted → s.cell.ret = some .running → still (hold { s.cell with ret := some .holding }) = true →
       exec (.holdAtBoundary tag []) s =
         .next (rest (replied 0x21 tag [] [0] (hold { s.cell with ret := some .holding })))) ∧
     ((s.cell.mode = .holding ∨ s.cell.mode = .held ∨
         s.cell.mode = .halted ∧ (s.cell.ret = some .holding ∨ s.cell.ret = some .held)) → still s = true →
       exec (.holdAtBoundary tag []) s = .next (rest (replied 0x21 tag [] [0] s))) ∧
     ((s.cell.mode = .idle ∨ s.cell.mode = .unconfigured ∨ s.cell.mode = .parked ∨ s.cell.mode = .waking ∨
         s.cell.mode = .halted ∧ (s.cell.ret = none ∨ s.cell.ret = some .idle ∨ s.cell.ret = some .unconfigured)) →
       still s = true → exec (.holdAtBoundary tag []) s = .next (rest (replied 0x21 tag [] [3] s)))) ∧
  (∀ (tag : Byte) (m : Mode) (s : State), s.link.slot = none →
     ((s.cell.mode = .holding ∨ s.cell.mode = .held) → latched s.faults = false →
       let u := (clearNotice Notice.holdReached s).withCell { s.cell with mode := .running, holdLatch := false }
       still u = true → exec (.resume tag []) s = .next (rest (replied 0x22 tag [] [0] u))) ∧
     (s.cell.mode = .halted → (∃ r ∈ s.faults.waiting ++ s.faults.stack, r.level ≤ 4) → still s = true →
       exec (.resume tag []) s = .next (rest (replied 0x22 tag [] [15] s))) ∧
     (s.cell.mode = .halted → s.cell.ret = some m → (∀ r ∈ s.faults.waiting ++ s.faults.stack, 4 < r.level) →
       let open_ := clearNotice Notice.holdReached
         (s.withFaults { s.faults with allStop := false, cutStop := false })
       let spun := if s.cell.restart then startSpindle open_ else open_
       let home := spun.withCell { s.cell with mode := m, ret := none, restart := false }
       let u := if m = .held then raiseNotice Notice.holdReached [] home else home
       still u = true → exec (.resume tag []) s = .next (rest (replied 0x22 tag [] [0] u))) ∧
     ((s.cell.mode = .running ∨ s.cell.mode = .idle ∨ s.cell.mode = .unconfigured ∨ s.cell.mode = .parked ∨
         s.cell.mode = .waking) → still s = true →
       exec (.resume tag []) s = .next (rest (replied 0x22 tag [] [3] s))))

/-- PANEL STOP on a CUTTING record not yet stopped abandons every board in WAITING, PRECUT and READY, and every HELD board
whose release tab is not CUTTING or VERIFYING; the other boards stay. An abandoned HELD board is let go: vacuum off, no
blow-off, HOME presented, its reservation released; a picker without an abandoned board is left alone. Each abandoned board
adds one to the tally. The tabs in UNCUT, RECUT_PENDING and VERIFY_PENDING that have no live board left become BYPASSED. The
record is marked, tested for leaving CUTTING and for COMPLETE, the hold latch cleared, and the cell moved as R56 gives. A
stopped record is left alone (R50 to R53, R56). -/
def Obligations.PanelStopAbandons : Prop :=
  ∀ (tag : Byte) (r : PanelRec) (s : State), s.link.slot = none → cuttingRecord s = some r →
    (s.cell.mode = .running ∨ s.cell.mode = .holding ∨ s.cell.mode = .held ∨ s.cell.mode = .halted) →
    let released (b : Fin 64) : Prop :=
      ∃ t, releaseTab s b = some t ∧ (tabState s t = some .cutting ∨ tabState s t = some .verifying)
    let remains (u : State) : Bool := u.seq.boards.any fun e =>
      decide (e.2.state = .waiting ∨ e.2.state = .precut ∨ e.2.state = .ready ∨ e.2.state = .held ∨ e.2.state = .freed)
    (r.stop = true → still s = true → exec (.panelStop tag []) s = .next (rest (replied 0x23 tag [] [1] s))) ∧
    (r.stop = false → still (stopPanel s) = true →
      ∃ u, exec (.panelStop tag []) s = .next (rest (replied 0x23 tag [] [1] u)) ∧
        u.cell.holdLatch = false ∧ (∀ q ∈ u.seq.records, q.state = .cutting → q.stop = true) ∧
        (∀ b run, boardRun s b = some run →
          (run.state = .waiting ∨ run.state = .precut ∨ run.state = .ready → boardState u b = some .abandoned) ∧
          (run.state = .held → ¬ released b → boardState u b = some .abandoned) ∧
          (run.state = .held → released b → boardRun u b = some run) ∧
          (run.state ≠ .waiting → run.state ≠ .precut → run.state ≠ .ready → run.state ≠ .held →
            boardRun u b = some run)) ∧
        (∀ b run, s.picker.board = some b → boardRun s b = some run → run.state = .held → ¬ released b →
          s.picker.state = .holding →
            u.picker.state = .returning ∧ u.picker.board = none ∧
            u.outputs = { s.outputs with vacuumOn := false } ∧
            (s.faults.allStop = false → u.ports = { s.ports with picker := strobed .home s.ports.picker }) ∧
            (∀ e, e ∈ u.nests ↔ e ∈ s.nests ∧ ¬ (e.board = b ∧ e.state = .reserved))) ∧
        ((∀ b, s.picker.board = some b → boardState u b ≠ some .abandoned) →
          u.picker = s.picker ∧ u.nests = s.nests ∧ u.outputs = s.outputs ∧ u.ports = s.ports) ∧
        (∀ t run, tabRun s t = some run →
          let left : Prop := tabNeeded u t = false ∧
            (run.state = .uncut ∨ run.state = .recutPending ∨ run.state = .verifyPending)
          (left → tabRun u t = some { run with state := .bypassed }) ∧ (¬ left → tabRun u t = some run)) ∧
        ((s.seq.boards.map Prod.fst).Nodup →
          (u.seq.boards.map Prod.fst = s.seq.boards.map Prod.fst) ∧
          let n := (s.seq.boards.filter fun e => e.2.state ≠ .abandoned ∧ boardState u e.1 = some .abandoned).length
          let after : PanelState := if remains u then .cutting else .stacking
          u.seq.records = (s.seq.records.map fun q =>
            if q.state = .cutting then { q with stop := true, abandoned := q.abandoned + n, state := after } else q).filter
              fun q => !decide (q.state = .stacking ∧ q.outstanding = 0)) ∧
        (s.cell.mode = .halted ∨ latched s.faults = false →
          (remains u →
            u.cell.mode = (if s.cell.mode = .halted then .halted else .running) ∧
            u.cell.ret = (if s.cell.mode = .halted ∧ (s.cell.ret = some .holding ∨ s.cell.ret = some .held) then
              some .running else s.cell.ret)) ∧
          (¬ remains u →
            u.cell.mode = (if s.cell.mode = .halted then .halted else .idle) ∧
            u.cell.ret = (if s.cell.mode = .halted then some .idle else s.cell.ret))) ∧
        u.recipe = s.recipe ∧ u.router = s.router ∧ u.spindle = s.spindle ∧ u.probe = s.probe ∧
        u.stacker = s.stacker ∧ u.bays = s.bays ∧ u.lines = s.lines ∧ u.faults = s.faults ∧ u.link = s.link)

/-- PARK in IDLE and HELD: the return mode remembered, the spindle turned off, and PARKED raised at once where it is
already STOPPED (R60); refused WRONG_MODE elsewhere.
The idle-park timer at its time parks an IDLE cell; nothing is answered (R61).
WAKE in PARKED without an enabled WAKE latch: PARKED is cleared, and the halt latches decide between WAKING with
the spindle started, HALTED with it started, and HALTED with the restart mark (R62). -/
def Obligations.ParkAndWake : Prop :=
  (∀ (tag : Byte) (s : State), s.link.slot = none →
     ((s.cell.mode = .idle ∨ s.cell.mode = .held) →
       let off := stopSpindle (s.withCell { s.cell with mode := .parked, ret := some s.cell.mode, idleTimer := none })
       let u := if s.spindle.state = .stopped then
           raiseNotice Notice.parked [if s.cell.mode = .idle then 1 else 4] off else off
       still u = true → exec (.park tag []) s = .next (rest (replied 0x24 tag [] [1] u))) ∧
     (s.cell.mode ≠ .idle → s.cell.mode ≠ .held → still s = true →
       exec (.park tag []) s = .next (rest (replied 0x24 tag [] [3] s)))) ∧
  (∀ (minutes : Nat) (s : State), s.cell.mode = .idle → s.cell.idleTimer = some minutes →
     let off := stopSpindle (s.withCell { s.cell with mode := .parked, ret := some .idle, idleTimer := none })
     let u := if s.spindle.state = .stopped then raiseNotice Notice.parked [1] off else off
     still u = true → exec .idleParkTimeout s = .next (rest u)) ∧
  (∀ (tag : Byte) (s : State), s.link.slot = none →
     (s.cell.mode = .parked →
       (∀ n, (getAt s.lines.aux n).role = .wake → (getAt s.lines.aux n).latch = .clear) →
       let clear := clearNotice Notice.parked s
       let u :=
         if s.faults.allStop then clear.withCell { s.cell with mode := .halted, restart := true }
         else if s.faults.cutStop then startSpindle (clear.withCell { s.cell with mode := .halted })
         else startSpindle (clear.withCell { s.cell with mode := .waking })
       still u = true → exec (.wake tag []) s = .next (rest (replied 0x25 tag [] [1] u))) ∧
     (s.cell.mode ≠ .parked → still s = true → exec (.wake tag []) s = .next (rest (replied 0x25 tag [] [3] s))))

/-- A line input that has settled: the input that a restart of the filter will find present, read through the sense, is
the filtered level. -/
def lineSteady (d : DedLine) : Prop := ∃ v, d.pin = some v ∧ d.filter.level = some (throughSense d.sense v)

/-- CELL RESET with every line settled and no condition standing: the runs, the fault sets, the units, the outputs and
the orders are gone, the recipe and the settings stay, and the cell is IDLE or UNCONFIGURED; a presented cut adds half its
wear, and a BIT_WEAR_WARN of that stays raised (R26, R64, R101, R102, R113, R127, R142, R163, R174, R184). The inputs that
the restarts find are supplied (log entry 5); that no FAULT_TAKEN of a BIT_EXPIRED of that wear stands is the model's choice
(log entry 35). -/
def Obligations.CellResetClears : Prop :=
  ∀ (tag : Byte) (s : State), s.link.slot = none → (∀ l, lineSteady (getAt s.lines.ded l)) →
    (∀ n, (getAt s.lines.aux n).pin.isSome) →
    s.lines.stop.level = some false → asserted s 4 = false → asserted s 15 = true → still (resetAll s) = true →
      ∃ u, exec (.cellReset tag []) s = .next (rest (replied 0x03 tag [] [0] u)) ∧
        u.seq = { records := [], runOf := none, boards := [], tabs := [], order := [] } ∧
        u.faults = { levels := s.faults.levels, waiting := [], stack := [], allStop := false, cutStop := false } ∧
        u.cell =
          { mode := if s.recipe.state = .closed then .idle else .unconfigured
            ret := none, holdLatch := false, restart := false, idleTimer := none } ∧
        u.outputs =
          { spindleRun := false, speedRef := 0, vacuumOn := false, blowOff := false, push := false, chuteGate := false } ∧
        u.ports.router.inFlight = false ∧ u.ports.picker.inFlight = false ∧
        u.ports.transfer.inFlight = false ∧ u.ports.elevator.inFlight = false ∧
        u.router.state = .idle ∧ u.router.clearance = true ∧ u.router.life = s.router.life ∧
        u.router.override = s.router.override ∧ u.probe.state = .idle ∧ u.probe.snapshot = none ∧
        u.probe.settings = s.probe.settings ∧ u.picker.state = .idle ∧ u.picker.gripTime = s.picker.gripTime ∧
        u.picker.blowTime = s.picker.blowTime ∧ u.nests = [] ∧ u.stacker.state = .idle ∧ u.stacker.hand = none ∧
        u.recipe = s.recipe ∧ u.spindle.setpoint = s.spindle.setpoint ∧ u.spindle.setTime = s.spindle.setTime ∧
        u.spindle.parkTime = s.spindle.parkTime ∧
        (∀ n, n ≠ Notice.bitWearWarn → getAt u.notices n =
          { raised := false, sent := false, enabled := (getAt s.notices n).enabled, payload := [] } ∨
          ∃ x, n = bayCompleteNotice x) ∧
        (let warn (on : Bool) (payload : List Byte) : Prop := getAt u.notices Notice.bitWearWarn =
           { raised := on, sent := false, enabled := (getAt s.notices Notice.bitWearWarn).enabled, payload := payload }
         (∀ op, s.router.state = .cut → s.router.operation = some op → s.router.presented = true →
           let wear := min 16777215 (s.router.wear + (cutWear op.record + 1) / 2)
           u.router.wear = wear ∧
             (if s.router.wear ≤ s.router.life / 2 ∧ s.router.life / 2 < wear then
               warn true (le32 wear ++ le32 s.router.life) else warn false [])) ∧
         (s.router.state ≠ .cut ∨ s.router.operation = none ∨ s.router.presented = false →
           u.router.wear = s.router.wear ∧ warn false [])) ∧
        (∀ x, (bayOf u x).state ≠ .active ∧ (bayOf u x).retire = false)

/-! ### Settings of the units (R13, R97, R98, R107, R108, R114, R132) -/

/-- OK, or CLAMPED if a value was changed by the clamp (R13). -/
def clampByte (changed : Prop) [Decidable changed] : Byte := if changed then 2 else 0

/-- FEED OVERRIDE, SPINDLE TIMING, PICKER TIMING and PROBE SETTINGS store each value raised or lowered to its range,
answer the values as stored, and change nothing else (R13, R98, R108, R114, R132). -/
def Obligations.SettingsAreClamped : Prop :=
  ∀ (tag a b c d : Byte) (s : State), s.link.slot = none → still s = true →
    let clamp (lo hi : Nat) (v : Nat) : Nat := max lo (min hi v)
    (let x := clamp 25 150 a.toNat
     exec (.feedOverride tag [a]) s =
       .next (rest (replied 0x32 tag [a] [clampByte (x ≠ a.toNat), b8 x]
         (s.withRouter { s.router with override := x })))) ∧
    (let x := clamp 5 80 a.toNat
     let y := clamp 0 60 b.toNat
     exec (.spindleTiming tag [a, b]) s =
       .next (rest (replied 0x34 tag [a, b] [clampByte (x ≠ a.toNat ∨ y ≠ b.toNat), b8 x, b8 y]
         (s.withSpindle { s.spindle with setTime := x, parkTime := y })))) ∧
    (let v := a.toNat + 256 * b.toNat
     let x := clamp 50 1000 v
     let y := clamp 10 200 c.toNat
     exec (.pickerTiming tag [a, b, c]) s =
       .next (rest (replied 0x35 tag [a, b, c] ([clampByte (x ≠ v ∨ y ≠ c.toNat)] ++ le16 x ++ [b8 y])
         (s.withPicker { s.picker with gripTime := x, blowTime := y })))) ∧
    (∀ m : ProbeMode, a = (match m with | .off => 0 | .full => 1 | .early => 2) →
      let x := clamp 1 32 b.toNat
      let y := clamp 0 3 c.toNat
      let z := clamp 1 20 d.toNat
      exec (.probeSettings tag [a, b, c, d]) s =
        .next (rest (replied 0x33 tag [a, b, c, d]
          [clampByte (x ≠ b.toNat ∨ y ≠ c.toNat ∨ z ≠ d.toNat), a, b8 x, b8 y, b8 z]
          (s.withProbe { s.probe with settings := { mode := m, points := x, allowance := y, settle := z } })))) ∧
    (2 < a.toNat →
      exec (.probeSettings tag [a, b, c, d]) s = .next (rest (replied 0x33 tag [a, b, c, d] [6, 0, 0] s)))

/-- SPINDLE SPEED stores the clamped speed; a running spindle whose speed it changes spins up again with 0.5 s (R13,
R107).
BIT SET with the router IDLE stores life, wear and base feed, makes the bit KNOWN, and answers the half point and
the effective feed of a first attempt (R97); it is refused WRONG_MODE otherwise. -/
def Obligations.BitAndSpeedAreSet : Prop :=
  (∀ (tag a b : Byte) (s : State), s.link.slot = none →
     let v := a.toNat + 256 * b.toNat
     let x := max 20000 (min 60000 v)
     let spins : Prop :=
       (s.spindle.state = .spinup ∨ s.spindle.state = .atSpeed) ∧ x ≠ s.spindle.setpoint
     let reply : List Byte := clampByte (x ≠ v) :: le16 x
     (¬ spins →
       let u := s.withSpindle { s.spindle with setpoint := x }
       still u = true → exec (.spindleSpeed tag [a, b]) s = .next (rest (replied 0x31 tag [a, b] reply u))) ∧
     (spins →
       let u := (s.withSpindle
         { s.spindle with
           setpoint := x, state := .spinup, stabilise := some 500, deadline := some 5500, watch := .delay
           qualify := 0, edgeCounts := false }).withOutputs { s.outputs with spindleRun := true, speedRef := x }
       still u = true → exec (.spindleSpeed tag [a, b]) s = .next (rest (replied 0x31 tag [a, b] reply u)))) ∧
  (∀ (tag : Byte) (life wear feed : Nat) (s : State), s.link.slot = none →
     10000 ≤ life → life ≤ 8000000 → wear < life → 50 ≤ feed → feed ≤ 600 →
     let body := le32 life ++ le32 wear ++ le16 feed
     (s.router.state = .idle →
       let u := s.withRouter { s.router with life := life, wear := wear, baseFeed := feed, bit := .known }
       still u = true →
         exec (.bitSet tag body) s =
           .next (rest (replied 0x30 tag body
             (0 :: (le32 (life / 2) ++ le16 (effectiveFeed life wear feed s.router.override 1))) u))) ∧
     (s.router.state ≠ .idle → still s = true →
       exec (.bitSet tag body) s = .next (rest (replied 0x30 tag body [3] s))))

/-- BAY LOAD of a PRESENT or READY bay against a defined profile makes it READY with a fresh descriptor and map, clears
the bay's two notices, and answers the visit count and the first slot (R20, R150).
BAY RETIRE: a READY bay, or an ACTIVE one without a push, becomes COMPLETE with its filled count reported; where it is the
target bay of the board in hand, the board loses it and an ELEVATE in flight is stopped, before the reactions of the moment
(finish) choose again (R151, R160; that a held-back ELEVATE is dropped and a held-back TO_MOUTH kept is log entry 22); with a
push in progress the retire-pending mark is set; a bay without a descriptor in use is refused WRONG_MODE (R151). -/
def Obligations.BayLoadAndRetire : Prop :=
  (∀ (tag : Byte) (x : Bay) (i : Fin 4) (p : Profile) (s : State), s.link.slot = none →
     ((bayOf s x).state = .present ∨ (bayOf s x).state = .ready) → Table.get s.recipe.profiles i = some p →
     let body : List Byte := [if x = .a then 0 else 1, b8 i.val]
     let visits := (p.slots + p.step - 1) / p.step
     let onPath (n : Nat) : Prop :=
       match p.dir with
       | .bottomUp => ∃ k, k < visits ∧ n = k * p.step
       | .topDown => ∃ k, k < visits ∧ n = p.slots - 1 - k * p.step
     let first := if visits = 0 then none else some (if p.dir = .bottomUp then 0 else p.slots - 1)
     still (bayLoad body s).1 = true →
       ∃ (map : List SlotState) (u : State),
         u = clearNotice (bayChangedNotice x) (clearNotice (bayCompleteNotice x) (setBay x
           { state := .ready, map := map, retire := false
             desc := some { profile := i, values := p, visit := 0, next := first, filled := 0 } } s)) ∧
         exec (.bayLoad tag body) s =
           .next (rest (replied 0x40 tag body [0, b8 visits, match first with | some n => b8 n | none => 0xFF] u)) ∧
         map.length = p.slots ∧
         (∀ n, n < p.slots → (onPath n → map[n]? = some .open_) ∧ (¬ onPath n → map[n]? = some .unused))) ∧
  (∀ (tag : Byte) (x : Bay) (d : FillDesc) (s : State), s.link.slot = none →
     let body : List Byte := [if x = .a then 0 else 1]
     let r := bayOf s x
     let complete := raiseNotice (bayCompleteNotice x) [b8 d.filled]
       (setBay x { r with state := .complete, retire := false } s)
     (r.state = .ready → r.desc = some d → still complete = true →
       exec (.bayRetire tag body) s = .next (rest (replied 0x41 tag body [0] complete))) ∧
     (r.state = .active → r.desc = some d → s.stacker.target ≠ some x → still complete = true →
       exec (.bayRetire tag body) s = .next (rest (replied 0x41 tag body [0] complete))) ∧
     (r.state = .active → r.desc = some d → s.stacker.target = some x →
       (s.stacker.state = .fetch ∨ s.stacker.state = .checkSlot ∨ s.stacker.state = .present) →
       let elevator := s.ports.elevator
       let u := (complete.withPorts
         { s.ports with elevator := if elevator.inFlight then stopped elevator else elevator }).withStacker
         { s.stacker with
           target := none, slot := none, elevated := false, elevateTimer := none, heldElevate := none }
       exec (.bayRetire tag body) s = .next (finish (replied 0x41 tag body [0] u))) ∧
     (r.state = .active → s.stacker.target = some x → (s.stacker.state = .push ∨ s.stacker.state = .confirm) →
       still (setBay x { r with retire := true } s) = true →
       exec (.bayRetire tag body) s =
         .next (rest (replied 0x41 tag body [1] (setBay x { r with retire := true } s)))) ∧
     ((r.state = .absent ∨ r.state = .present ∨ r.state = .complete) → still s = true →
       exec (.bayRetire tag body) s = .next (rest (replied 0x41 tag body [3] s))))

/-! ### Field lines, faults and notices by request (R18, R19, R166, R171, R180 to R183) -/

/-- The input that a restart of a filter finds present at a pin (R166, R171): the one supplied for it, and a free value,
which is then used up, where none is (log entry 5). -/
def findsInput (pin : Option Bool) (v : Bool) (s t : State) : Prop :=
  (pin = some v ∧ t = s) ∨ (pin = none ∧ v = Config.freePin s.free ∧ t = s.withFree (s.free + 1))

/-- LINE CONFIGURE restarts the line's filter from the input present, whatever level was accepted last; a changed level is
handed to the level consumers, an unchanged one is not (R166). That a level first known by the restart is handed over as a
first acceptance is (R165), where it is asserted or the line is DOOR_CLOSED and not otherwise, is the model's reading, which
no rule states (log entry 32).
AUX CONFIGURE stores the settings, restarts the filter from the input present, and sets the cause latch exactly where a
level mode's level stands; the reply gives all of it (R169, R171).
The input present is the one the outside has supplied for the restart, and otherwise a free value (log entry 5). -/
def Obligations.LinesAreConfigured : Prop :=
  (∀ (tag : Byte) (l : Fin 16) (sense : Sense) (period : SamplePeriod) (v : Bool) (s r : State), s.link.slot = none →
     findsInput (getAt s.lines.ded l).pin v s r →
     let level := match sense with | .activeHigh => v | .activeLow => !v
     let body : List Byte :=
       [b8 l.val, (match sense with | .activeHigh => 0 | .activeLow => 1),
        (match period with | .p01 => 0 | .p05 => 1 | .p20 => 2)]
     let set := r.withLines
       { s.lines with
         ded := setAt s.lines.ded l
           { sense := sense, period := period, pin := none
             filter := { level := some level, count := 0, seen := level } } }
     ((getAt s.lines.ded l).filter.level = some level → still set = true →
       exec (.lineConfigure tag body) s = .next (rest (replied 0x50 tag body [0] set))) ∧
     ((getAt s.lines.ded l).filter.level = some (!level) → still (levelChange l level set) = true →
       exec (.lineConfigure tag body) s = .next (rest (replied 0x50 tag body [0] (levelChange l level set)))) ∧
     ((getAt s.lines.ded l).filter.level = none →
       (level = true ∨ l = 15 → still (levelChange l level set) = true →
         exec (.lineConfigure tag body) s = .next (rest (replied 0x50 tag body [0] (levelChange l level set)))) ∧
       (level = false → l ≠ 15 → still set = true →
         exec (.lineConfigure tag body) s = .next (rest (replied 0x50 tag body [0] set))))) ∧
  (∀ (tag : Byte) (n : Fin 4) (mode : DetectMode) (role : AuxRole) (period : SamplePeriod) (enable v : Bool) (s r : State),
     s.link.slot = none → findsInput (getAt s.lines.aux n).pin v s r →
     let stands : Bool := (decide (mode = .lowLevel) && !v) || (decide (mode = .highLevel) && v)
     let bit (b : Bool) : Byte := if b then 1 else 0
     let body : List Byte :=
       [b8 n.val,
        (match mode with | .lowLevel => 0 | .highLevel => 1 | .rising => 2 | .falling => 3 | .both => 4),
        (match role with | .notice => 0 | .hold => 1 | .fault => 2 | .wake => 3),
        (match period with | .p01 => 0 | .p05 => 1 | .p20 => 2), bit enable]
     let u := setAux n
       { mode := mode, role := role, enable := enable, period := period, pin := none
         filter := { level := some v, count := 0, seen := v }, latch := if stands then .set else .clear } r
     still u = true →
       exec (.auxConfigure tag body) s =
         .next (rest (replied 0x51 tag body (0 :: (body ++ [bit v, bit stands])) u)))

/-- FAULT LEVEL SET stores the level of a source other than STOP_CHAIN and DOOR_OPEN and leaves records as they are; for
those two it is refused (R180).
FAULT ACKNOWLEDGE removes the top record and no other, lets the take rule act, and answers the new depth and top;
another source is refused WRONG_FAULT, a standing condition CONDITION_PRESENT (R181).
The take rule moves the pending record of the lowest level number, and among those the lowest source, where the stack is
empty or its top less urgent, and raises FAULT_TAKEN with it; otherwise it does nothing (R179).
The condition of STOP_CHAIN stands while the chain is open, of DOOR_OPEN and DRIVE_FAULT while their line is deasserted or
asserted, of an aux FAULT line in a level mode while its level is the detected one; no other source has one (R177). -/
def Obligations.FaultRequests : Prop :=
  (∀ (tag : Byte) (src : Source) (level : Nat) (s : State), s.link.slot = none → level ≤ 7 → still s = true →
     let body := [b8 src.val, b8 level]
     (2 ≤ src.val →
       exec (.faultLevelSet tag body) s =
         .next (rest (replied 0x60 tag body [0]
           (s.withFaults { s.faults with levels := setAt s.faults.levels src level })))) ∧
     (src.val < 2 → exec (.faultLevelSet tag body) s = .next (rest (replied 0x60 tag body [6, 0, 0] s)))) ∧
  (∀ (tag : Byte) (src : Source) (top : FaultRec) (below : List FaultRec) (s : State), s.link.slot = none →
     s.faults.stack = top :: below →
     let u := takeRule (s.withFaults { s.faults with stack := below })
     (src = top.source → conditionStands s src = false → still u = true →
       exec (.faultAcknowledge tag [b8 src.val]) s =
         .next (rest (replied 0x61 tag [b8 src.val]
           [0, b8 u.faults.stack.length, match u.faults.stack with | [] => 0xFF | r :: _ => b8 r.source.val] u))) ∧
     (src = top.source → conditionStands s src = true → still s = true →
       exec (.faultAcknowledge tag [b8 src.val]) s = .next (rest (replied 0x61 tag [b8 src.val] [12] s))) ∧
     (src ≠ top.source → still s = true →
       exec (.faultAcknowledge tag [b8 src.val]) s = .next (rest (replied 0x61 tag [b8 src.val] [11] s)))) ∧
  (∀ (r : FaultRec) (s : State),
     ((s.faults.waiting = [] ∨
         ∃ top below, s.faults.stack = top :: below ∧ ∀ q ∈ s.faults.waiting, top.level ≤ q.level) →
       takeRule s = s) ∧
     (r ∈ s.faults.waiting →
       (∀ q ∈ s.faults.waiting, q ≠ r → r.level < q.level ∨ (r.level = q.level ∧ r.source.val < q.source.val)) →
       (∀ top below, s.faults.stack = top :: below → r.level < top.level) →
       takeRule s = raiseNotice Notice.faultTaken ([b8 r.source.val, b8 r.level] ++ detailBytes r.detail ++ [b8 r.repeats])
         (s.withFaults
           { s.faults with
             waiting := s.faults.waiting.filter fun q => q.source ≠ r.source
             stack := r :: s.faults.stack }))) ∧
  (∀ s : State,
     (conditionStands s Source.stopChain = true ↔ s.lines.stop.level = some true) ∧
     (conditionStands s Source.doorOpen = true ↔ (getAt s.lines.ded 15).filter.level = some false) ∧
     (conditionStands s Source.driveFault = true ↔ (getAt s.lines.ded 4).filter.level = some true) ∧
     (∀ n : Fin 4,
       let a := getAt s.lines.aux n
       conditionStands s (auxSource n) = true ↔ a.role = .fault ∧
         ((a.mode = .lowLevel ∧ a.filter.level = some false) ∨ (a.mode = .highLevel ∧ a.filter.level = some true))) ∧
     (∀ src : Source, 3 ≤ src.val → src.val ≤ 18 → conditionStands s src = false))

/-- UNIT CLEAR in HALTED discards the pending records of the unit's group and no other, stops what the unit has in
flight, and leaves the unit IDLE with nothing in hand, its settings kept. The ROUTER's operation is interrupted, with
half wear for a presented cut and the Bit Record, the override and the spindle otherwise kept; the board in hand of the
other two is settled by its stage (R112, R141, R162, R183). That a board which the end of its hold makes FAILED or ABANDONED
is let go without a HOME, as the PICKER is IDLE by then, is the model's choice (log entry 39). Outside HALTED it is refused
WRONG_MODE. -/
def Obligations.UnitClearClears : Prop :=
  ∀ (tag : Byte) (s : State), s.link.slot = none →
    let inGroup (lo hi : Nat) (r : FaultRec) : Bool := decide (lo ≤ r.source.val ∧ r.source.val ≤ hi)
    let gone (lo hi : Nat) : Byte := b8 (s.faults.waiting.filter (inGroup lo hi)).length
    let kept (lo hi : Nat) := s.withFaults
      { s.faults with waiting := s.faults.waiting.filter fun r => !inGroup lo hi r }
    let halt (p : Port) : Port := if p.inFlight then stopped p else p
    let cleared (k lo hi : Nat) (u : State) : Prop :=
      exec (.unitClear tag [b8 k]) s = .next (rest (replied 0x62 tag [b8 k] [0, gone lo hi] u))
    (s.cell.mode ≠ .halted → still s = true →
      ∀ k, exec (.unitClear tag [k]) s = .next (rest (replied 0x62 tag [k] [3] s))) ∧
    (s.cell.mode = .halted →
      (let idle := (((kept 3 8).withPorts { s.ports with router := halt s.ports.router }).withRouter
          { s.router with state := .idle, operation := none, presented := false, timer := none, clearance := true
            }).withProbe { s.probe with state := .idle, work := none, moveTimer := none }
       ((s.router.state = .idle ∨ (s.router.state = .cut ∧ s.router.operation = none) ∨
           (s.router.state = .verify ∧ s.probe.work = none)) → still idle = true → cleared 0 3 8 idle) ∧
       (∀ op, s.router.state = .cut → s.router.operation = some op → s.router.presented = false →
          let u := tabInterrupted raise true op idle
          still u = true → cleared 0 3 8 u) ∧
       (∀ op, s.router.state = .cut → s.router.operation = some op → s.router.presented = true →
          let u := tabInterrupted raise true op (addWear raise ((cutWear op.record + 1) / 2) idle)
          still u = true → cleared 0 3 8 u) ∧
       (∀ w, s.router.state = .verify → s.probe.work = some w →
          let u := tabInterrupted raise false w.op idle
          still u = true → cleared 0 3 8 u)) ∧
      (let picker := (((kept 9 12).withPorts { s.ports with picker := halt s.ports.picker }).withOutputs
          { s.outputs with vacuumOn := false, blowOff := false }).withPicker
          { Picker.reset with gripTime := s.picker.gripTime, blowTime := s.picker.blowTime }
       (s.picker.board = none → still picker = true → cleared 1 9 12 picker) ∧
       ∀ b, s.picker.board = some b →
          (s.picker.state = .gripping ∨ (s.picker.state = .approach ∧ s.picker.withdrawn = false) →
            still (releaseReservation b picker) = true → cleared 1 9 12 (releaseReservation b picker)) ∧
          (s.picker.state = .approach → s.picker.withdrawn = true → still picker = true → cleared 1 9 12 picker) ∧
          (s.picker.state = .holding → boardState s b = some .held →
            (∀ t, releaseTab s b = some t → tabState s t ≠ some .cutting ∧ tabState s t ≠ some .verifying) →
            let u := releaseReservation b (setBoard b .ready picker)
            still u = true → cleared 1 9 12 u) ∧
          (s.picker.state = .holding →
            let u := releaseReservation b (holdEnds raise b picker)
            still u = true → cleared 1 9 12 u) ∧
          (s.picker.state = .carrying ∨ s.picker.state = .placing → still (boardLostEarly b picker) = true →
            cleared 1 9 12 (boardLostEarly b picker))) ∧
      (let stacker := (((kept 13 18).withPorts
          { s.ports with transfer := halt s.ports.transfer, elevator := halt s.ports.elevator }).withOutputs
          { s.outputs with push := false, chuteGate := false }).withStacker Stacker.reset
       (s.stacker.hand = none → still stacker = true → cleared 2 13 18 stacker) ∧
       ∀ h, s.stacker.hand = some h →
          ((s.stacker.state = .checkSlot ∨ s.stacker.state = .present ∨ s.stacker.state = .divert ∨
              s.stacker.state = .waitBay) →
            let u := reportLost h.serial h.board stacker
            still u = true → cleared 2 13 18 u) ∧
          (∀ x n, s.stacker.state = .push → s.stacker.target = some x → s.stacker.slot = some n →
            let u := advance x (reportLost h.serial h.board (setSlot x n .blocked stacker))
            still u = true → cleared 2 13 18 u) ∧
          (s.stacker.state = .fetch → (∃ e ∈ s.nests, e.nest = h.nest ∧ e.state = .occupied) →
            (getAt s.lines.ded (nestLine h.nest)).filter.level = some true → still stacker = true →
              cleared 2 13 18 stacker) ∧
          (s.stacker.state = .fetch →
            ((∀ e ∈ s.nests, e.nest = h.nest → e.state ≠ .occupied) ∨
              (getAt s.lines.ded (nestLine h.nest)).filter.level ≠ some true) →
            let u := reportLost h.serial h.board
              (clearBoardNest h.serial h.board (stacker.withNests (s.nests.filter fun e => decide (e.nest ≠ h.nest))))
            still u = true → cleared 2 13 18 u)))

/-- NOTICE ENABLE sets one enabled mark; NOTICE CLEAR clears one notice, marks its frame in transmission withdrawn, and
lets the cause latch of a NOTICE line go, or stand again where a level mode's level stands (R18, R19, R169). -/
def Obligations.NoticeRequests : Prop :=
  ∀ (tag : Byte) (n : Notice) (e : Bool) (s : State), s.link.slot = none → still s = true →
    (let body : List Byte := [b8 n.val, if e then 1 else 0]
     exec (.noticeEnable tag body) s =
       .next (rest (replied 0x70 tag body [0]
         (s.withNotices (setAt s.notices n { getAt s.notices n with enabled := e }))))) ∧
    (let cleared := (s.withNotices (setAt s.notices n
         { getAt s.notices n with raised := false, sent := false, payload := [] })).withLink
       { s.link with
         tx := s.link.tx.map fun t =>
           match t.what with
           | .notice m w => { t with what := .notice m (w || decide (m = n)) }
           | .reply | .overrun => t }
     (n.val < 11 ∨ 14 < n.val →
       exec (.noticeClear tag [b8 n.val]) s = .next (rest (replied 0x71 tag [b8 n.val] [0] cleared))) ∧
     (∀ (i : Fin 4) (a : AuxLine), n.val = 11 + i.val → getAt s.lines.aux i = a →
       let stands := (a.mode = .lowLevel ∧ a.filter.level = some false) ∨
         (a.mode = .highLevel ∧ a.filter.level = some true)
       (a.role ≠ .notice → still cleared = true →
         exec (.noticeClear tag [b8 n.val]) s = .next (rest (replied 0x71 tag [b8 n.val] [0] cleared))) ∧
       (a.role = .notice → ¬ stands →
         let u := cleared.withLines { s.lines with aux := setAt s.lines.aux i { a with latch := .clear } }
         still u = true →
           exec (.noticeClear tag [b8 n.val]) s = .next (rest (replied 0x71 tag [b8 n.val] [0] u))) ∧
       (a.role = .notice → stands → a.enable = true →
         let u := cleared.withLines { s.lines with aux := setAt s.lines.aux i { a with latch := .set } }
         still (raiseNotice n [] u) = true →
           exec (.noticeClear tag [b8 n.val]) s =
             .next (rest (replied 0x71 tag [b8 n.val] [0] (raiseNotice n [] u))))))

/-! ### The router port, the Kerf Probe and the spindle (chapters 5 and 6) -/

/-- The PROBE_MOVE to point `i` of a verify (R118, R119). -/
def moveToPoint (w : Verify) (i : Nat) : Order :=
  let d : Int := ((2 * i + 1) * w.op.record.length / (2 * w.ne) : Nat)
  let x := (w.op.record.x : Int) + w.op.dx
  let y := (w.op.record.y : Int) + w.op.dy
  match w.op.record.dir with
  | .xPlus => .probeMove (x + d) y
  | .xMinus => .probeMove (x - d) y
  | .yPlus => .probeMove x (y + d)
  | .yMinus => .probeMove x (y - d)

/-- A CUT completes (R75, R95, R101, R116, R117, R119): the wear added, the tab VERIFYING, and the move to point 0. -/
def Obligations.CutCompletes : Prop :=
  ∀ (op : Operation) (x y : Int) (dir : Direction) (length feed : Nat) (s : State),
    s.ports.router.inFlight = true → s.ports.router.record = some (.cut x y dir length feed) →
    s.router.operation = some op → op.orphan = false → s.probe.settings.mode ≠ .off → s.router.clearance = false →
    let hardness := match op.record.material with | .soft => 4 | .light => 6 | .standard => 8 | .hard => 12
    let wear := min 16777215 (s.router.wear + (op.record.length * hardness + 15) / 16)
    (wear ≤ s.router.life / 2 ∨ s.router.life / 2 < s.router.wear) → wear < s.router.life →
    let ne := min s.probe.settings.points (max 1 (op.record.length / 25))
    let w : Verify :=
      { op := op, settings := s.probe.settings, ne := ne, ae := min s.probe.settings.allowance (ne - 1)
        index := 0, hits := 0, misses := 0, timer := none }
    let u := ((((accepted 0 true s).withPorts
        { s.ports with router := strobed (moveToPoint w 0) (landed s.ports.router) }).withRouter
        { s.router with
          state := .verify, operation := none, presented := false, timer := none, wear := wear }).withProbe
        { s.probe with state := .move, work := some w, moveTimer := some 500 }).withSeq
        { s.seq with tabs := Table.modify op.tab (fun r => { r with state := .verifying }) s.seq.tabs }
    still u = true → exec .cutComplete s = .next (rest u)

/-- MOVE_CLEAR completes (R93, R94, R100): the position is known, and the waiting CUT is formed and presented where no
halt latch is set and the spindle is AT_SPEED, held back otherwise; a waiting verify moves to its point.
A PROBE_MOVE completes: the probe settles for the captured time (R119, R120). -/
def Obligations.RouterMovesComplete : Prop :=
  (∀ (op : Operation) (w : Verify) (s : State),
     s.ports.router.inFlight = true → s.ports.router.record = some .moveClear →
     let known : Router := { s.router with clearance := false, timer := none }
     let at_ (o : Order) := (accepted 0 true s).withPorts { s.ports with router := strobed o (landed s.ports.router) }
     (s.router.state = .cut → s.router.operation = some op → s.faults.allStop = false → s.faults.cutStop = false →
       s.spindle.state = .atSpeed →
       let feed := effectiveFeed s.router.life s.router.wear s.router.baseFeed s.router.override op.attempt
       let time := (100 * op.record.length + feed - 1) / feed
       let u := (at_ (.cut (op.record.x + op.dx) (op.record.y + op.dy) op.record.dir op.record.length feed)).withRouter
         { known with presented := true, timer := some (2 * time + 1000), sag := 0 }
       still u = true → exec .moveClearDone s = .next (rest u)) ∧
     (s.router.state = .cut → s.router.operation = some op →
       (s.faults.allStop = true ∨ s.faults.cutStop = true ∨ s.spindle.state ≠ .atSpeed) →
       let u := ((accepted 0 true s).withPorts { s.ports with router := landed s.ports.router }).withRouter known
       still u = true → exec .moveClearDone s = .next (rest u)) ∧
     (s.router.state = .verify → s.probe.work = some w →
       let u := ((at_ (moveToPoint w w.index)).withRouter known).withProbe
         { s.probe with state := .move, moveTimer := some 500 }
       still u = true → exec .moveClearDone s = .next (rest u))) ∧
  (∀ (x y : Int) (w : Verify) (s : State),
     s.ports.router.inFlight = true → s.ports.router.record = some (.probeMove x y) → s.probe.work = some w →
     let u := ((accepted 0 true s).withPorts { s.ports with router := landed s.ports.router }).withProbe
       { s.probe with state := .settle, moveTimer := none, work := some { w with timer := some w.settings.settle } }
     still u = true → exec .probeMoveDone s = .next (rest u))

/-- The settle timer expires (R120 to R123): the beam is read once and counted; while the mode's rule is undecided the
probe moves on, and at the decision the snapshot is frozen, probe and router are IDLE and the verdict is handled. -/
def Obligations.SettledPointIsRead : Prop :=
  ∀ (w : Verify) (ms : Nat) (s : State),
    s.probe.state = .settle → s.probe.work = some w → w.timer = some ms → w.settings.mode ≠ .off →
    let severed := (getAt s.lines.ded 6).filter.level = some true
    let hits := if severed then w.hits + 1 else w.hits
    let misses := if severed then w.misses else w.misses + 1
    let decided : Prop :=
      if w.settings.mode = .early ∧ w.ae < misses then True else w.ne ≤ hits + misses
    (¬ decided →
      let w' := { w with hits := hits, misses := misses, index := w.index + 1, timer := none }
      let u := (s.withPorts { s.ports with router := strobed (moveToPoint w' w'.index) s.ports.router }).withProbe
        { s.probe with state := .move, work := some w', moveTimer := some 500 }
      still u = true → exec .settleTimeout s = .next (rest u)) ∧
    (decided →
      let verdict := if misses ≤ w.ae then Verdict.severed else .uncut
      let snapshot : Snapshot :=
        { tab := w.op.tab, attempt := w.op.attempt, ne := w.ne, hits := hits, misses := misses
          sampled := hits + misses, verdict := verdict }
      let idle := (s.withProbe
        { s.probe with state := .idle, work := none, moveTimer := none, snapshot := some snapshot }).withRouter
        { s.router with state := .idle, operation := none, presented := false, timer := none }
      let u := handleVerdict raise w.op verdict idle
      still u = true → exec .settleTimeout s = .next (rest u))

/-- What the Run Sequencer makes of a verdict on a needed tab of the present panel (R69, R78 to R81): SEVERED lowers the
counts of its live boards, or frees the held board of a release tab; UNCUT asks for a recut once, and then gives up.
A tab given up is FAULTED, its live boards FAIL and are tallied, their tabs that wait without a live board are BYPASSED, and
the picker lets go of a failed board (R68, R81, R82, R139).
The next choice, made with the router IDLE while cutting is permitted (R71, R72): the pending tab, unless it waits for its
board to be held; the UNCUT release tab of the held board; in RUNNING the tab of lowest rank, then index, of the first
window board that has a needed UNCUT non-release tab; otherwise none. The tab taken goes to CUTTING as its next attempt or,
pending a verify, to VERIFYING, and its first order is presented (R73, R93, R94, R116).
In mode OFF a verify gives SEVERED at its start, with a snapshot of zeros, before the wear of the completed cut is added
(R75, R95, R116, R123; that order is log entry 12). -/
def Obligations.VerdictIsHandled : Prop :=
  (∀ (op : Operation) (d : TabDef) (s : State),
    op.orphan = false → tabNeeded s op.tab = true → d = op.record →
    let tab (st : TabState) := s.withSeq
      { s.seq with tabs := Table.modify op.tab (fun r => { r with state := st }) s.seq.tabs }
    let lower (r : BoardRun) : BoardRun :=
      if BoardRun.live r then
        { r with
          remaining := r.remaining - 1
          state := match r.state with
            | .waiting | .precut => if r.remaining - 1 = 0 then .ready else .precut
            | st => st }
      else r
    (d.role ≠ .release →
      handleVerdict raise op .severed s =
        match d.neighbour with
        | none => modBoard d.owner lower (tab .severed)
        | some b => modBoard b lower (modBoard d.owner lower (tab .severed))) ∧
    (d.role = .release → boardState s d.owner = some .held → s.picker.state = .holding →
      s.picker.board = some d.owner → s.faults.allStop = false →
      ∃ u, handleVerdict raise op .severed s = u ∧ boardState u d.owner = some .freed ∧ u.picker.state = .carrying ∧
        (∀ n, s.picker.nest = some n →
          u.ports.picker = strobed (.carry n) s.ports.picker ∧ u.picker.moveTimer = some 3000)) ∧
    (stopTaken s = false → op.attempt = 1 → handleVerdict raise op .uncut s = tab .recutPending) ∧
    (stopTaken s = false → 2 ≤ op.attempt → handleVerdict raise op .uncut s = giveUp raise op.tab s)) ∧
  (∀ (t : Fin 256) (d : TabDef) (s : State), Table.get s.recipe.tabs t = some d → d.neighbour ≠ some d.owner →
     s.router.state = .idle →
     let marked := raise Source.tabUncut (.tab t) (setTab t .faulted s)
     let dead (b : Fin 64) : Prop := (b = d.owner ∨ d.neighbour = some b) ∧ boardLive s b = true
     let u := giveUp raise t s
     (∀ b run, boardRun s b = some run →
       (dead b → ∃ run', boardRun u b = some run' ∧ run'.state = .failed ∧ run'.remaining = run.remaining) ∧
       (¬ dead b → boardRun u b = some run)) ∧
     (∀ run, tabRun s t = some run → tabRun u t = some { run with state := .faulted }) ∧
     (∀ t' run, t' ≠ t → tabRun s t' = some run →
       let left : Prop := (∃ b, dead b ∧ t' ∈ tabsOf s b) ∧ tabNeeded u t' = false ∧
         (run.state = .uncut ∨ run.state = .recutPending ∨ run.state = .verifyPending)
       (left → tabRun u t' = some { run with state := .bypassed }) ∧ (¬ left → tabRun u t' = some run)) ∧
     (u.seq.records = s.seq.records.map fun p =>
       if p.state = .cutting then
         { p with failed := p.failed + ((d.owner :: d.neighbour.toList).filter (boardLive s)).length } else p) ∧
     u.faults = marked.faults ∧ u.cell = marked.cell ∧
     (∀ b, dead b → s.picker.board = some b →
       (s.picker.state = .gripping ∨ s.picker.state = .holding →
         u.picker.state = .returning ∧ u.picker.board = none ∧ u.outputs.vacuumOn = false ∧
           (∀ e, e ∈ u.nests ↔ e ∈ s.nests ∧ ¬ (e.board = b ∧ e.state = .reserved))) ∧
       (s.picker.state = .approach → s.picker.withdrawn = false → marked.picker.stalled = false →
         u.picker = { marked.picker with withdrawn := true, nest := none } ∧
           (∀ e, e ∈ u.nests ↔ e ∈ s.nests ∧ ¬ (e.board = b ∧ e.state = .reserved)))) ∧
     ((∀ b, dead b → s.picker.board ≠ some b) → u.picker = marked.picker ∧ u.nests = s.nests)) ∧
  (∀ s : State,
     let permitted : Prop := (s.cell.mode = .running ∨ s.cell.mode = .holding) ∧ s.faults.allStop = false ∧
       s.faults.cutStop = false ∧ s.spindle.state = .atSpeed ∧ s.router.bit = .known ∧ s.router.wear < s.router.life
     (s.router.state ≠ .idle ∨ ¬ permitted → chooseCut raise s = s) ∧
     (s.router.state = .idle → permitted →
       (chosenTab s = none → chooseCut raise s = s) ∧
       (∀ t, chosenTab s = some t → chooseCut raise s = startTab raise t s))) ∧
  (∀ s : State,
     let pends (r : TabRun) : Prop := r.state = .recutPending ∨ r.state = .verifyPending
     (∀ t d r before after, s.seq.tabs = before ++ (t, r) :: after → (∀ e ∈ before, ¬ pends e.2) → pends r →
       Table.get s.recipe.tabs t = some d →
       (d.role = .release → boardState s d.owner ≠ some .held → chosenTab s = none) ∧
       (d.role ≠ .release ∨ boardState s d.owner = some .held → chosenTab s = some t)) ∧
     ((∀ e ∈ s.seq.tabs, ¬ pends e.2) →
       (∀ b run t before after, s.seq.boards = before ++ (b, run) :: after → (∀ e ∈ before, e.2.state ≠ .held) →
         run.state = .held → releaseTab s b = some t → tabState s t = some .uncut → chosenTab s = some t) ∧
       ((∀ e ∈ s.seq.boards, e.2.state = .held → ∀ t, releaseTab s e.1 = some t → tabState s t ≠ some .uncut) →
         let offers (t : Fin 256) (d : TabDef) : Prop := Table.get s.recipe.tabs t = some d ∧ d.role ≠ .release ∧
           tabState s t = some .uncut ∧ ∃ b, (b = d.owner ∨ d.neighbour = some b) ∧ boardLive s b = true
         let rank (d : TabDef) : Nat := if d.neighbour.isSome then 0 else if d.role = .relief then 1 else 2
         (s.cell.mode ≠ .running → chosenTab s = none) ∧
         ((∀ b ∈ window s, ∀ t ∈ tabsOf s b, ∀ d, ¬ offers t d) → chosenTab s = none) ∧
         (∀ b t d before after, s.cell.mode = .running → window s = before ++ b :: after →
           (∀ c ∈ before, ∀ t' ∈ tabsOf s c, ∀ d', ¬ offers t' d') → t ∈ tabsOf s b → offers t d →
           (∀ t' ∈ tabsOf s b, ∀ d', offers t' d' → rank d < rank d' ∨ (rank d = rank d' ∧ t ≤ t')) →
           chosenTab s = some t)))) ∧
  (∀ (t : Fin 256) (d : TabDef) (r : TabRun) (p : PanelRec) (s : State),
     Table.get s.recipe.tabs t = some d → tabRun s t = some r → cuttingRecord s = some p →
     let op (n : Nat) : Operation := { tab := t, record := d, attempt := n, dx := p.dx, dy := p.dy, orphan := false }
     let as (q : TabRun) := s.withSeq { s.seq with tabs := Table.modify t (fun _ => q) s.seq.tabs }
     let order (o : Order) (u : State) := u.withPorts { s.ports with router := strobed o s.ports.router }
     ((r.state = .uncut ∨ r.state = .recutPending) →
       let n := r.attempts + 1
       let cut : Router := { s.router with state := .cut, operation := some (op n), presented := false }
       let cutting := as { state := .cutting, attempts := n }
       (s.router.clearance = true →
         startTab raise t s = (order .moveClear cutting).withRouter { cut with timer := some 2000 }) ∧
       (s.router.clearance = false → latched s.faults = false → s.spindle.state = .atSpeed →
         let feed := effectiveFeed s.router.life s.router.wear s.router.baseFeed s.router.override n
         let time := (100 * d.length + feed - 1) / feed
         startTab raise t s = (order (.cut (d.x + p.dx) (d.y + p.dy) d.dir d.length feed) cutting).withRouter
           { cut with presented := true, timer := some (2 * time + 1000), sag := 0 })) ∧
     (r.state = .verifyPending → s.probe.settings.mode ≠ .off →
       let ne := min s.probe.settings.points (max 1 (d.length / 25))
       let w : Verify :=
         { op := op r.attempts, settings := s.probe.settings, ne := ne, ae := min s.probe.settings.allowance (ne - 1)
           index := 0, hits := 0, misses := 0, timer := none }
       let verify : Router := { s.router with state := .verify, operation := none, presented := false, timer := none }
       let verifying := as { r with state := .verifying }
       (s.router.clearance = true →
         startTab raise t s = ((order .moveClear verifying).withRouter { verify with timer := some 2000 }).withProbe
           { s.probe with state := .move, work := some w, moveTimer := none }) ∧
       (s.router.clearance = false →
         startTab raise t s = ((order (moveToPoint w 0) verifying).withRouter verify).withProbe
           { s.probe with state := .move, work := some w, moveTimer := some 500 }))) ∧
  (∀ (op : Operation) (t : Fin 256) (d : TabDef) (r : TabRun) (p : PanelRec) (s : State), s.probe.settings.mode = .off →
     let verdict (op : Operation) (s : State) := handleVerdict raise op .severed ((s.withProbe
       { s.probe with
         state := .idle, work := none, moveTimer := none
         snapshot := some
           { tab := op.tab, attempt := op.attempt, ne := 0, hits := 0, misses := 0, sampled := 0, verdict := .severed }
         }).withRouter { s.router with state := .idle, operation := none, presented := false, timer := none })
     let verifying (t : Fin 256) (s : State) := s.withSeq
       { s.seq with tabs := Table.modify t (fun r => { r with state := .verifying }) s.seq.tabs }
     (Table.get s.recipe.tabs t = some d → tabRun s t = some r → cuttingRecord s = some p → r.state = .verifyPending →
       startTab raise t s = verdict { tab := t, record := d, attempt := r.attempts, dx := p.dx, dy := p.dy, orphan := false }
         (verifying t s)) ∧
     (op.orphan = false → completeCut raise op s = addWear raise (cutWear op.record)
       (verdict op (verifying op.tab (s.withPorts { s.ports with router := landed s.ports.router })))))

/-- A router order times out (R76, R77, R93, R95): STOP, clearance, IDLE, ROUTER_TIMEOUT with the tab as detail, half
wear for a presented cut, and the tab handled as interrupted.
The tab of an interrupted operation that is needed, without PANEL STOP (R76, R77): a verify is pending again, a first
cut is pending again, a second is given up. -/
def Obligations.RouterInterruptions : Prop :=
  (∀ (op : Operation) (w : Verify) (o : Order) (s : State),
     s.ports.router.inFlight = true → s.ports.router.record = some o →
     (s.router.timer.isSome = true ∨ s.probe.moveTimer.isSome = true) →
     let dropped := ((s.withPorts { s.ports with router := stopped s.ports.router }).withRouter
         { s.router with state := .idle, operation := none, presented := false, timer := none, clearance := true }).withProbe
         { s.probe with state := .idle, work := none, moveTimer := none }
     (s.router.state = .cut → s.router.operation = some op → s.router.presented = true →
       (∃ x y dir l f, o = .cut x y dir l f) →
       let u := tabInterrupted raise true op
         (addWear raise ((cutWear op.record + 1) / 2) (raise Source.routerTimeout (.tab op.tab) dropped))
       still u = true → exec .cutTimeout s = .next (rest u)) ∧
     (s.router.state = .cut → s.router.operation = some op → s.router.presented = false → o = .moveClear →
       let u := tabInterrupted raise true op (raise Source.routerTimeout (.tab op.tab) dropped)
       still u = true → exec .moveClearTimeout s = .next (rest u)) ∧
     (s.router.state = .verify → s.probe.work = some w → o = .moveClear →
       let u := tabInterrupted raise false w.op (raise Source.routerTimeout (.tab w.op.tab) dropped)
       still u = true → exec .moveClearTimeout s = .next (rest u)) ∧
     (s.router.state = .verify → s.probe.work = some w → (∃ x y, o = .probeMove x y) →
       let u := tabInterrupted raise false w.op (raise Source.routerTimeout (.tab w.op.tab) dropped)
       still u = true → exec .probeMoveTimeout s = .next (rest u))) ∧
  (∀ (op : Operation) (s : State), op.orphan = false → tabNeeded s op.tab = true → stopTaken s = false →
     let tab (st : TabState) := s.withSeq
       { s.seq with tabs := Table.modify op.tab (fun r => { r with state := st }) s.seq.tabs }
     tabInterrupted raise false op s = tab .verifyPending ∧
     (op.attempt < 2 → tabInterrupted raise true op s = tab .recutPending) ∧
     (2 ≤ op.attempt → tabInterrupted raise true op s = giveUp raise op.tab s))

/-- A tach edge (R104): the first edge, or one more than 50 ms after the last, only becomes the last edge; one within
50 ms measures the period; away from the spin-up and from a CUT nothing else follows.
The third counted period in tolerance takes SPINUP to AT_SPEED and stops its timers; one out of tolerance starts the
count again (R104, R105). -/
def Obligations.TachEdges : Prop :=
  (∀ (time last : Nat) (s : State), s.spindle.state ≠ .spinup →
     let watch := if s.spindle.watch = .disarmed then TachWatch.armed else s.spindle.watch
     let seen : Spindle := { s.spindle with lastEdge := some time, edgeCounts := false, watch := watch }
     ((s.spindle.lastEdge = none ∨ ∃ t, s.spindle.lastEdge = some t ∧ 50000 < time - t) →
       still (s.withSpindle seen) = true → exec (.tachEdge time) s = .next (rest (s.withSpindle seen))) ∧
     (s.spindle.lastEdge = some last → 0 < time - last → time - last ≤ 50000 → s.router.state ≠ .cut →
       let u := s.withSpindle { seen with rpm := 60000000 / (time - last) }
       still u = true → exec (.tachEdge time) s = .next (rest u))) ∧
  (∀ (time last : Nat) (s : State), s.spindle.state = .spinup → s.spindle.stabilise = none →
     s.spindle.edgeCounts = true → s.spindle.lastEdge = some last → 0 < time - last → time - last ≤ 50000 →
     s.router.state ≠ .cut → s.cell.mode ≠ .waking →
     let rpm := 60000000 / (time - last)
     let inTol : Prop := (rpm - s.spindle.setpoint) * 100 ≤ 3 * s.spindle.setpoint ∧
       (s.spindle.setpoint - rpm) * 100 ≤ 3 * s.spindle.setpoint
     let watch := if s.spindle.watch = .disarmed then TachWatch.armed else s.spindle.watch
     let seen : Spindle := { s.spindle with lastEdge := some time, edgeCounts := true, watch := watch, rpm := rpm }
     (inTol → s.spindle.qualify = 2 →
       let u := s.withSpindle
         { seen with
           state := .atSpeed, qualify := 3, deadline := none, stabilise := none
           watch := if watch = .delay then .armed else watch }
       still u = true → exec (.tachEdge time) s = .next (rest u)) ∧
     (inTol → s.spindle.qualify < 2 →
       let u := s.withSpindle { seen with qualify := s.spindle.qualify + 1 }
       still u = true → exec (.tachEdge time) s = .next (rest u)) ∧
     (¬ inTol →
       let u := s.withSpindle { seen with qualify := 0 }
       still u = true → exec (.tachEdge time) s = .next (rest u)))

/-- The spindle's timers (R60, R103, R105, R106, R109): the stabilisation timer expires; the deadline raises
SPINUP_TIMEOUT once and leaves SPINUP; 50 ms of coasting without an edge stop the spindle; 50 ms under an armed watch
raise TACH_LOST and take AT_SPEED back to SPINUP; the watch arms.
A start request turns a STOPPED or COASTING spindle on with a full Tsu, the deadline 5 s after it, the tach watch in its
delay, nothing counted, and the speed reference at the setpoint; a stop request turns a running one off to COASTING, its
timers stopped; either leaves the spindle alone in its other states (R103).
The eighth sagging period in a row during a CUT raises SPINDLE_SAG with the tab, and no later period of that CUT
raises it again (R104, R110). -/
def Obligations.SpindleWatches : Prop :=
  (∀ (ms : Nat) (s : State),
     (s.spindle.stabilise = some ms →
       let u := s.withSpindle { s.spindle with stabilise := none, edgeCounts := false }
       still u = true → exec .stabilisationTimeout s = .next (rest u)) ∧
     (s.spindle.state = .spinup → s.spindle.deadline = some ms →
       let u := raise Source.spinupTimeout .none (s.withSpindle { s.spindle with deadline := none })
       still u = true → exec .spinupTimeout s = .next (rest u)) ∧
     (s.spindle.state = .coasting → s.cell.mode ≠ .parked →
       let u := s.withSpindle { s.spindle with state := .stopped, rpm := 0 }
       still u = true → exec .spindleCoastTimeout s = .next (rest u)) ∧
     (∀ m, s.spindle.state = .coasting → s.cell.mode = .parked → s.cell.ret = some m →
       let u := raiseNotice Notice.parked [b8 (Mode.code m)] (s.withSpindle { s.spindle with state := .stopped, rpm := 0 })
       still u = true → exec .spindleCoastTimeout s = .next (rest u)) ∧
     (s.spindle.state = .atSpeed → s.spindle.watch = .armed →
       let u := raise Source.tachLost .none ((s.withSpindle
         { s.spindle with
           state := .spinup, stabilise := some 500, deadline := some 5500, watch := .delay, qualify := 0
           edgeCounts := false }).withOutputs { s.outputs with spindleRun := true, speedRef := s.spindle.setpoint })
       still u = true → exec .tachLost s = .next (rest u)) ∧
     (s.spindle.state = .spinup → s.spindle.watch = .armed →
       let u := raise Source.tachLost .none (s.withSpindle { s.spindle with watch := .disarmed })
       still u = true → exec .tachLost s = .next (rest u)) ∧
     ((s.spindle.watch = .delay ∨ s.spindle.watch = .disarmed) →
       let u := s.withSpindle { s.spindle with watch := .armed }
       still u = true → exec .tachWatchArm s = .next (rest u))) ∧
  (∀ (rpm : Nat) (op : Operation) (s : State),
     s.router.state = .cut → s.router.presented = true → s.ports.router.inFlight = true → s.router.operation = some op →
     (s.router.sag < 7 → rpm * 10 < 9 * s.spindle.setpoint →
       sagPeriod rpm s = s.withRouter { s.router with sag := s.router.sag + 1 }) ∧
     (s.router.sag = 7 → rpm * 10 < 9 * s.spindle.setpoint →
       sagPeriod rpm s = raise Source.spindleSag (.tab op.tab) (s.withRouter { s.router with sag := 8 })) ∧
     (s.router.sag < 8 → 9 * s.spindle.setpoint ≤ rpm * 10 →
       sagPeriod rpm s = s.withRouter { s.router with sag := 0 }) ∧
     (8 ≤ s.router.sag → sagPeriod rpm s = s)) ∧
  (∀ s : State,
     let full := 100 * s.spindle.setTime
     ((s.spindle.state = .stopped ∨ s.spindle.state = .coasting) →
       startSpindle s = (s.withSpindle
         { s.spindle with
           state := .spinup, stabilise := some full, deadline := some (full + 5000), watch := .delay, qualify := 0
           edgeCounts := false }).withOutputs { s.outputs with spindleRun := true, speedRef := s.spindle.setpoint } ∧
       stopSpindle s = s) ∧
     ((s.spindle.state = .spinup ∨ s.spindle.state = .atSpeed) →
       startSpindle s = s ∧
       stopSpindle s = (s.withSpindle
         { s.spindle with
           state := .coasting, stabilise := none, deadline := none, watch := .off, qualify := 0
           edgeCounts := false }).withOutputs { s.outputs with spindleRun := false, speedRef := 0 }))

/-- The check over the ASCII digits 1 to 9 (R3).
The worked case of section 5.4: feed, second feed, cut times, and the wear of a tab of 6.40 mm in class STANDARD (R99 to
R101).
The effective feed lies within its limits for every bit, override and attempt (R99). -/
def Obligations.WorkedExamples : Prop :=
  (frameCheck [0x31, 0x32, 0x33, 0x34, 0x35, 0x36, 0x37, 0x38, 0x39] = 0x29B1) ∧
  (effectiveFeed 1000000 700000 250 100 1 = 200 ∧ effectiveFeed 1000000 700320 250 100 2 = 99 ∧
     cutTime 640 200 = 320 ∧ cutTime 640 99 = 647 ∧
     ∀ d : TabDef, d.length = 640 → d.material = .standard → cutWear d = 320) ∧
  (∀ life wear feed percent attempt : Nat,
     20 ≤ effectiveFeed life wear feed percent attempt ∧ effectiveFeed life wear feed percent attempt ≤ 600)

/-- The wear of an accrual, held at 16,777,215, and what it crosses: BIT_WEAR_WARN above the half point, EXPIRED and
BIT_EXPIRED at the life of a KNOWN bit; one accrual of at most 1500 does not do both (R101, R102). -/
def Obligations.WearAccrues : Prop :=
  ∀ (dw : Nat) (s : State),
    let w := min 16777215 (s.router.wear + dw)
    let half := s.router.life / 2
    let crosses : Prop := s.router.wear ≤ half ∧ half < w
    let ends : Prop := s.router.bit = .known ∧ s.router.life ≤ w
    (¬ crosses → ¬ ends → addWear raise dw s = s.withRouter { s.router with wear := w }) ∧
    (crosses → ¬ ends →
      addWear raise dw s =
        raiseNotice Notice.bitWearWarn (le32 w ++ le32 s.router.life) (s.withRouter { s.router with wear := w })) ∧
    (¬ crosses → ends →
      addWear raise dw s =
        raise Source.bitExpired .none (s.withRouter { s.router with wear := w, bit := .expired })) ∧
    (dw ≤ 1500 → 10000 ≤ s.router.life → ¬ (crosses ∧ ends))

/-- The points of a verify (R118): point i lies at floor((2i + 1) · L / (2 · Ne)) from the tab's start, along its
direction, with the panel offsets added; successive distances differ by at least floor(L / Ne), and each lies at least
floor(L / (2 · Ne)) from either end: at least 25 and 12 for the lengths and points of a verify, with products up to
126,000; every point of a tab that ends inside its frame lies inside the panel frame. -/
def Obligations.PointsAreSpread : Prop :=
  (∀ (w : Verify) (i : Nat),
    let d : Int := ((2 * i + 1) * w.op.record.length / (2 * w.ne) : Nat)
    let x := (w.op.record.x : Int) + w.op.dx
    let y := (w.op.record.y : Int) + w.op.dy
    probePoint w i = match w.op.record.dir with
      | .xPlus => (x + d, y)
      | .xMinus => (x - d, y)
      | .yPlus => (x, y + d)
      | .yMinus => (x, y - d)) ∧
  (∀ length ne i : Nat, 1 ≤ ne → ne ≤ length → i < ne →
    let d (i : Nat) : Nat := (2 * i + 1) * length / (2 * ne)
    length / (2 * ne) ≤ d i ∧ d i + length / (2 * ne) ≤ length ∧ (i + 1 < ne → d i + length / ne ≤ d (i + 1))) ∧
  (∀ points length i : Nat, 1 ≤ points → points ≤ 32 → 100 ≤ length → length ≤ 2000 →
    let ne := min points (max 1 (length / 25))
    i < ne → 25 ≤ length / ne ∧ 12 ≤ length / (2 * ne) ∧ (2 * i + 1) * length ≤ 126000) ∧
  (∀ (w : Verify) (i : Nat), 1 ≤ w.ne → w.ne ≤ w.op.record.length → i < w.ne →
    500 ≤ w.op.record.x → w.op.record.x ≤ 59500 → 500 ≤ w.op.record.y → w.op.record.y ≤ 44500 →
    endOutside w.op.record = false → -500 ≤ w.op.dx → w.op.dx ≤ 500 → -500 ≤ w.op.dy → w.op.dy ≤ 500 →
    let p := probePoint w i
    0 ≤ p.1 ∧ p.1 ≤ 60000 ∧ 0 ≤ p.2 ∧ p.2 ≤ 45000)

/-- The modes FULL and EARLY give the same verdict on the same readings, and EARLY never reads more points than FULL
(R122): read point by point, from a fresh record, against any sequence of readings. -/
def verdictAfter (mode : ProbeMode) (ne ae : Nat) (w : Verify) : List Bool → Option (Verdict × Nat)
  | [] => none
  | hit :: more =>
    let w := if hit then { w with hits := w.hits + 1 } else { w with misses := w.misses + 1 }
    match probeDecision { w with settings := { w.settings with mode := mode }, ne := ne, ae := ae } with
    | some v => some (v, w.hits + w.misses)
    | none => verdictAfter mode ne ae w more

/-- The decision after a reading (R122): by the rule of the captured mode; and FULL and EARLY reach the same verdict on the
same readings, EARLY never reading more points than FULL. -/
def Obligations.FullAndEarlyAgree : Prop :=
  (∀ w : Verify,
    let read := w.hits + w.misses
    (w.settings.mode = .full → read < w.ne → probeDecision w = none) ∧
    (w.settings.mode = .full → read = w.ne → w.misses ≤ w.ae → probeDecision w = some .severed) ∧
    (w.settings.mode = .full → read = w.ne → w.ae < w.misses → probeDecision w = some .uncut) ∧
    (w.settings.mode = .early → w.ae < w.misses → probeDecision w = some .uncut) ∧
    (w.settings.mode = .early → w.misses ≤ w.ae → read < w.ne → probeDecision w = none) ∧
    (w.settings.mode = .early → w.misses ≤ w.ae → read = w.ne → probeDecision w = some .severed)) ∧
  (∀ (w : Verify) (ne ae : Nat) (readings : List Bool), w.hits = 0 → w.misses = 0 → 1 ≤ ne → readings.length = ne →
    ∃ v m, verdictAfter .full ne ae w readings = some (v, ne) ∧ verdictAfter .early ne ae w readings = some (v, m) ∧
      m ≤ ne ∧ (v = .severed ↔ (readings.filter (! ·)).length ≤ ae) ∧ (v = .severed → m = ne) ∧
      (v = .uncut → ae + 1 ≤ m))

/-! ### The picker and the hold protocol (chapters 4 and 7) -/

/-- The picker on its way home: fields cleared, vacuum off, HOME presented or, under ALL_STOP, due and stalled (R129,
R138, R139). -/
def homeward (s : State) : State :=
  let p : Picker :=
    { s.picker with
      state := .returning, board := none, serial := none, nest := none, target := none, retry := false
      withdrawn := false, gripTimer := none, vacOffTimer := none, blowTimer := none, windowTimer := none }
  if s.faults.allStop then s.withPicker { p with stalled := true }
  else (s.withPorts { s.ports with picker := strobed .home s.ports.picker }).withPicker
    { p with moveTimer := some 3000, stalled := false }

/-- APPROACH completes (R130, R131, R133): GRIPPING with the vacuum on and the grip timer running; HOLDING at once where
the vacuum is already made; home where the approach was withdrawn.
CARRY completes (R136, R137): vacuum off, blow-off on and its timer running; a picker that has lost its board goes
home.
HOME completes: the picker is IDLE with nothing (R138). -/
def Obligations.PickerMovesComplete : Prop :=
  (∀ (x y : Int) (h : Nat) (b : Fin 64) (s : State),
     s.ports.picker.inFlight = true → s.ports.picker.record = some (.approach x y h) →
     s.picker.state = .approach → s.picker.board = some b →
     let arrived := (accepted 1 true s).withPorts { s.ports with picker := landed s.ports.picker }
     let grip := (arrived.withPicker
       { s.picker with
         state := .gripping, retry := false, gripTimer := some s.picker.gripTime, vacOffTimer := none
         moveTimer := none }).withOutputs { s.outputs with vacuumOn := true }
     (s.picker.withdrawn = false → (getAt s.lines.ded 5).filter.level ≠ some true → still grip = true →
       exec .approachDone s = .next (rest grip)) ∧
     (s.picker.withdrawn = false → (getAt s.lines.ded 5).filter.level = some true → boardState s b = some .ready →
       let u := setBoard b .held (grip.withPicker { grip.picker with state := .holding, gripTimer := none })
       still u = true → exec .approachDone s = .next (rest u)) ∧
     (s.picker.withdrawn = true →
       let u := homeward (arrived.withPicker { s.picker with moveTimer := none })
       still u = true → exec .approachDone s = .next (rest u))) ∧
  (∀ (n : Fin 3) (s : State),
     s.ports.picker.inFlight = true → s.ports.picker.record = some (.carry n) → s.picker.state = .carrying →
     let arrived := (accepted 1 true s).withPorts { s.ports with picker := landed s.ports.picker }
     (s.picker.board.isSome = true →
       let u := (arrived.withOutputs { s.outputs with vacuumOn := false, blowOff := true }).withPicker
         { s.picker with state := .placing, moveTimer := none, blowTimer := some s.picker.blowTime }
       still u = true → exec .carryDone s = .next (rest u)) ∧
     (s.picker.board = none →
       let u := homeward (arrived.withPicker { s.picker with moveTimer := none })
       still u = true → exec .carryDone s = .next (rest u))) ∧
  (∀ s : State, s.ports.picker.inFlight = true → s.ports.picker.record = some .home →
     s.picker.state = .returning →
     let u := ((accepted 1 true s).withPorts { s.ports with picker := landed s.ports.picker }).withPicker
       { s.picker with
         state := .idle, board := none, serial := none, nest := none, target := none, retry := false
         withdrawn := false, stalled := false, moveTimer := none }
     still u = true → exec .homeDone s = .next (rest u))

/-- The picker's own timers (R129, R131, R134, R137, R145): a move times out, is stopped and stalls, with PICKER_TIMEOUT;
a grip pauses once for 50 ms and then fails; the pause ends with the vacuum on again; the blow-off ends with the nest
window, or with the placement where the nest line is already asserted; the window's end is NEST_MISMATCH, the board LOST
and the picker home. -/
def Obligations.PickerTimers : Prop :=
  ∀ (ms : Nat) (b : Fin 64) (n : Fin 3) (s : State), s.picker.board = some b →
    (s.ports.picker.inFlight = true → s.picker.moveTimer = some ms →
      let u := raise Source.pickerTimeout (.board b)
        ((s.withPorts { s.ports with picker := stopped s.ports.picker }).withPicker
          { s.picker with moveTimer := none, stalled := true })
      still u = true → exec .pickerMoveTimeout s = .next (rest u)) ∧
    (s.picker.state = .gripping → s.picker.gripTimer = some ms → s.picker.retry = false →
      let u := (s.withPicker
        { s.picker with retry := true, gripTimer := none, vacOffTimer := some 50 }).withOutputs
        { s.outputs with vacuumOn := false }
      still u = true → exec .gripTimeout s = .next (rest u)) ∧
    (s.picker.state = .gripping → s.picker.gripTimer = some ms → s.picker.retry = true →
      let failed := raise Source.gripFailed (.board b)
        ((s.withPicker { s.picker with gripTimer := none, vacOffTimer := none }).withOutputs
          { s.outputs with vacuumOn := false })
      let u := homeward (releaseReservation b failed)
      still u = true → exec .gripTimeout s = .next (rest u)) ∧
    (s.picker.state = .gripping → s.picker.vacOffTimer = some ms →
      (getAt s.lines.ded 5).filter.level ≠ some true →
      let u := (s.withPicker
        { s.picker with gripTimer := some s.picker.gripTime, vacOffTimer := none }).withOutputs
        { s.outputs with vacuumOn := true }
      still u = true → exec .vacuumOffTimeout s = .next (rest u)) ∧
    (s.picker.state = .placing → s.picker.blowTimer = some ms → s.picker.nest = some n →
      let off := (s.withOutputs { s.outputs with blowOff := false }).withPicker
        { s.picker with blowTimer := none, windowTimer := some 200 }
      ((getAt s.lines.ded (nestLine n)).filter.level ≠ some true → still off = true →
        exec .blowOffTimeout s = .next (rest off)) ∧
      ((getAt s.lines.ded (nestLine n)).filter.level = some true → still (placementConfirmed b n off) = true →
        exec .blowOffTimeout s = .next (rest (placementConfirmed b n off)))) ∧
    (s.picker.state = .placing → s.picker.windowTimer = some ms → s.picker.nest = some n →
      let missed := raise Source.nestMismatch (.nest n) (s.withPicker { s.picker with windowTimer := none })
      let u := homeward (boardLostEarly b missed)
      still u = true → exec .nestWindowTimeout s = .next (rest u))

/-- VACUUM_OK asserts while GRIPPING under a running grip timer: the board is HELD (R131, R133); in any other picker
state the level alone changes.
VACUUM_OK deasserts (R86, R87, R134 to R136): the loss of a HELD board raises VACUUM_LOST, sets its regrip mark and returns
the board to READY; the first loss pauses the vacuum, one with the mark already set is a failed grip: vacuum off,
GRIP_FAILED, the reservation released, home. A release tab that is CUTTING or VERIFYING has its operation stopped first,
with half wear for a presented cut, and is interrupted; where that gives the tab up the board has been let go, and nothing
more follows. A carried board is dropped and LOST; in any other picker state the level alone changes. -/
def Obligations.VacuumChanges : Prop :=
  (∀ (ms : Nat) (b : Fin 64) (s : State), low s 5 →
     let heard := accepted 5 true s
     (s.picker.state = .gripping → s.picker.gripTimer = some ms → s.outputs.vacuumOn = true →
       s.picker.board = some b → boardState s b = some .ready →
       let u := setBoard b .held (heard.withPicker { s.picker with state := .holding, gripTimer := none })
       still u = true → exec .vacuumOkAssert s = .next (rest u)) ∧
     (s.picker.state ≠ .gripping → still heard = true → exec .vacuumOkAssert s = .next (rest heard))) ∧
  (∀ (b : Fin 64) (r : BoardRun) (s : State), (getAt s.lines.ded 5).filter.level = some true →
     let quiet := accepted 5 false s
     (s.picker.state = .holding → s.picker.board = some b →
       let lost := raise Source.vacuumLost (.board b) quiet
       lost.picker.state = .holding → lost.picker.board = some b → boardRun lost b = some r → r.state = .held →
       let quietly (k : Picker) (w : State) := (w.withPicker k).withOutputs { w.outputs with vacuumOn := false }
       let regrips (w : State) := quietly
         { w.picker with state := .gripping, retry := false, gripTimer := none, vacOffTimer := some 50 } w
       let fails (w : State) := homeward (releaseReservation b (raise Source.gripFailed (.board b)
         (quietly { w.picker with gripTimer := none, vacOffTimer := none } w)))
       let goesOn (w : State) := if r.regrip then fails w else regrips w
       ((∀ t, releaseTab lost b = some t → tabState lost t ≠ some .cutting ∧ tabState lost t ≠ some .verifying) →
         let v := goesOn (modBoard b (fun r => { r with regrip := true, state := .ready }) lost)
         still v = true → exec .vacuumOkDeassert s = .next (rest v)) ∧
       (∀ t, releaseTab lost b = some t → tabState lost t = some .cutting ∨ tabState lost t = some .verifying →
         let port := lost.ports.router
         let idle := (((modBoard b (fun r => { r with regrip := true }) lost).withPorts
             { lost.ports with router := if port.inFlight then stopped port else port }).withRouter
             { lost.router with
               state := .idle, operation := none, presented := false, timer := none
               clearance := lost.router.clearance || port.inFlight }).withProbe
             { lost.probe with state := .idle, work := none, moveTimer := none }
         let follows (ended : State) : Prop :=
           (ended.picker.state = .holding → ended.picker.board = some b → boardState ended b = some .held →
             let v := goesOn (setBoard b .ready ended)
             still v = true → exec .vacuumOkDeassert s = .next (rest v)) ∧
           (ended.picker.state ≠ .holding → boardState ended b ≠ some .held → still ended = true →
             exec .vacuumOkDeassert s = .next (rest ended))
         (∀ op, lost.router.state = .cut → lost.router.operation = some op →
           follows (tabInterrupted raise true op
             (if lost.router.presented then addWear raise ((cutWear op.record + 1) / 2) idle else idle))) ∧
         (∀ w, lost.router.state = .verify → lost.probe.work = some w → follows (tabInterrupted raise false w.op idle)))) ∧
     (s.picker.state = .carrying → s.picker.board = some b → s.picker.stalled = false →
       let dropped := boardLostEarly b
         (raise Source.boardDropped (.board b) (quiet.withOutputs { s.outputs with vacuumOn := false }))
       dropped.picker.stalled = false →
       let u := dropped.withPicker { dropped.picker with board := none, serial := none, nest := none }
       still u = true → exec .vacuumOkDeassert s = .next (rest u)) ∧
     (s.picker.state ≠ .holding → s.picker.state ≠ .carrying → still quiet = true →
       exec .vacuumOkDeassert s = .next (rest quiet)))

/-- A GOOD board may take this bay (R154): the ACTIVE one, else a READY one, and of two the bay A. -/
def mayTake (s : State) (x : Bay) : Prop :=
  ((bayOf s x).state = .active ∧ (x = .b → s.bays.a.state ≠ .active)) ∨
  ((bayOf s x).state = .ready ∧ s.bays.a.state ≠ .active ∧ s.bays.b.state ≠ .active ∧
    (x = .b → s.bays.a.state ≠ .ready))

/-- No stop and no fault record of the stacker's sources keeps it from moving (R153). -/
def mayMove (s : State) : Prop :=
  s.faults.allStop = false ∧ ∀ r ∈ s.faults.waiting ++ s.faults.stack, r.source.val < 13 ∨ 18 < r.source.val

/-- The front is the first board of the release order in WAITING, PRECUT, READY or HELD; the window is the front and the
next K boards after it in WAITING, PRECUT or READY; without a front it is empty (R70).
A grant sends the picker to the front board's pick point and reserves the lowest free nest for it (R83, R84, R130,
R144).
A placement confirmed makes the entry OCCUPIED and the board QUEUED, counts it outstanding, and sends the picker home (R88,
R145).
A stacker cycle begins with the OCCUPIED head entry in hand, FROM_NEST, and for a GOOD board the bay choice with its
ELEVATE (R154). A GOOD board in hand without a bay takes one as soon as it may, in FETCH without leaving it (log entry 11), in PRESENT too,
which R154 does not list (log entry 23), and waits for one in WAIT_BAY once its transfer order is complete, a held-back one
too (R154, R160; log entry 22). -/
def Obligations.GrantReserves : Prop :=
  (∀ s : State,
    let mayLead (b : Fin 64) : Prop := boardState s b ∈ [some .waiting, some .precut, some .ready, some .held]
    let mayFollow (b : Fin 64) : Bool := decide (boardState s b ∈ [some .waiting, some .precut, some .ready])
    (∀ b before after, s.seq.order = before ++ b :: after → (∀ c ∈ before, ¬ mayLead c) → mayLead b →
      front s = some b ∧ window s = b :: (after.filter mayFollow).take s.recipe.depth) ∧
    ((∀ b ∈ s.seq.order, ¬ mayLead b) → front s = none ∧ window s = [])) ∧
  (∀ (b : Fin 64) (d : BoardDef) (p : PanelRec) (r : BoardRun) (n : Fin 3) (s : State),
    s.picker.state = .idle → s.cell.mode = .running → latched s.faults = false →
    (∀ q ∈ s.faults.waiting ++ s.faults.stack, q.source.val < 9 ∨ 12 < q.source.val) →
    (∀ e ∈ s.nests, e.state = .occupied) → s.nests.length < 3 → (∀ e ∈ s.nests, e.nest ≠ n) →
    (∀ m, m < n → ∃ e ∈ s.nests, e.nest = m) →
    front s = some b → boardRun s b = some r → r.state = .ready → Table.get s.recipe.boards b = some d →
    cuttingRecord s = some p →
    let order := Order.approach (d.pickX + p.dx) (d.pickY + p.dy) d.height
    let e : NestEntry := { nest := n, board := b, serial := p.serial, disposition := r.disposition, state := .reserved }
    grant s = (((s.withNests (s.nests ++ [e])).withSeq
        { s.seq with boards := Table.modify b (fun r => { r with nest := some n }) s.seq.boards }).withPorts
        { s.ports with picker := strobed order s.ports.picker }).withPicker
        { s.picker with
          state := .approach, board := some b, serial := some p.serial, nest := some n
          target := some { x := d.pickX + p.dx, y := d.pickY + p.dy, height := d.height }
          retry := false, withdrawn := false, moveTimer := some 3000, stalled := false }) ∧
  (∀ (b : Fin 64) (n : Fin 3) (s : State),
    placementConfirmed b n s = homeward ((s.withNests (s.nests.map fun e =>
        if e.nest = n ∧ e.state = .reserved then { e with state := .occupied } else e)).withSeq
      { s.seq with
        boards := Table.modify b (fun r => { r with state := .queued }) s.seq.boards
        records := s.seq.records.map fun p =>
          if p.state = .cutting then { p with outstanding := p.outstanding + 1 } else p })) ∧
  (∀ (e : NestEntry) (more : List NestEntry) (s : State),
    (s.stacker.state ≠ .idle ∨ ¬ mayMove s → startCycle s = s) ∧
    (s.nests = [] → startCycle s = s) ∧
    (s.nests = e :: more → e.state = .reserved → startCycle s = s) ∧
    (s.nests = e :: more → e.state = .occupied → s.stacker.state = .idle → mayMove s →
      let hand : Hand := { board := e.board, serial := e.serial, disposition := e.disposition, nest := e.nest }
      let fetch : Stacker :=
        { s.stacker with
          state := .fetch, hand := some hand, target := none, slot := none, elevated := false
          transferTimer := some 3000, heldTransfer := none }
      let ports : Ports := { s.ports with transfer := strobed (.fromNest e.nest) s.ports.transfer }
      (e.disposition ≠ .good ∨ (∀ x, ¬ mayTake s x) → startCycle s = (s.withPorts ports).withStacker fetch) ∧
      (∀ x d slot, e.disposition = .good → mayTake s x → (bayOf s x).desc = some d → d.next = some slot →
        startCycle s = (setBay x { bayOf s x with state := .active } (s.withPorts
          { ports with
            elevator := strobed (.elevate x (d.values.base + slot * d.values.pitch)) s.ports.elevator })).withStacker
          { fetch with target := some x, slot := some slot, elevateTimer := some 4000, heldElevate := none }))) ∧
  (∀ (h : Hand) (x : Bay) (d : FillDesc) (slot : Nat) (s : State), s.stacker.hand = some h →
    let open_ : Prop := h.disposition = .good ∧ s.stacker.target = none ∧
      (s.stacker.state = .fetch ∨ s.stacker.state = .checkSlot ∨ s.stacker.state = .present ∨ s.stacker.state = .waitBay)
    (¬ open_ ∨ (∀ y, ¬ mayTake s y) → retarget s = s) ∧
    (open_ → mayTake s x → (bayOf s x).desc = some d → d.next = some slot →
      let order := Order.elevate x (d.values.base + slot * d.values.pitch)
      let taken := setBay x { bayOf s x with state := .active } s
      let k : Stacker :=
        { s.stacker with
          state := if s.stacker.state = .fetch then .fetch else .checkSlot
          target := some x, slot := some slot, elevated := false }
      (mayMove s → retarget s = (taken.withPorts { s.ports with elevator := strobed order s.ports.elevator }).withStacker
        { k with elevateTimer := some 4000, heldElevate := none }) ∧
      (¬ mayMove s → retarget s = taken.withStacker { k with heldElevate := some order })) ∧
    (open_ → s.stacker.state ≠ .fetch → s.ports.transfer.inFlight = false → s.stacker.heldTransfer = none →
      awaitBay s = s.withStacker { s.stacker with state := .waitBay }) ∧
    (¬ open_ ∨ s.stacker.state = .fetch ∨ s.ports.transfer.inFlight = true ∨ s.stacker.heldTransfer.isSome = true →
      awaitBay s = s))

/-! ### The Nest Queue and the stacker (chapter 8) -/

/-- A nest line changes where nothing is placed or fetched (R147): an assertion is NEST_MISMATCH; a deassertion is
NEST_MISMATCH and takes an OCCUPIED board from the queue as LOST.
A nest line confirms the placement within its window (R137), and ends a fetch within its own (R146). -/
def Obligations.NestLinesChange : Prop :=
  (∀ (n : Fin 3) (e : NestEntry) (s : State), s.picker.state ≠ .placing → s.stacker.state ≠ .fetch →
     (low s (nestLine n) →
       let u := raise Source.nestMismatch (.nest n) (accepted (nestLine n) true s)
       still u = true → exec (.nestLineAssert n) s = .next (rest u)) ∧
     ((getAt s.lines.ded (nestLine n)).filter.level = some true →
       let alarm := raise Source.nestMismatch (.nest n) (accepted (nestLine n) false s)
       ((∀ q ∈ alarm.nests, q.nest ≠ n ∨ q.state ≠ .occupied) → still alarm = true →
         exec (.nestLineDeassert n) s = .next (rest alarm)) ∧
       (alarm.nests.find? (fun q => decide (q.nest = n ∧ q.state = .occupied)) = some e →
         let gone := clearBoardNest e.serial e.board (alarm.withNests (alarm.nests.filter fun q => decide (q.nest ≠ n)))
         let u := reportLost e.serial e.board gone
         still u = true → exec (.nestLineDeassert n) s = .next (rest u)))) ∧
  (∀ (n : Fin 3) (b : Fin 64) (e : NestEntry) (h : Hand) (others : List NestEntry) (s : State),
     (low s (nestLine n) → s.picker.state = .placing → s.picker.nest = some n → s.picker.board = some b →
       s.picker.windowTimer.isSome = true → (∃ q ∈ s.nests, q.nest = n ∧ q.state = .reserved) →
       let u := placementConfirmed b n (accepted (nestLine n) true s)
       still u = true → exec (.nestLineAssert n) s = .next (rest u)) ∧
     ((getAt s.lines.ded (nestLine n)).filter.level = some true → s.picker.state ≠ .placing →
       s.nests = e :: others → e.nest = n → e.state = .occupied → s.stacker.hand = some h → h.nest = n →
       s.stacker.state = .fetch → s.stacker.nestClear.isSome = true →
       let u := fetchEnds h (accepted (nestLine n) false s)
       still u = true → exec (.nestLineDeassert n) s = .next (rest u)))

/-- FROM_NEST completes (R146): the fetch ends where the nest line is deasserted, and waits 200 ms for it otherwise;
at that window's end it has failed, the entry stays and the stacker is IDLE; that an ELEVATE held back at that moment is
dropped is the model's choice (log entry 38).
A fetch that ends removes the entry from the queue and, where the panel's runtime records still exist, the nest from the
board's record (R89, R146); it sends a GOOD board without a bay to WAIT_BAY, one with a bay to CHECK_SLOT, where the slot is
read at once if the ELEVATE is complete, and a SCRAP board to the chute; an order that falls due while the stacker may not
move is held back (R153, R155, R156, R159). -/
def Obligations.FetchFromTheNest : Prop :=
  (∀ (n : Fin 3) (h : Hand) (ms : Nat) (s : State), s.stacker.hand = some h →
     (s.ports.transfer.inFlight = true → s.ports.transfer.record = some (.fromNest n) →
       let arrived := ((accepted 2 true s).withPorts { s.ports with transfer := landed s.ports.transfer }).withStacker
         { s.stacker with transferTimer := none }
       ((getAt s.lines.ded (nestLine h.nest)).filter.level = some true →
         let u := arrived.withStacker { arrived.stacker with nestClear := some 200 }
         still u = true → exec .fromNestDone s = .next (rest u)) ∧
       ((getAt s.lines.ded (nestLine h.nest)).filter.level ≠ some true → still (fetchEnds h arrived) = true →
         exec .fromNestDone s = .next (rest (fetchEnds h arrived)))) ∧
     (s.stacker.nestClear = some ms →
       let failed := raise Source.nestMismatch (.nest h.nest)
         (s.withStacker { s.stacker with nestClear := none })
       let u := (failed.withPorts { failed.ports with elevator := Port.stop failed.ports.elevator }).withStacker
         Stacker.reset
       still u = true → exec .nestClearWindowTimeout s = .next (rest u))) ∧
  (∀ (h : Hand) (s : State),
     let gone := (s.withNests (s.nests.filter fun e => decide (e.nest ≠ h.nest))).withSeq
       { s.seq with
         boards :=
           if s.seq.runOf = some h.serial then Table.modify h.board (fun r => { r with nest := none }) s.seq.boards
           else s.seq.boards }
     let at_ (st : StackerState) := gone.withStacker { s.stacker with state := st, nestClear := none }
     (h.disposition = .good → s.stacker.target = none → fetchEnds h s = at_ .waitBay) ∧
     (∀ x, h.disposition = .good → s.stacker.target = some x →
       (s.stacker.elevated = false ∨ s.ports.transfer.inFlight = true → fetchEnds h s = at_ .checkSlot) ∧
       (∀ slot, s.stacker.elevated = true → s.stacker.slot = some slot → s.ports.transfer.inFlight = false →
         s.stacker.heldTransfer = none →
         ((getAt s.lines.ded 8).filter.level ≠ some true → mayMove s →
           fetchEnds h s = (gone.withPorts { s.ports with transfer := strobed .toMouth s.ports.transfer }).withStacker
             { s.stacker with state := .present, nestClear := none, transferTimer := some 3000, heldTransfer := none }) ∧
         ((getAt s.lines.ded 8).filter.level ≠ some true → ¬ mayMove s →
           fetchEnds h s = gone.withStacker
             { s.stacker with state := .present, nestClear := none, heldTransfer := some .toMouth }) ∧
         ((getAt s.lines.ded 8).filter.level = some true →
           let passed := advance x (setSlot x slot .blocked (at_ .checkSlot))
           fetchEnds h s = if (bayOf passed x).state = .active then elevateFor x passed else loseTarget passed))) ∧
     (h.disposition ≠ .good → mayMove s →
       fetchEnds h s = (gone.withPorts { s.ports with transfer := strobed .toChute s.ports.transfer }).withStacker
         { s.stacker with state := .divert, nestClear := none, transferTimer := some 3000, heldTransfer := none }) ∧
     (h.disposition ≠ .good → ¬ mayMove s →
       fetchEnds h s = gone.withStacker
         { s.stacker with state := .divert, nestClear := none, heldTransfer := some .toChute }))

/-- ELEVATE completes (R156): while a transfer order is under way only the mark of the completed move is set; otherwise
SLOT_OCCUPIED is read: a free slot sends the board to the mouth, an occupied one is BLOCKED and passed over.
TO_MOUTH completes (R157): the stroke begins with the push where the pusher is home, and waits 1.5 s for home
otherwise. -/
def Obligations.BoardGoesToTheMouth : Prop :=
  (∀ (y x : Bay) (height slot : Nat) (s : State),
     s.ports.elevator.inFlight = true → s.ports.elevator.record = some (.elevate y height) →
     s.stacker.target = some x → s.stacker.slot = some slot →
     let arrived := ((accepted 3 true s).withPorts { s.ports with elevator := landed s.ports.elevator }).withStacker
       { s.stacker with elevateTimer := none, elevated := true }
     (s.stacker.state ≠ .checkSlot ∨ s.ports.transfer.inFlight = true → still arrived = true →
       exec .elevateDone s = .next (rest arrived)) ∧
     (s.stacker.state = .checkSlot → s.ports.transfer.inFlight = false → s.stacker.heldTransfer = none →
       (getAt s.lines.ded 8).filter.level ≠ some true → s.faults.allStop = false →
       (∀ r ∈ s.faults.waiting ++ s.faults.stack, r.source.val < 13 ∨ 18 < r.source.val) →
       let u := (arrived.withPorts
         { arrived.ports with transfer := strobed .toMouth s.ports.transfer }).withStacker
         { arrived.stacker with state := .present, transferTimer := some 3000, heldTransfer := none }
       still u = true → exec .elevateDone s = .next (rest u)) ∧
     (s.stacker.state = .checkSlot → s.ports.transfer.inFlight = false → s.stacker.heldTransfer = none →
       (getAt s.lines.ded 8).filter.level = some true →
       let passed := advance x (setSlot x slot .blocked arrived)
       let u := if (bayOf passed x).state = .active then elevateFor x passed else loseTarget passed
       still u = true → exec .elevateDone s = .next (rest u))) ∧
  (∀ (x : Bay) (s : State),
     s.ports.transfer.inFlight = true → s.ports.transfer.record = some .toMouth →
     s.stacker.state = .present → s.stacker.target = some x → s.faults.allStop = false →
     (∀ r ∈ s.faults.waiting ++ s.faults.stack, r.source.val < 13 ∨ 18 < r.source.val) →
     let arrived := (accepted 2 true s).withPorts { s.ports with transfer := landed s.ports.transfer }
     ((getAt s.lines.ded 7).filter.level = some true →
       let u := (arrived.withStacker
         { s.stacker with state := .push, transferTimer := none, homeWait := none, leave := some 300 }).withOutputs
         { s.outputs with push := true }
       still u = true → exec .toMouthDone s = .next (rest u)) ∧
     ((getAt s.lines.ded 7).filter.level ≠ some true →
       let u := arrived.withStacker { s.stacker with state := .push, transferTimer := none, homeWait := some 1500 }
       still u = true → exec .toMouthDone s = .next (rest u)))

/-- The stroke at its sensor (R157, R158): home asserts and the push begins; home is left and the return is timed; home
asserts again and SLOT_OCCUPIED is read: the slot FILLED and the board STACKED, or the slot BLOCKED, PUSH_FAULT, and the
board LOST. That the push begins at home also while the stacker is not free to move is the model's choice (log entry 36).
A push that misses its home, leave or return time has failed: PUSH off, PUSH_FAULT with the bay, the slot BLOCKED,
the board LOST and the stacker IDLE (R157).
The outcome of a QUEUED board, STACKED with its bay and slot, CHUTED or LOST, adds one to that tally of the record with its
serial and takes one from its outstanding count; the board's own record changes with it where the runtime records are still
that panel's. A board LOST before it was QUEUED adds one to the lost tally of the CUTTING record and gives up its reserved
nest; a reservation released leaves the queue and the board's nest absent (R51, R88, R89, R144). -/
def Obligations.PushSettlesTheSlot : Prop :=
  (∀ (ms : Nat) (h : Hand) (x : Bay) (slot : Nat) (d : FillDesc) (s : State),
     s.stacker.hand = some h → s.stacker.target = some x → s.stacker.slot = some slot →
     (low s 7 → s.stacker.homeWait = some ms → s.stacker.recovering = false →
       let u := ((accepted 7 true s).withStacker { s.stacker with homeWait := none, leave := some 300 }).withOutputs
         { s.outputs with push := true }
       still u = true → exec .pusherHomeAssert s = .next (rest u)) ∧
     ((getAt s.lines.ded 7).filter.level = some true → s.stacker.leave = some ms →
       let u := (accepted 7 false s).withStacker { s.stacker with leave := none, return_ := some 1500 }
       still u = true → exec .pusherHomeDeassert s = .next (rest u)) ∧
     (low s 7 → s.stacker.homeWait = none → s.stacker.return_ = some ms → (bayOf s x).desc = some d →
       let home := ((accepted 7 true s).withStacker Stacker.reset).withOutputs { s.outputs with push := false }
       let map (v : SlotState) := (bayOf s x).map.set slot v
       ((getAt s.lines.ded 8).filter.level = some true →
         let filled := setBay x
           { bayOf s x with map := map (.filled h.board h.serial), desc := some { d with filled := d.filled + 1 } } home
         let u := advance x (reportStacked h.serial h.board x slot filled)
         still u = true → exec .pusherHomeAssert s = .next (rest u)) ∧
       ((getAt s.lines.ded 8).filter.level ≠ some true →
         let u := advance x (raise Source.pushFault (.bay x)
           (reportLost h.serial h.board (setBay x { bayOf s x with map := map .blocked } home)))
         still u = true → exec .pusherHomeAssert s = .next (rest u)))) ∧
  (∀ (ms : Nat) (h : Hand) (x : Bay) (slot : Nat) (s : State),
     s.stacker.hand = some h → s.stacker.target = some x → s.stacker.slot = some slot →
     let off := (s.withStacker Stacker.reset).withOutputs { s.outputs with push := false }
     let alarm := raise Source.pushFault (.bay x) off
     let u := advance x (reportLost h.serial h.board (setSlot x slot .blocked alarm))
     still u = true →
       (s.stacker.homeWait = some ms → exec .homeWaitTimeout s = .next (rest u)) ∧
       (s.stacker.leave = some ms → exec .leaveTimeout s = .next (rest u)) ∧
       (s.stacker.return_ = some ms → exec .returnTimeout s = .next (rest u))) ∧
  (∀ (serial : Serial) (b : Fin 64) (x : Bay) (slot : Nat) (s : State),
     let reported (tally : PanelRec → PanelRec) (becomes : BoardRun → BoardRun) := s.withSeq
       { s.seq with
         records := s.seq.records.map fun r =>
           if r.serial = serial then tally { r with outstanding := r.outstanding - 1 } else r
         boards := if s.seq.runOf = some serial then Table.modify b becomes s.seq.boards else s.seq.boards }
     reportStacked serial b x slot s = reported (fun r => { r with stacked := r.stacked + 1 })
       (fun r => { r with state := .stacked, bay := some x, slot := some slot }) ∧
     reportChuted serial b s = reported (fun r => { r with chuted := r.chuted + 1 }) (fun r => { r with state := .chuted }) ∧
     reportLost serial b s = reported (fun r => { r with lost := r.lost + 1 }) (fun r => { r with state := .lost })) ∧
  (∀ (b : Fin 64) (s : State),
     let unreserved := s.withNests (s.nests.filter fun e => !decide (e.board = b ∧ e.state = .reserved))
     releaseReservation b s = unreserved.withSeq
       { s.seq with boards := Table.modify b (fun r => { r with nest := none }) s.seq.boards } ∧
     boardLostEarly b s = unreserved.withSeq
       { s.seq with
         boards := Table.modify b (fun r => { r with nest := none, state := .lost }) s.seq.boards
         records := s.seq.records.map fun p => if p.state = .cutting then { p with lost := p.lost + 1 } else p })

/-- The chute (R159): TO_CHUTE completes and the gate opens for 1 s; a CHUTE_PASS edge makes the board CHUTED; the end of
the window is CHUTE_MISSED and the board LOST; either leaves the gate shut and the stacker IDLE. -/
def Obligations.ChuteDiverts : Prop :=
  ∀ (h : Hand) (ms : Nat) (s : State), s.stacker.hand = some h →
    (s.ports.transfer.inFlight = true → s.ports.transfer.record = some .toChute →
      let u := (((accepted 2 true s).withPorts { s.ports with transfer := landed s.ports.transfer }).withOutputs
        { s.outputs with chuteGate := true }).withStacker
        { s.stacker with transferTimer := none, chuteWindow := some 1000 }
      still u = true → exec .toChuteDone s = .next (rest u)) ∧
    (s.outputs.chuteGate = true → s.stacker.chuteWindow = some ms →
      let u := ((reportChuted h.serial h.board (accepted 14 true s)).withOutputs
        { s.outputs with chuteGate := false }).withStacker Stacker.reset
      still u = true → exec .chutePass s = .next (rest u)) ∧
    (s.outputs.chuteGate = false → still (accepted 14 true s) = true →
      exec .chutePass s = .next (rest (accepted 14 true s))) ∧
    (s.stacker.chuteWindow = some ms →
      let lost := reportLost h.serial h.board
        (raise Source.chuteMissed (.board h.board) (s.withStacker { s.stacker with chuteWindow := none }))
      let u := (lost.withOutputs { lost.outputs with chuteGate := false }).withStacker Stacker.reset
      still u = true → exec .chuteWindowTimeout s = .next (rest u))

/-- A transfer or elevator order that times out is stopped, held back, and raised with the board or the bay (R155). -/
def Obligations.StackerOrdersTimeOut : Prop :=
  ∀ (h : Hand) (x : Bay) (height ms : Nat) (o : Order) (s : State), s.stacker.hand = some h →
    (s.ports.transfer.inFlight = true → s.ports.transfer.record = some o → s.stacker.transferTimer = some ms →
      let u := raise Source.transferTimeout (.board h.board)
        ((s.withPorts { s.ports with transfer := stopped s.ports.transfer }).withStacker
          { s.stacker with transferTimer := none, heldTransfer := some o })
      still u = true → exec .transferTimeout s = .next (rest u)) ∧
    (s.ports.elevator.inFlight = true → s.ports.elevator.record = some (.elevate x height) →
      s.stacker.elevateTimer = some ms →
      let u := raise Source.elevatorTimeout (.bay x)
        ((s.withPorts { s.ports with elevator := stopped s.ports.elevator }).withStacker
          { s.stacker with elevateTimer := none, heldElevate := some (.elevate x height) })
      still u = true → exec .elevatorTimeout s = .next (rest u))

/-- A bay comes and goes (R149, R160): an ABSENT bay becomes PRESENT; a PRESENT or COMPLETE bay becomes ABSENT with
BAY_x_CHANGED; a READY or ACTIVE one becomes ABSENT with BAY_PULLED. The board in hand whose target bay is withdrawn loses
it, or in PUSH becomes LOST with the stacker IDLE; that a held-back ELEVATE is then dropped and a held-back TO_MOUTH kept is
the model's choice (log entry 22).
A slot settles and the descriptor advances (R152): the next visit, or the bay COMPLETE with its filled count where it
is retired, out of visits or at its limit. That the retire-pending mark is clear in COMPLETE is the model's choice (log entry
21). -/
def Obligations.BaysFillAndChange : Prop :=
  (∀ (x : Bay) (s : State),
     let gone : BayRec := { state := .absent, desc := none, map := [], retire := false }
     (low s (presenceLine x) → (bayOf s x).state = .absent →
       let u := raiseNotice (bayChangedNotice x) [1]
         (setBay x { bayOf s x with state := .present } (accepted (presenceLine x) true s))
       still u = true → exec (.bayPresentAssert x) s = .next (rest u)) ∧
     ((getAt s.lines.ded (presenceLine x)).filter.level = some true →
       let out := setBay x gone (accepted (presenceLine x) false s)
       ((bayOf s x).state = .present ∨ (bayOf s x).state = .complete →
         let u := raiseNotice (bayChangedNotice x) [0] out
         still u = true → exec (.bayPresentDeassert x) s = .next (rest u)) ∧
       ((bayOf s x).state = .ready ∨ ((bayOf s x).state = .active ∧ (raise Source.bayPulled (.bay x) out).stacker.target ≠ some x) →
         let u := raise Source.bayPulled (.bay x) out
         still u = true → exec (.bayPresentDeassert x) s = .next (rest u)) ∧
       (∀ h, (bayOf s x).state = .active →
         let pulled := raise Source.bayPulled (.bay x) out
         pulled.stacker.target = some x → pulled.stacker.hand = some h →
         (pulled.stacker.state = .push →
           let u := ((reportLost h.serial h.board pulled).withOutputs
             { pulled.outputs with push := false }).withStacker Stacker.reset
           still u = true → exec (.bayPresentDeassert x) s = .next (rest u)) ∧
         (pulled.stacker.state = .fetch ∨ pulled.stacker.state = .checkSlot ∨ pulled.stacker.state = .present →
           let elevator := pulled.ports.elevator
           let u := (pulled.withPorts
             { pulled.ports with elevator := if elevator.inFlight then stopped elevator else elevator }).withStacker
             { pulled.stacker with
               target := none, slot := none, elevated := false, elevateTimer := none, heldElevate := none }
           still u = true → exec (.bayPresentDeassert x) s = .next (rest u))))) ∧
  (∀ (x : Bay) (d : FillDesc) (s : State), (bayOf s x).desc = some d →
     let visits := (d.values.slots + d.values.step - 1) / d.values.step
     let next :=
       if visits ≤ d.visit + 1 then none
       else some (if d.values.dir = .bottomUp then (d.visit + 1) * d.values.step
         else d.values.slots - 1 - (d.visit + 1) * d.values.step)
     let r : BayRec := { bayOf s x with desc := some { d with visit := d.visit + 1, next := next } }
     let ends : Prop := (bayOf s x).retire = true ∨ visits ≤ d.visit + 1 ∨ d.values.limit ≤ d.filled
     (¬ ends → advance x s = setBay x r s) ∧
     (ends → advance x s =
       raiseNotice (bayCompleteNotice x) [b8 d.filled] (setBay x { r with state := .complete, retire := false } s)))

/-! ### The field lines (chapter 9) -/

/-- A line's filter takes a new level after three consecutive samples that disagree with it, and keeps it through fewer
(R164). -/
def Obligations.FilterNeedsThreeSamples : Prop :=
  ∀ (l v : Bool) (f : Filter), f.level = some l → f.count = 0 → v ≠ l →
    (Filter.sample v f).level = some l ∧ (Filter.sample v (Filter.sample v f)).level = some l ∧
    (Filter.sample v (Filter.sample v (Filter.sample v f))).level = some v ∧
    (Filter.sample v (Filter.sample l (Filter.sample v (Filter.sample v f)))).level = some l

/-- Acceptances that consumers act on at once (R164, R167, R168): the stop chain opening raises STOP_CHAIN and its
closing nothing; DRIVE_FAULT asserting and DOOR_CLOSED deasserting raise their faults, the opposite changes nothing; a
SLOT_OCCUPIED or PROBE_BEAM change is only stored. -/
def Obligations.LinesAreHandedOver : Prop :=
  ∀ (v : Bool) (l : Fin 16) (s : State),
    let chain (v : Bool) := s.withLines { s.lines with stop := { level := some v, count := 0, seen := v } }
    (s.lines.stop.level ≠ some true → still (raise Source.stopChain .none (chain true)) = true →
      exec .stopChainOpen s = .next (rest (raise Source.stopChain .none (chain true)))) ∧
    (still (chain false) = true → exec .stopChainClosed s = .next (rest (chain false))) ∧
    (low s 4 → still (raise Source.driveFault (.line 4) (accepted 4 true s)) = true →
      exec (.driveFaultChange true) s = .next (rest (raise Source.driveFault (.line 4) (accepted 4 true s)))) ∧
    ((getAt s.lines.ded 4).filter.level = some true → still (accepted 4 false s) = true →
      exec (.driveFaultChange false) s = .next (rest (accepted 4 false s))) ∧
    ((getAt s.lines.ded 15).filter.level ≠ some false →
      still (raise Source.doorOpen (.line 15) (accepted 15 false s)) = true →
      exec (.doorClosedChange false) s = .next (rest (raise Source.doorOpen (.line 15) (accepted 15 false s)))) ∧
    (low s 15 → still (accepted 15 true s) = true →
      exec (.doorClosedChange true) s = .next (rest (accepted 15 true s))) ∧
    (l = 6 ∨ l = 8 → still (accepted l v s) = true →
      exec (.lineAcceptance l v) s = .next (rest (accepted l v s)))

/-- An aux acceptance that changes the level sets the cause latch where the mode detects it, and the role of an enabled line
acts at once: NOTICE raises AUX_n; FAULT raises its source and HOLD takes the hold in RUNNING, each leaving the latch
standing while a level mode's level stands and clear otherwise; WAKE wakes a PARKED cell without a halt latch in the same
way. Without a detection the level alone changes, without the enable the latch too (R54, R62, R169, R170). -/
def Obligations.AuxLinesDetect : Prop :=
  ∀ (n : Fin 4) (high : Bool) (a : AuxLine) (s : State), getAt s.lines.aux n = a → a.filter.level = some (!high) →
    a.latch = .clear →
    let put (latch : Latch) := s.withLines
      { s.lines with
        aux := setAt s.lines.aux n
          { a with filter := { level := some high, count := 0, seen := high }, latch := latch } }
    let detects : Bool := match a.mode with
      | .highLevel | .rising => high
      | .lowLevel | .falling => !high
      | .both => true
    (detects = false → still (put .clear) = true → exec (.auxLineAccept n high) s = .next (rest (put .clear))) ∧
    (detects = true → a.enable = false → still (put .set) = true →
      exec (.auxLineAccept n high) s = .next (rest (put .set))) ∧
    (detects = true → a.enable = true → a.role = .notice → still (raiseNotice (auxNotice n) [] (put .set)) = true →
      exec (.auxLineAccept n high) s = .next (rest (raiseNotice (auxNotice n) [] (put .set)))) ∧
    (let after : Latch := if a.mode = .lowLevel ∨ a.mode = .highLevel then .standing else .clear
     (detects = true → a.enable = true → a.role = .fault → still s = true →
        let u := raise (auxSource n) (.line (auxDetail n)) (put after)
        still u = true → exec (.auxLineAccept n high) s = .next (rest u)) ∧
     (detects = true → a.enable = true → a.role = .hold → still s = true → s.cell.mode = .running →
        latched s.faults = false →
        let u := (put after).withCell { s.cell with mode := .holding, holdLatch := true }
        still u = true → exec (.auxLineAccept n high) s = .next (rest u)) ∧
     (detects = true → a.enable = true → a.role = .wake → still s = true → s.cell.mode = .parked →
        s.faults.allStop = false → s.faults.cutStop = false →
        (∀ m, m ≠ n → (getAt s.lines.aux m).role = .wake → (getAt s.lines.aux m).latch = .clear) →
        let u := startSpindle ((clearNotice Notice.parked (put after)).withCell { s.cell with mode := .waking })
        still u = true → exec (.auxLineAccept n high) s = .next (rest u)))

/-! ### The Fault Service (chapter 10) -/

/-- A raise of a source with a record counts a repeat and sets the latch of the record's level; another source's record
is untouched (R176, R178).
A raise of a source without a record adds one at its level with the detail; it is taken into service at once, FAULT_TAKEN raised, where
the stack is empty or its top less urgent and no pending record goes before it, and waits otherwise (R176, R178, R179).
A halt latch set in RUNNING, HOLDING, HELD or IDLE halts the cell with that mode to return to; in WAKING the return
mode stays; the other modes stay (R57). -/
def Obligations.RaisesAreRecorded : Prop :=
  (∀ (src : Source) (d : Detail) (r : FaultRec) (s : State), recordOf s.faults src = some r →
     let count (q : FaultRec) : FaultRec :=
       if q.source = src then { q with repeats := if q.repeats < 255 then q.repeats + 1 else 255 } else q
     let u := raiseRecord src d s
     u.faults.waiting = s.faults.waiting.map count ∧ u.faults.stack = s.faults.stack.map count ∧
     u.faults.levels = s.faults.levels ∧
     (u.faults.allStop = true ↔ s.faults.allStop = true ∨ r.level ≤ 1) ∧
     (u.faults.cutStop = true ↔ s.faults.cutStop = true ∨ (2 ≤ r.level ∧ r.level ≤ 4)) ∧ u.notices = s.notices) ∧
  (∀ (src : Source) (d : Detail) (s : State), recordOf s.faults src = none →
     let r : FaultRec := { source := src, level := getAt s.faults.levels src, detail := d, repeats := 0 }
     let u := raiseRecord src d s
     (u.faults.allStop = true ↔ s.faults.allStop = true ∨ r.level ≤ 1) ∧
     (u.faults.cutStop = true ↔ s.faults.cutStop = true ∨ (2 ≤ r.level ∧ r.level ≤ 4)) ∧
     ((∀ top ∈ s.faults.stack.head?, top.level ≤ r.level) → (∀ top ∈ s.faults.stack.head?, ∀ q ∈ s.faults.waiting, top.level ≤ q.level) →
       s.faults.stack ≠ [] → u.faults.waiting = s.faults.waiting ++ [r] ∧ u.faults.stack = s.faults.stack) ∧
     ((∀ top ∈ s.faults.stack.head?, r.level < top.level) →
       (∀ q ∈ s.faults.waiting, r.level < q.level ∨ (r.level = q.level ∧ src < q.source)) →
       u.faults.waiting = s.faults.waiting ∧ u.faults.stack = r :: s.faults.stack ∧
         (getAt u.notices Notice.faultTaken).raised = true)) ∧
  (∀ s : State, latched s.faults = true →
     ((s.cell.mode = .running ∨ s.cell.mode = .holding ∨ s.cell.mode = .held ∨ s.cell.mode = .idle) →
       haltCell s = s.withCell { s.cell with mode := .halted, ret := some s.cell.mode, idleTimer := none }) ∧
     (s.cell.mode = .waking → haltCell s = s.withCell { s.cell with mode := .halted, idleTimer := none }) ∧
     ((s.cell.mode = .unconfigured ∨ s.cell.mode = .halted ∨ s.cell.mode = .parked) → haltCell s = s))

/-- A raise that sets ALL_STOP anew stops every unit at that moment (R57, R111, R125, R140, R161): the spindle turned off
and the restart mark set where SPINDLE_RUN was on, the orders on the ports stopped, the picker's stalled and the stacker's
held back, PUSH off, the router IDLE. Any other raise touches no unit.
What was stopped or held back goes on: a stalled picker move is presented again without a halt latch and a PICKER_TIMEOUT
record (R129); a CUT held back is formed and presented without a halt latch and AT_SPEED (R94); the stacker's orders and
stroke are presented when it is free to move, and a push cut short is recovered (R153, R157, R158, R161); that a stroke held
back runs its home wait only then is the model's choice (log entry 36). -/
def Obligations.AllStopStopsTheUnits : Prop :=
  (∀ (src : Source) (d : Detail) (s : State),
    let r := raiseRecord src d s
    let u := raise src d s
    (¬ (r.faults.allStop = true ∧ s.faults.allStop = false) → u = r ∧ r.ports = s.ports ∧ r.outputs = s.outputs ∧
      r.spindle = s.spindle ∧ r.router = s.router ∧ r.picker = s.picker ∧ r.stacker = s.stacker) ∧
    (r.faults.allStop = true → s.faults.allStop = false →
      u.outputs.push = false ∧ u.router.state = .idle ∧
      ((s.spindle.state = .spinup ∨ s.spindle.state = .atSpeed) → s.outputs.spindleRun = true →
        u.spindle.state = .coasting ∧ u.outputs.spindleRun = false ∧ u.outputs.speedRef = 0 ∧ u.cell.restart = true) ∧
      (s.outputs.spindleRun = false → u.spindle = s.spindle ∧ u.cell.restart = s.cell.restart) ∧
      (s.router.state ≠ .idle → s.ports.router.inFlight = true →
        u.ports.router = stopped s.ports.router ∧ u.router.clearance = true) ∧
      (s.ports.picker.inFlight = true → u.ports.picker = stopped s.ports.picker ∧ u.picker.stalled = true) ∧
      (∀ o, s.ports.transfer.inFlight = true → s.ports.transfer.record = some o →
        u.ports.transfer = stopped s.ports.transfer ∧ u.stacker.heldTransfer = some o) ∧
      (∀ o, s.ports.elevator.inFlight = true → s.ports.elevator.record = some o →
        u.ports.elevator = stopped s.ports.elevator ∧ u.stacker.heldElevate = some o))) ∧
  (∀ (o : Order) (s : State),
    let mayGo : Prop := s.faults.allStop = false ∧ s.faults.cutStop = false ∧
      ∀ r ∈ s.faults.waiting ++ s.faults.stack, r.source ≠ Source.pickerTimeout
    let due : Prop :=
      (s.picker.state = .approach ∧ ∃ g, s.picker.target = some g ∧ o = .approach g.x g.y g.height) ∨
      (s.picker.state = .carrying ∧ ((∃ n, s.picker.nest = some n ∧ o = .carry n) ∨
        (s.picker.nest = none ∧ s.ports.picker.record = some o))) ∨
      (s.picker.state = .returning ∧ o = .home)
    (s.picker.stalled = true → mayGo → due →
      presentStalled s = (s.withPorts { s.ports with picker := strobed o s.ports.picker }).withPicker
        { s.picker with moveTimer := some 3000, stalled := false }) ∧
    (s.picker.stalled = false ∨ ¬ mayGo → presentStalled s = s)) ∧
  (∀ (op : Operation) (s : State), s.router.state = .cut → s.router.operation = some op → s.router.presented = false →
    s.ports.router.inFlight = false →
    let mayCut : Prop := s.faults.allStop = false ∧ s.faults.cutStop = false ∧ s.spindle.state = .atSpeed
    let feed := effectiveFeed s.router.life s.router.wear s.router.baseFeed s.router.override op.attempt
    let time := (100 * op.record.length + feed - 1) / feed
    let cut := Order.cut (op.record.x + op.dx) (op.record.y + op.dy) op.record.dir op.record.length feed
    (mayCut → presentHeldCut s = (s.withPorts { s.ports with router := strobed cut s.ports.router }).withRouter
      { s.router with presented := true, timer := some (2 * time + 1000), sag := 0 }) ∧
    (¬ mayCut → presentHeldCut s = s)) ∧
  (∀ s : State,
    let k := s.stacker
    (mayMove s → presentHeldBack s = (s.withPorts
        { s.ports with
          transfer := match k.heldTransfer with | some o => strobed o s.ports.transfer | none => s.ports.transfer
          elevator := match k.heldElevate with | some o => strobed o s.ports.elevator | none => s.ports.elevator
          }).withStacker
        { k with
          transferTimer := if k.heldTransfer.isSome then some 3000 else k.transferTimer
          elevateTimer := if k.heldElevate.isSome then some 4000 else k.elevateTimer
          heldTransfer := none, heldElevate := none }) ∧
    (¬ mayMove s → presentHeldBack s = s)) ∧
  (∀ (h : Hand) (x : Bay) (slot : Nat) (d : FillDesc) (s : State),
    let home : Prop := (getAt s.lines.ded 7).filter.level = some true
    let pushing (k : Stacker) := (s.withStacker { k with homeWait := none, leave := some 300 }).withOutputs
      { s.outputs with push := true }
    (s.stacker.state ≠ .push ∨ ¬ mayMove s ∨ (s.stacker.recovery = false ∧ s.stacker.heldStroke = false) →
      resumePush s = s) ∧
    (s.stacker.state = .push → mayMove s → s.stacker.recovery = false → s.stacker.heldStroke = true →
      let k : Stacker := { s.stacker with heldStroke := false }
      (home → resumePush s = pushing k) ∧
      (¬ home → resumePush s = s.withStacker { k with homeWait := some 1500 })) ∧
    (s.stacker.state = .push → mayMove s → s.stacker.recovery = true →
      let k : Stacker := { s.stacker with recovery := false, heldStroke := false }
      (¬ home → resumePush s = s.withStacker { k with recovering := true, homeWait := some 1500 }) ∧
      (home → s.stacker.hand = some h → s.stacker.target = some x → s.stacker.slot = some slot →
        (bayOf s x).desc = some d →
        ((getAt s.lines.ded 8).filter.level ≠ some true → resumePush s = pushing { k with recovering := false }) ∧
        ((getAt s.lines.ded 8).filter.level = some true →
          let filled := setBay x
            { bayOf s x with
              map := (bayOf s x).map.set slot (.filled h.board h.serial)
              desc := some { d with filled := d.filled + 1 } } (s.withStacker Stacker.reset)
          resumePush s = advance x (reportStacked h.serial h.board x slot filled)))))

/-! ### What every step keeps -/

/-- The settings lie in their ranges (R13, R39, R97, R98, R107, R108, R114, R132, R175). -/
def settingsInRange (s : State) : Prop :=
  (20000 ≤ s.spindle.setpoint ∧ s.spindle.setpoint ≤ 60000) ∧ (25 ≤ s.router.override ∧ s.router.override ≤ 150) ∧
  (5 ≤ s.spindle.setTime ∧ s.spindle.setTime ≤ 80) ∧ s.spindle.parkTime ≤ 60 ∧
  (1 ≤ s.probe.settings.points ∧ s.probe.settings.points ≤ 32) ∧ s.probe.settings.allowance ≤ 3 ∧
  (1 ≤ s.probe.settings.settle ∧ s.probe.settings.settle ≤ 20) ∧
  (50 ≤ s.picker.gripTime ∧ s.picker.gripTime ≤ 1000) ∧ (10 ≤ s.picker.blowTime ∧ s.picker.blowTime ≤ 200) ∧
  s.recipe.depth ≤ 3 ∧ getAt s.faults.levels Source.stopChain = 0 ∧ getAt s.faults.levels Source.doorOpen = 1

/-- The records of the Fault Service (R178, R179): no source has two, the stack's levels grow more urgent from bottom to
top, no pending record is more urgent than the top, and an empty stack leaves nothing pending. -/
def faultRecordsOrdered (s : State) : Prop :=
  ((s.faults.waiting ++ s.faults.stack).map (·.source)).Nodup ∧
  s.faults.stack.Pairwise (fun above below => above.level < below.level) ∧
  (∀ top ∈ s.faults.stack.head?, ∀ q ∈ s.faults.waiting, top.level ≤ q.level) ∧
  (s.faults.stack = [] → s.faults.waiting = []) ∧
  (∀ r ∈ s.faults.waiting ++ s.faults.stack, r.level ≤ 7) ∧ (∀ src, getAt s.faults.levels src ≤ 7)

/-- The Nest Queue (R143): at most three entries, no nest twice, and every entry but the newest OCCUPIED. -/
def nestQueueOrdered (s : State) : Prop :=
  s.nests.length ≤ 3 ∧ (s.nests.map (·.nest)).Nodup ∧ s.nests.Pairwise (fun older _ => older.state = .occupied)

/-- At most two Panel Records, with serials of their own, and at most one bay ACTIVE (R46, R47, R148). -/
def runsAndBaysSingle (s : State) : Prop :=
  s.seq.records.length ≤ 2 ∧ (s.seq.records.map (·.serial)).Nodup ∧
  ¬ (s.bays.a.state = .active ∧ s.bays.b.state = .active)

/-- The interlock of the spindle, the latches and the mode (R57, R103, R111): SPINDLE_RUN is on exactly in SPINUP and
AT_SPEED, with the setpoint as its reference; never under ALL_STOP; and no cell runs under a halt latch. -/
def spindleInterlocked (s : State) : Prop :=
  (s.outputs.spindleRun = true ↔ s.spindle.state = .spinup ∨ s.spindle.state = .atSpeed) ∧
  (s.outputs.spindleRun = true → s.outputs.speedRef = s.spindle.setpoint) ∧
  (s.outputs.spindleRun = false → s.outputs.speedRef = 0) ∧
  (s.faults.allStop = true → s.outputs.spindleRun = false) ∧
  (s.faults.allStop = true ∨ s.faults.cutStop = true →
    s.cell.mode = .unconfigured ∨ s.cell.mode = .halted ∨ s.cell.mode = .parked)

/-- No command takes a setting out of its range. -/
def Obligations.SettingsStayInRange : Prop :=
  ∀ s t : State, settingsInRange s → step s = .next t → settingsInRange t

/-- No command brings the records of the Fault Service out of their order. -/
def Obligations.FaultRecordsStayOrdered : Prop :=
  ∀ s t : State, faultRecordsOrdered s → step s = .next t → faultRecordsOrdered t

/-- No command brings the Nest Queue out of its order. -/
def Obligations.NestQueueStaysOrdered : Prop :=
  ∀ s t : State, nestQueueOrdered s → step s = .next t → nestQueueOrdered t

/-- No command adds a third Panel Record, a second record of one serial, or a second ACTIVE bay. -/
def Obligations.RunsAndBaysStaySingle : Prop :=
  ∀ s t : State, runsAndBaysSingle s → step s = .next t → runsAndBaysSingle t

/-- No command lets the spindle run under ALL_STOP, or the cell under a halt latch. -/
def Obligations.SpindleStaysInterlocked : Prop :=
  ∀ s t : State, spindleInterlocked s → step s = .next t → spindleInterlocked t

/-- Power-on from any state gives the reset state but for what is the model's own, the waiting commands and the count of
free values used (log entry 31).
The reset state holds the values the manual gives for power-on to the Line Link and the notices, the recipe, the cell mode
and the runs, the router and its bit, the spindle and its tach, the probe, the picker, the Nest Queue, the stacker and the
bays, the lines, the outputs, the ports and the Fault Service (R25, R44, R45, R91, R113, R127, R142, R143, R163, R172, R174,
R175, R184). It meets every invariant. -/
def Obligations.PowerOnResets : Prop :=
  (∀ s : State, exec .powerOn s = .next { State.reset with pending := s.pending, free := s.free }) ∧
  (let r := State.reset
   (r.link.rx = .hunt ∧ r.link.slot = none ∧ r.link.overrun = [] ∧ r.link.tx = none ∧
    ∀ n, getAt r.notices n = { raised := false, sent := false, enabled := true, payload := [] }) ∧
   (r.recipe.state = .empty ∧ r.recipe.boards = [] ∧ r.recipe.tabs = [] ∧ r.recipe.lists = [] ∧
    r.recipe.profiles = [] ∧ r.recipe.depth = 1) ∧
   (r.cell = { mode := .unconfigured, ret := none, holdLatch := false, restart := false, idleTimer := none } ∧
    r.seq.records = [] ∧ r.seq.boards = [] ∧ r.seq.tabs = [] ∧ r.seq.order = []) ∧
   (r.router.state = .idle ∧ r.router.clearance = true ∧ r.router.wear = 0 ∧ r.router.life = 0 ∧
    r.router.baseFeed = 0 ∧ r.router.bit = .unknown ∧ r.router.override = 100 ∧ r.router.sag = 0 ∧
    r.router.timer = none) ∧
   (r.spindle.state = .stopped ∧ r.spindle.setpoint = 30000 ∧ r.spindle.setTime = 20 ∧ r.spindle.parkTime = 10 ∧
    r.spindle.stabilise = none ∧ r.spindle.deadline = none ∧ r.spindle.lastEdge = none ∧ r.spindle.rpm = 0 ∧
    r.spindle.qualify = 0) ∧
   (r.probe.settings = { mode := .full, points := 8, allowance := 0, settle := 3 } ∧ r.probe.state = .idle ∧
    r.probe.work = none ∧ r.probe.moveTimer = none ∧ r.probe.snapshot = none) ∧
   (r.picker.state = .idle ∧ r.picker.board = none ∧ r.picker.serial = none ∧ r.picker.nest = none ∧
    r.picker.retry = false ∧ r.picker.withdrawn = false ∧ r.picker.stalled = false ∧ r.picker.gripTime = 300 ∧
    r.picker.blowTime = 40 ∧ r.picker.moveTimer = none ∧ r.picker.gripTimer = none ∧ r.picker.vacOffTimer = none ∧
    r.picker.blowTimer = none ∧ r.picker.windowTimer = none) ∧
   (r.nests = [] ∧ r.stacker.state = .idle ∧ r.stacker.hand = none ∧ r.stacker.target = none ∧ r.stacker.slot = none ∧
    r.stacker.heldTransfer = none ∧ r.stacker.heldElevate = none ∧ r.stacker.heldStroke = false ∧
    r.stacker.recovery = false ∧ r.stacker.transferTimer = none ∧ r.stacker.elevateTimer = none ∧
    r.stacker.nestClear = none ∧ r.stacker.homeWait = none ∧ r.stacker.leave = none ∧ r.stacker.return_ = none ∧
    r.stacker.chuteWindow = none ∧
    ∀ x, bayOf r x = { state := .absent, desc := none, map := [], retire := false }) ∧
   ((∀ l, (getAt r.lines.ded l).sense = .activeHigh ∧ (getAt r.lines.ded l).period = .p05 ∧
      (getAt r.lines.ded l).filter.level = none) ∧
    (∀ n, (getAt r.lines.aux n).mode = .rising ∧ (getAt r.lines.aux n).role = .notice ∧
      (getAt r.lines.aux n).enable = true ∧ (getAt r.lines.aux n).period = .p05 ∧
      (getAt r.lines.aux n).filter.level = none ∧ (getAt r.lines.aux n).latch = .clear) ∧
    r.lines.stop.level = none) ∧
   (r.outputs =
      { spindleRun := false, speedRef := 0, vacuumOn := false, blowOff := false, push := false, chuteGate := false } ∧
    r.ports.router.inFlight = false ∧ r.ports.picker.inFlight = false ∧ r.ports.transfer.inFlight = false ∧
    r.ports.elevator.inFlight = false) ∧
   ((∀ src : Source, [0, 1, 1, 1, 2, 3, 2, 4, 5, 2, 3, 3, 2, 2, 2, 2, 2, 2, 4, 4, 4, 4, 4][src.val]? =
      some (getAt r.faults.levels src)) ∧
    r.faults.waiting = [] ∧ r.faults.stack = [] ∧ r.faults.allStop = false ∧ r.faults.cutStop = false)) ∧
  settingsInRange State.reset ∧ faultRecordsOrdered State.reset ∧ nestQueueOrdered State.reset ∧
  runsAndBaysSingle State.reset ∧ spindleInterlocked State.reset
end

