-- ==== Sys2Proof/Laws/State.lean ====
section
/-! SUPPORT. What each named block update leaves of the state: one lemma per block per update. -/

namespace Sys2Proof.Machine

@[simp] theorem State.withLink_link (s : State) (x : Link) : (s.withLink x).link = x := (rfl)
@[simp] theorem State.withLink_notices (s : State) (x : Link) : (s.withLink x).notices = s.notices := (rfl)
@[simp] theorem State.withLink_recipe (s : State) (x : Link) : (s.withLink x).recipe = s.recipe := (rfl)
@[simp] theorem State.withLink_cell (s : State) (x : Link) : (s.withLink x).cell = s.cell := (rfl)
@[simp] theorem State.withLink_seq (s : State) (x : Link) : (s.withLink x).seq = s.seq := (rfl)
@[simp] theorem State.withLink_router (s : State) (x : Link) : (s.withLink x).router = s.router := (rfl)
@[simp] theorem State.withLink_spindle (s : State) (x : Link) : (s.withLink x).spindle = s.spindle := (rfl)
@[simp] theorem State.withLink_probe (s : State) (x : Link) : (s.withLink x).probe = s.probe := (rfl)
@[simp] theorem State.withLink_picker (s : State) (x : Link) : (s.withLink x).picker = s.picker := (rfl)
@[simp] theorem State.withLink_nests (s : State) (x : Link) : (s.withLink x).nests = s.nests := (rfl)
@[simp] theorem State.withLink_stacker (s : State) (x : Link) : (s.withLink x).stacker = s.stacker := (rfl)
@[simp] theorem State.withLink_bays (s : State) (x : Link) : (s.withLink x).bays = s.bays := (rfl)
@[simp] theorem State.withLink_lines (s : State) (x : Link) : (s.withLink x).lines = s.lines := (rfl)
@[simp] theorem State.withLink_outputs (s : State) (x : Link) : (s.withLink x).outputs = s.outputs := (rfl)
@[simp] theorem State.withLink_ports (s : State) (x : Link) : (s.withLink x).ports = s.ports := (rfl)
@[simp] theorem State.withLink_faults (s : State) (x : Link) : (s.withLink x).faults = s.faults := (rfl)
@[simp] theorem State.withLink_free (s : State) (x : Link) : (s.withLink x).free = s.free := (rfl)
@[simp] theorem State.withLink_pending (s : State) (x : Link) : (s.withLink x).pending = s.pending := (rfl)
@[simp] theorem State.withNotices_link (s : State) (x : Vector NoticeRec 16) : (s.withNotices x).link = s.link := (rfl)
@[simp] theorem State.withNotices_notices (s : State) (x : Vector NoticeRec 16) : (s.withNotices x).notices = x := (rfl)
@[simp] theorem State.withNotices_recipe (s : State) (x : Vector NoticeRec 16) : (s.withNotices x).recipe = s.recipe := (rfl)
@[simp] theorem State.withNotices_cell (s : State) (x : Vector NoticeRec 16) : (s.withNotices x).cell = s.cell := (rfl)
@[simp] theorem State.withNotices_seq (s : State) (x : Vector NoticeRec 16) : (s.withNotices x).seq = s.seq := (rfl)
@[simp] theorem State.withNotices_router (s : State) (x : Vector NoticeRec 16) : (s.withNotices x).router = s.router := (rfl)
@[simp] theorem State.withNotices_spindle (s : State) (x : Vector NoticeRec 16) : (s.withNotices x).spindle = s.spindle := (rfl)
@[simp] theorem State.withNotices_probe (s : State) (x : Vector NoticeRec 16) : (s.withNotices x).probe = s.probe := (rfl)
@[simp] theorem State.withNotices_picker (s : State) (x : Vector NoticeRec 16) : (s.withNotices x).picker = s.picker := (rfl)
@[simp] theorem State.withNotices_nests (s : State) (x : Vector NoticeRec 16) : (s.withNotices x).nests = s.nests := (rfl)
@[simp] theorem State.withNotices_stacker (s : State) (x : Vector NoticeRec 16) : (s.withNotices x).stacker = s.stacker := (rfl)
@[simp] theorem State.withNotices_bays (s : State) (x : Vector NoticeRec 16) : (s.withNotices x).bays = s.bays := (rfl)
@[simp] theorem State.withNotices_lines (s : State) (x : Vector NoticeRec 16) : (s.withNotices x).lines = s.lines := (rfl)
@[simp] theorem State.withNotices_outputs (s : State) (x : Vector NoticeRec 16) : (s.withNotices x).outputs = s.outputs := (rfl)
@[simp] theorem State.withNotices_ports (s : State) (x : Vector NoticeRec 16) : (s.withNotices x).ports = s.ports := (rfl)
@[simp] theorem State.withNotices_faults (s : State) (x : Vector NoticeRec 16) : (s.withNotices x).faults = s.faults := (rfl)
@[simp] theorem State.withNotices_free (s : State) (x : Vector NoticeRec 16) : (s.withNotices x).free = s.free := (rfl)
@[simp] theorem State.withNotices_pending (s : State) (x : Vector NoticeRec 16) : (s.withNotices x).pending = s.pending := (rfl)
@[simp] theorem State.withRecipe_link (s : State) (x : Recipe) : (s.withRecipe x).link = s.link := (rfl)
@[simp] theorem State.withRecipe_notices (s : State) (x : Recipe) : (s.withRecipe x).notices = s.notices := (rfl)
@[simp] theorem State.withRecipe_recipe (s : State) (x : Recipe) : (s.withRecipe x).recipe = x := (rfl)
@[simp] theorem State.withRecipe_cell (s : State) (x : Recipe) : (s.withRecipe x).cell = s.cell := (rfl)
@[simp] theorem State.withRecipe_seq (s : State) (x : Recipe) : (s.withRecipe x).seq = s.seq := (rfl)
@[simp] theorem State.withRecipe_router (s : State) (x : Recipe) : (s.withRecipe x).router = s.router := (rfl)
@[simp] theorem State.withRecipe_spindle (s : State) (x : Recipe) : (s.withRecipe x).spindle = s.spindle := (rfl)
@[simp] theorem State.withRecipe_probe (s : State) (x : Recipe) : (s.withRecipe x).probe = s.probe := (rfl)
@[simp] theorem State.withRecipe_picker (s : State) (x : Recipe) : (s.withRecipe x).picker = s.picker := (rfl)
@[simp] theorem State.withRecipe_nests (s : State) (x : Recipe) : (s.withRecipe x).nests = s.nests := (rfl)
@[simp] theorem State.withRecipe_stacker (s : State) (x : Recipe) : (s.withRecipe x).stacker = s.stacker := (rfl)
@[simp] theorem State.withRecipe_bays (s : State) (x : Recipe) : (s.withRecipe x).bays = s.bays := (rfl)
@[simp] theorem State.withRecipe_lines (s : State) (x : Recipe) : (s.withRecipe x).lines = s.lines := (rfl)
@[simp] theorem State.withRecipe_outputs (s : State) (x : Recipe) : (s.withRecipe x).outputs = s.outputs := (rfl)
@[simp] theorem State.withRecipe_ports (s : State) (x : Recipe) : (s.withRecipe x).ports = s.ports := (rfl)
@[simp] theorem State.withRecipe_faults (s : State) (x : Recipe) : (s.withRecipe x).faults = s.faults := (rfl)
@[simp] theorem State.withRecipe_free (s : State) (x : Recipe) : (s.withRecipe x).free = s.free := (rfl)
@[simp] theorem State.withRecipe_pending (s : State) (x : Recipe) : (s.withRecipe x).pending = s.pending := (rfl)
@[simp] theorem State.withCell_link (s : State) (x : Cell) : (s.withCell x).link = s.link := (rfl)
@[simp] theorem State.withCell_notices (s : State) (x : Cell) : (s.withCell x).notices = s.notices := (rfl)
@[simp] theorem State.withCell_recipe (s : State) (x : Cell) : (s.withCell x).recipe = s.recipe := (rfl)
@[simp] theorem State.withCell_cell (s : State) (x : Cell) : (s.withCell x).cell = x := (rfl)
@[simp] theorem State.withCell_seq (s : State) (x : Cell) : (s.withCell x).seq = s.seq := (rfl)
@[simp] theorem State.withCell_router (s : State) (x : Cell) : (s.withCell x).router = s.router := (rfl)
@[simp] theorem State.withCell_spindle (s : State) (x : Cell) : (s.withCell x).spindle = s.spindle := (rfl)
@[simp] theorem State.withCell_probe (s : State) (x : Cell) : (s.withCell x).probe = s.probe := (rfl)
@[simp] theorem State.withCell_picker (s : State) (x : Cell) : (s.withCell x).picker = s.picker := (rfl)
@[simp] theorem State.withCell_nests (s : State) (x : Cell) : (s.withCell x).nests = s.nests := (rfl)
@[simp] theorem State.withCell_stacker (s : State) (x : Cell) : (s.withCell x).stacker = s.stacker := (rfl)
@[simp] theorem State.withCell_bays (s : State) (x : Cell) : (s.withCell x).bays = s.bays := (rfl)
@[simp] theorem State.withCell_lines (s : State) (x : Cell) : (s.withCell x).lines = s.lines := (rfl)
@[simp] theorem State.withCell_outputs (s : State) (x : Cell) : (s.withCell x).outputs = s.outputs := (rfl)
@[simp] theorem State.withCell_ports (s : State) (x : Cell) : (s.withCell x).ports = s.ports := (rfl)
@[simp] theorem State.withCell_faults (s : State) (x : Cell) : (s.withCell x).faults = s.faults := (rfl)
@[simp] theorem State.withCell_free (s : State) (x : Cell) : (s.withCell x).free = s.free := (rfl)
@[simp] theorem State.withCell_pending (s : State) (x : Cell) : (s.withCell x).pending = s.pending := (rfl)
@[simp] theorem State.withSeq_link (s : State) (x : Sequencer) : (s.withSeq x).link = s.link := (rfl)
@[simp] theorem State.withSeq_notices (s : State) (x : Sequencer) : (s.withSeq x).notices = s.notices := (rfl)
@[simp] theorem State.withSeq_recipe (s : State) (x : Sequencer) : (s.withSeq x).recipe = s.recipe := (rfl)
@[simp] theorem State.withSeq_cell (s : State) (x : Sequencer) : (s.withSeq x).cell = s.cell := (rfl)
@[simp] theorem State.withSeq_seq (s : State) (x : Sequencer) : (s.withSeq x).seq = x := (rfl)
@[simp] theorem State.withSeq_router (s : State) (x : Sequencer) : (s.withSeq x).router = s.router := (rfl)
@[simp] theorem State.withSeq_spindle (s : State) (x : Sequencer) : (s.withSeq x).spindle = s.spindle := (rfl)
@[simp] theorem State.withSeq_probe (s : State) (x : Sequencer) : (s.withSeq x).probe = s.probe := (rfl)
@[simp] theorem State.withSeq_picker (s : State) (x : Sequencer) : (s.withSeq x).picker = s.picker := (rfl)
@[simp] theorem State.withSeq_nests (s : State) (x : Sequencer) : (s.withSeq x).nests = s.nests := (rfl)
@[simp] theorem State.withSeq_stacker (s : State) (x : Sequencer) : (s.withSeq x).stacker = s.stacker := (rfl)
@[simp] theorem State.withSeq_bays (s : State) (x : Sequencer) : (s.withSeq x).bays = s.bays := (rfl)
@[simp] theorem State.withSeq_lines (s : State) (x : Sequencer) : (s.withSeq x).lines = s.lines := (rfl)
@[simp] theorem State.withSeq_outputs (s : State) (x : Sequencer) : (s.withSeq x).outputs = s.outputs := (rfl)
@[simp] theorem State.withSeq_ports (s : State) (x : Sequencer) : (s.withSeq x).ports = s.ports := (rfl)
@[simp] theorem State.withSeq_faults (s : State) (x : Sequencer) : (s.withSeq x).faults = s.faults := (rfl)
@[simp] theorem State.withSeq_free (s : State) (x : Sequencer) : (s.withSeq x).free = s.free := (rfl)
@[simp] theorem State.withSeq_pending (s : State) (x : Sequencer) : (s.withSeq x).pending = s.pending := (rfl)
@[simp] theorem State.withRouter_link (s : State) (x : Router) : (s.withRouter x).link = s.link := (rfl)
@[simp] theorem State.withRouter_notices (s : State) (x : Router) : (s.withRouter x).notices = s.notices := (rfl)
@[simp] theorem State.withRouter_recipe (s : State) (x : Router) : (s.withRouter x).recipe = s.recipe := (rfl)
@[simp] theorem State.withRouter_cell (s : State) (x : Router) : (s.withRouter x).cell = s.cell := (rfl)
@[simp] theorem State.withRouter_seq (s : State) (x : Router) : (s.withRouter x).seq = s.seq := (rfl)
@[simp] theorem State.withRouter_router (s : State) (x : Router) : (s.withRouter x).router = x := (rfl)
@[simp] theorem State.withRouter_spindle (s : State) (x : Router) : (s.withRouter x).spindle = s.spindle := (rfl)
@[simp] theorem State.withRouter_probe (s : State) (x : Router) : (s.withRouter x).probe = s.probe := (rfl)
@[simp] theorem State.withRouter_picker (s : State) (x : Router) : (s.withRouter x).picker = s.picker := (rfl)
@[simp] theorem State.withRouter_nests (s : State) (x : Router) : (s.withRouter x).nests = s.nests := (rfl)
@[simp] theorem State.withRouter_stacker (s : State) (x : Router) : (s.withRouter x).stacker = s.stacker := (rfl)
@[simp] theorem State.withRouter_bays (s : State) (x : Router) : (s.withRouter x).bays = s.bays := (rfl)
@[simp] theorem State.withRouter_lines (s : State) (x : Router) : (s.withRouter x).lines = s.lines := (rfl)
@[simp] theorem State.withRouter_outputs (s : State) (x : Router) : (s.withRouter x).outputs = s.outputs := (rfl)
@[simp] theorem State.withRouter_ports (s : State) (x : Router) : (s.withRouter x).ports = s.ports := (rfl)
@[simp] theorem State.withRouter_faults (s : State) (x : Router) : (s.withRouter x).faults = s.faults := (rfl)
@[simp] theorem State.withRouter_free (s : State) (x : Router) : (s.withRouter x).free = s.free := (rfl)
@[simp] theorem State.withRouter_pending (s : State) (x : Router) : (s.withRouter x).pending = s.pending := (rfl)
@[simp] theorem State.withSpindle_link (s : State) (x : Spindle) : (s.withSpindle x).link = s.link := (rfl)
@[simp] theorem State.withSpindle_notices (s : State) (x : Spindle) : (s.withSpindle x).notices = s.notices := (rfl)
@[simp] theorem State.withSpindle_recipe (s : State) (x : Spindle) : (s.withSpindle x).recipe = s.recipe := (rfl)
@[simp] theorem State.withSpindle_cell (s : State) (x : Spindle) : (s.withSpindle x).cell = s.cell := (rfl)
@[simp] theorem State.withSpindle_seq (s : State) (x : Spindle) : (s.withSpindle x).seq = s.seq := (rfl)
@[simp] theorem State.withSpindle_router (s : State) (x : Spindle) : (s.withSpindle x).router = s.router := (rfl)
@[simp] theorem State.withSpindle_spindle (s : State) (x : Spindle) : (s.withSpindle x).spindle = x := (rfl)
@[simp] theorem State.withSpindle_probe (s : State) (x : Spindle) : (s.withSpindle x).probe = s.probe := (rfl)
@[simp] theorem State.withSpindle_picker (s : State) (x : Spindle) : (s.withSpindle x).picker = s.picker := (rfl)
@[simp] theorem State.withSpindle_nests (s : State) (x : Spindle) : (s.withSpindle x).nests = s.nests := (rfl)
@[simp] theorem State.withSpindle_stacker (s : State) (x : Spindle) : (s.withSpindle x).stacker = s.stacker := (rfl)
@[simp] theorem State.withSpindle_bays (s : State) (x : Spindle) : (s.withSpindle x).bays = s.bays := (rfl)
@[simp] theorem State.withSpindle_lines (s : State) (x : Spindle) : (s.withSpindle x).lines = s.lines := (rfl)
@[simp] theorem State.withSpindle_outputs (s : State) (x : Spindle) : (s.withSpindle x).outputs = s.outputs := (rfl)
@[simp] theorem State.withSpindle_ports (s : State) (x : Spindle) : (s.withSpindle x).ports = s.ports := (rfl)
@[simp] theorem State.withSpindle_faults (s : State) (x : Spindle) : (s.withSpindle x).faults = s.faults := (rfl)
@[simp] theorem State.withSpindle_free (s : State) (x : Spindle) : (s.withSpindle x).free = s.free := (rfl)
@[simp] theorem State.withSpindle_pending (s : State) (x : Spindle) : (s.withSpindle x).pending = s.pending := (rfl)
@[simp] theorem State.withProbe_link (s : State) (x : Probe) : (s.withProbe x).link = s.link := (rfl)
@[simp] theorem State.withProbe_notices (s : State) (x : Probe) : (s.withProbe x).notices = s.notices := (rfl)
@[simp] theorem State.withProbe_recipe (s : State) (x : Probe) : (s.withProbe x).recipe = s.recipe := (rfl)
@[simp] theorem State.withProbe_cell (s : State) (x : Probe) : (s.withProbe x).cell = s.cell := (rfl)
@[simp] theorem State.withProbe_seq (s : State) (x : Probe) : (s.withProbe x).seq = s.seq := (rfl)
@[simp] theorem State.withProbe_router (s : State) (x : Probe) : (s.withProbe x).router = s.router := (rfl)
@[simp] theorem State.withProbe_spindle (s : State) (x : Probe) : (s.withProbe x).spindle = s.spindle := (rfl)
@[simp] theorem State.withProbe_probe (s : State) (x : Probe) : (s.withProbe x).probe = x := (rfl)
@[simp] theorem State.withProbe_picker (s : State) (x : Probe) : (s.withProbe x).picker = s.picker := (rfl)
@[simp] theorem State.withProbe_nests (s : State) (x : Probe) : (s.withProbe x).nests = s.nests := (rfl)
@[simp] theorem State.withProbe_stacker (s : State) (x : Probe) : (s.withProbe x).stacker = s.stacker := (rfl)
@[simp] theorem State.withProbe_bays (s : State) (x : Probe) : (s.withProbe x).bays = s.bays := (rfl)
@[simp] theorem State.withProbe_lines (s : State) (x : Probe) : (s.withProbe x).lines = s.lines := (rfl)
@[simp] theorem State.withProbe_outputs (s : State) (x : Probe) : (s.withProbe x).outputs = s.outputs := (rfl)
@[simp] theorem State.withProbe_ports (s : State) (x : Probe) : (s.withProbe x).ports = s.ports := (rfl)
@[simp] theorem State.withProbe_faults (s : State) (x : Probe) : (s.withProbe x).faults = s.faults := (rfl)
@[simp] theorem State.withProbe_free (s : State) (x : Probe) : (s.withProbe x).free = s.free := (rfl)
@[simp] theorem State.withProbe_pending (s : State) (x : Probe) : (s.withProbe x).pending = s.pending := (rfl)
@[simp] theorem State.withPicker_link (s : State) (x : Picker) : (s.withPicker x).link = s.link := (rfl)
@[simp] theorem State.withPicker_notices (s : State) (x : Picker) : (s.withPicker x).notices = s.notices := (rfl)
@[simp] theorem State.withPicker_recipe (s : State) (x : Picker) : (s.withPicker x).recipe = s.recipe := (rfl)
@[simp] theorem State.withPicker_cell (s : State) (x : Picker) : (s.withPicker x).cell = s.cell := (rfl)
@[simp] theorem State.withPicker_seq (s : State) (x : Picker) : (s.withPicker x).seq = s.seq := (rfl)
@[simp] theorem State.withPicker_router (s : State) (x : Picker) : (s.withPicker x).router = s.router := (rfl)
@[simp] theorem State.withPicker_spindle (s : State) (x : Picker) : (s.withPicker x).spindle = s.spindle := (rfl)
@[simp] theorem State.withPicker_probe (s : State) (x : Picker) : (s.withPicker x).probe = s.probe := (rfl)
@[simp] theorem State.withPicker_picker (s : State) (x : Picker) : (s.withPicker x).picker = x := (rfl)
@[simp] theorem State.withPicker_nests (s : State) (x : Picker) : (s.withPicker x).nests = s.nests := (rfl)
@[simp] theorem State.withPicker_stacker (s : State) (x : Picker) : (s.withPicker x).stacker = s.stacker := (rfl)
@[simp] theorem State.withPicker_bays (s : State) (x : Picker) : (s.withPicker x).bays = s.bays := (rfl)
@[simp] theorem State.withPicker_lines (s : State) (x : Picker) : (s.withPicker x).lines = s.lines := (rfl)
@[simp] theorem State.withPicker_outputs (s : State) (x : Picker) : (s.withPicker x).outputs = s.outputs := (rfl)
@[simp] theorem State.withPicker_ports (s : State) (x : Picker) : (s.withPicker x).ports = s.ports := (rfl)
@[simp] theorem State.withPicker_faults (s : State) (x : Picker) : (s.withPicker x).faults = s.faults := (rfl)
@[simp] theorem State.withPicker_free (s : State) (x : Picker) : (s.withPicker x).free = s.free := (rfl)
@[simp] theorem State.withPicker_pending (s : State) (x : Picker) : (s.withPicker x).pending = s.pending := (rfl)
@[simp] theorem State.withNests_link (s : State) (x : List NestEntry) : (s.withNests x).link = s.link := (rfl)
@[simp] theorem State.withNests_notices (s : State) (x : List NestEntry) : (s.withNests x).notices = s.notices := (rfl)
@[simp] theorem State.withNests_recipe (s : State) (x : List NestEntry) : (s.withNests x).recipe = s.recipe := (rfl)
@[simp] theorem State.withNests_cell (s : State) (x : List NestEntry) : (s.withNests x).cell = s.cell := (rfl)
@[simp] theorem State.withNests_seq (s : State) (x : List NestEntry) : (s.withNests x).seq = s.seq := (rfl)
@[simp] theorem State.withNests_router (s : State) (x : List NestEntry) : (s.withNests x).router = s.router := (rfl)
@[simp] theorem State.withNests_spindle (s : State) (x : List NestEntry) : (s.withNests x).spindle = s.spindle := (rfl)
@[simp] theorem State.withNests_probe (s : State) (x : List NestEntry) : (s.withNests x).probe = s.probe := (rfl)
@[simp] theorem State.withNests_picker (s : State) (x : List NestEntry) : (s.withNests x).picker = s.picker := (rfl)
@[simp] theorem State.withNests_nests (s : State) (x : List NestEntry) : (s.withNests x).nests = x := (rfl)
@[simp] theorem State.withNests_stacker (s : State) (x : List NestEntry) : (s.withNests x).stacker = s.stacker := (rfl)
@[simp] theorem State.withNests_bays (s : State) (x : List NestEntry) : (s.withNests x).bays = s.bays := (rfl)
@[simp] theorem State.withNests_lines (s : State) (x : List NestEntry) : (s.withNests x).lines = s.lines := (rfl)
@[simp] theorem State.withNests_outputs (s : State) (x : List NestEntry) : (s.withNests x).outputs = s.outputs := (rfl)
@[simp] theorem State.withNests_ports (s : State) (x : List NestEntry) : (s.withNests x).ports = s.ports := (rfl)
@[simp] theorem State.withNests_faults (s : State) (x : List NestEntry) : (s.withNests x).faults = s.faults := (rfl)
@[simp] theorem State.withNests_free (s : State) (x : List NestEntry) : (s.withNests x).free = s.free := (rfl)
@[simp] theorem State.withNests_pending (s : State) (x : List NestEntry) : (s.withNests x).pending = s.pending := (rfl)
@[simp] theorem State.withStacker_link (s : State) (x : Stacker) : (s.withStacker x).link = s.link := (rfl)
@[simp] theorem State.withStacker_notices (s : State) (x : Stacker) : (s.withStacker x).notices = s.notices := (rfl)
@[simp] theorem State.withStacker_recipe (s : State) (x : Stacker) : (s.withStacker x).recipe = s.recipe := (rfl)
@[simp] theorem State.withStacker_cell (s : State) (x : Stacker) : (s.withStacker x).cell = s.cell := (rfl)
@[simp] theorem State.withStacker_seq (s : State) (x : Stacker) : (s.withStacker x).seq = s.seq := (rfl)
@[simp] theorem State.withStacker_router (s : State) (x : Stacker) : (s.withStacker x).router = s.router := (rfl)
@[simp] theorem State.withStacker_spindle (s : State) (x : Stacker) : (s.withStacker x).spindle = s.spindle := (rfl)
@[simp] theorem State.withStacker_probe (s : State) (x : Stacker) : (s.withStacker x).probe = s.probe := (rfl)
@[simp] theorem State.withStacker_picker (s : State) (x : Stacker) : (s.withStacker x).picker = s.picker := (rfl)
@[simp] theorem State.withStacker_nests (s : State) (x : Stacker) : (s.withStacker x).nests = s.nests := (rfl)
@[simp] theorem State.withStacker_stacker (s : State) (x : Stacker) : (s.withStacker x).stacker = x := (rfl)
@[simp] theorem State.withStacker_bays (s : State) (x : Stacker) : (s.withStacker x).bays = s.bays := (rfl)
@[simp] theorem State.withStacker_lines (s : State) (x : Stacker) : (s.withStacker x).lines = s.lines := (rfl)
@[simp] theorem State.withStacker_outputs (s : State) (x : Stacker) : (s.withStacker x).outputs = s.outputs := (rfl)
@[simp] theorem State.withStacker_ports (s : State) (x : Stacker) : (s.withStacker x).ports = s.ports := (rfl)
@[simp] theorem State.withStacker_faults (s : State) (x : Stacker) : (s.withStacker x).faults = s.faults := (rfl)
@[simp] theorem State.withStacker_free (s : State) (x : Stacker) : (s.withStacker x).free = s.free := (rfl)
@[simp] theorem State.withStacker_pending (s : State) (x : Stacker) : (s.withStacker x).pending = s.pending := (rfl)
@[simp] theorem State.withBays_link (s : State) (x : Bays) : (s.withBays x).link = s.link := (rfl)
@[simp] theorem State.withBays_notices (s : State) (x : Bays) : (s.withBays x).notices = s.notices := (rfl)
@[simp] theorem State.withBays_recipe (s : State) (x : Bays) : (s.withBays x).recipe = s.recipe := (rfl)
@[simp] theorem State.withBays_cell (s : State) (x : Bays) : (s.withBays x).cell = s.cell := (rfl)
@[simp] theorem State.withBays_seq (s : State) (x : Bays) : (s.withBays x).seq = s.seq := (rfl)
@[simp] theorem State.withBays_router (s : State) (x : Bays) : (s.withBays x).router = s.router := (rfl)
@[simp] theorem State.withBays_spindle (s : State) (x : Bays) : (s.withBays x).spindle = s.spindle := (rfl)
@[simp] theorem State.withBays_probe (s : State) (x : Bays) : (s.withBays x).probe = s.probe := (rfl)
@[simp] theorem State.withBays_picker (s : State) (x : Bays) : (s.withBays x).picker = s.picker := (rfl)
@[simp] theorem State.withBays_nests (s : State) (x : Bays) : (s.withBays x).nests = s.nests := (rfl)
@[simp] theorem State.withBays_stacker (s : State) (x : Bays) : (s.withBays x).stacker = s.stacker := (rfl)
@[simp] theorem State.withBays_bays (s : State) (x : Bays) : (s.withBays x).bays = x := (rfl)
@[simp] theorem State.withBays_lines (s : State) (x : Bays) : (s.withBays x).lines = s.lines := (rfl)
@[simp] theorem State.withBays_outputs (s : State) (x : Bays) : (s.withBays x).outputs = s.outputs := (rfl)
@[simp] theorem State.withBays_ports (s : State) (x : Bays) : (s.withBays x).ports = s.ports := (rfl)
@[simp] theorem State.withBays_faults (s : State) (x : Bays) : (s.withBays x).faults = s.faults := (rfl)
@[simp] theorem State.withBays_free (s : State) (x : Bays) : (s.withBays x).free = s.free := (rfl)
@[simp] theorem State.withBays_pending (s : State) (x : Bays) : (s.withBays x).pending = s.pending := (rfl)
@[simp] theorem State.withLines_link (s : State) (x : Lines) : (s.withLines x).link = s.link := (rfl)
@[simp] theorem State.withLines_notices (s : State) (x : Lines) : (s.withLines x).notices = s.notices := (rfl)
@[simp] theorem State.withLines_recipe (s : State) (x : Lines) : (s.withLines x).recipe = s.recipe := (rfl)
@[simp] theorem State.withLines_cell (s : State) (x : Lines) : (s.withLines x).cell = s.cell := (rfl)
@[simp] theorem State.withLines_seq (s : State) (x : Lines) : (s.withLines x).seq = s.seq := (rfl)
@[simp] theorem State.withLines_router (s : State) (x : Lines) : (s.withLines x).router = s.router := (rfl)
@[simp] theorem State.withLines_spindle (s : State) (x : Lines) : (s.withLines x).spindle = s.spindle := (rfl)
@[simp] theorem State.withLines_probe (s : State) (x : Lines) : (s.withLines x).probe = s.probe := (rfl)
@[simp] theorem State.withLines_picker (s : State) (x : Lines) : (s.withLines x).picker = s.picker := (rfl)
@[simp] theorem State.withLines_nests (s : State) (x : Lines) : (s.withLines x).nests = s.nests := (rfl)
@[simp] theorem State.withLines_stacker (s : State) (x : Lines) : (s.withLines x).stacker = s.stacker := (rfl)
@[simp] theorem State.withLines_bays (s : State) (x : Lines) : (s.withLines x).bays = s.bays := (rfl)
@[simp] theorem State.withLines_lines (s : State) (x : Lines) : (s.withLines x).lines = x := (rfl)
@[simp] theorem State.withLines_outputs (s : State) (x : Lines) : (s.withLines x).outputs = s.outputs := (rfl)
@[simp] theorem State.withLines_ports (s : State) (x : Lines) : (s.withLines x).ports = s.ports := (rfl)
@[simp] theorem State.withLines_faults (s : State) (x : Lines) : (s.withLines x).faults = s.faults := (rfl)
@[simp] theorem State.withLines_free (s : State) (x : Lines) : (s.withLines x).free = s.free := (rfl)
@[simp] theorem State.withLines_pending (s : State) (x : Lines) : (s.withLines x).pending = s.pending := (rfl)
@[simp] theorem State.withOutputs_link (s : State) (x : Outputs) : (s.withOutputs x).link = s.link := (rfl)
@[simp] theorem State.withOutputs_notices (s : State) (x : Outputs) : (s.withOutputs x).notices = s.notices := (rfl)
@[simp] theorem State.withOutputs_recipe (s : State) (x : Outputs) : (s.withOutputs x).recipe = s.recipe := (rfl)
@[simp] theorem State.withOutputs_cell (s : State) (x : Outputs) : (s.withOutputs x).cell = s.cell := (rfl)
@[simp] theorem State.withOutputs_seq (s : State) (x : Outputs) : (s.withOutputs x).seq = s.seq := (rfl)
@[simp] theorem State.withOutputs_router (s : State) (x : Outputs) : (s.withOutputs x).router = s.router := (rfl)
@[simp] theorem State.withOutputs_spindle (s : State) (x : Outputs) : (s.withOutputs x).spindle = s.spindle := (rfl)
@[simp] theorem State.withOutputs_probe (s : State) (x : Outputs) : (s.withOutputs x).probe = s.probe := (rfl)
@[simp] theorem State.withOutputs_picker (s : State) (x : Outputs) : (s.withOutputs x).picker = s.picker := (rfl)
@[simp] theorem State.withOutputs_nests (s : State) (x : Outputs) : (s.withOutputs x).nests = s.nests := (rfl)
@[simp] theorem State.withOutputs_stacker (s : State) (x : Outputs) : (s.withOutputs x).stacker = s.stacker := (rfl)
@[simp] theorem State.withOutputs_bays (s : State) (x : Outputs) : (s.withOutputs x).bays = s.bays := (rfl)
@[simp] theorem State.withOutputs_lines (s : State) (x : Outputs) : (s.withOutputs x).lines = s.lines := (rfl)
@[simp] theorem State.withOutputs_outputs (s : State) (x : Outputs) : (s.withOutputs x).outputs = x := (rfl)
@[simp] theorem State.withOutputs_ports (s : State) (x : Outputs) : (s.withOutputs x).ports = s.ports := (rfl)
@[simp] theorem State.withOutputs_faults (s : State) (x : Outputs) : (s.withOutputs x).faults = s.faults := (rfl)
@[simp] theorem State.withOutputs_free (s : State) (x : Outputs) : (s.withOutputs x).free = s.free := (rfl)
@[simp] theorem State.withOutputs_pending (s : State) (x : Outputs) : (s.withOutputs x).pending = s.pending := (rfl)
@[simp] theorem State.withPorts_link (s : State) (x : Ports) : (s.withPorts x).link = s.link := (rfl)
@[simp] theorem State.withPorts_notices (s : State) (x : Ports) : (s.withPorts x).notices = s.notices := (rfl)
@[simp] theorem State.withPorts_recipe (s : State) (x : Ports) : (s.withPorts x).recipe = s.recipe := (rfl)
@[simp] theorem State.withPorts_cell (s : State) (x : Ports) : (s.withPorts x).cell = s.cell := (rfl)
@[simp] theorem State.withPorts_seq (s : State) (x : Ports) : (s.withPorts x).seq = s.seq := (rfl)
@[simp] theorem State.withPorts_router (s : State) (x : Ports) : (s.withPorts x).router = s.router := (rfl)
@[simp] theorem State.withPorts_spindle (s : State) (x : Ports) : (s.withPorts x).spindle = s.spindle := (rfl)
@[simp] theorem State.withPorts_probe (s : State) (x : Ports) : (s.withPorts x).probe = s.probe := (rfl)
@[simp] theorem State.withPorts_picker (s : State) (x : Ports) : (s.withPorts x).picker = s.picker := (rfl)
@[simp] theorem State.withPorts_nests (s : State) (x : Ports) : (s.withPorts x).nests = s.nests := (rfl)
@[simp] theorem State.withPorts_stacker (s : State) (x : Ports) : (s.withPorts x).stacker = s.stacker := (rfl)
@[simp] theorem State.withPorts_bays (s : State) (x : Ports) : (s.withPorts x).bays = s.bays := (rfl)
@[simp] theorem State.withPorts_lines (s : State) (x : Ports) : (s.withPorts x).lines = s.lines := (rfl)
@[simp] theorem State.withPorts_outputs (s : State) (x : Ports) : (s.withPorts x).outputs = s.outputs := (rfl)
@[simp] theorem State.withPorts_ports (s : State) (x : Ports) : (s.withPorts x).ports = x := (rfl)
@[simp] theorem State.withPorts_faults (s : State) (x : Ports) : (s.withPorts x).faults = s.faults := (rfl)
@[simp] theorem State.withPorts_free (s : State) (x : Ports) : (s.withPorts x).free = s.free := (rfl)
@[simp] theorem State.withPorts_pending (s : State) (x : Ports) : (s.withPorts x).pending = s.pending := (rfl)
@[simp] theorem State.withFaults_link (s : State) (x : Faults) : (s.withFaults x).link = s.link := (rfl)
@[simp] theorem State.withFaults_notices (s : State) (x : Faults) : (s.withFaults x).notices = s.notices := (rfl)
@[simp] theorem State.withFaults_recipe (s : State) (x : Faults) : (s.withFaults x).recipe = s.recipe := (rfl)
@[simp] theorem State.withFaults_cell (s : State) (x : Faults) : (s.withFaults x).cell = s.cell := (rfl)
@[simp] theorem State.withFaults_seq (s : State) (x : Faults) : (s.withFaults x).seq = s.seq := (rfl)
@[simp] theorem State.withFaults_router (s : State) (x : Faults) : (s.withFaults x).router = s.router := (rfl)
@[simp] theorem State.withFaults_spindle (s : State) (x : Faults) : (s.withFaults x).spindle = s.spindle := (rfl)
@[simp] theorem State.withFaults_probe (s : State) (x : Faults) : (s.withFaults x).probe = s.probe := (rfl)
@[simp] theorem State.withFaults_picker (s : State) (x : Faults) : (s.withFaults x).picker = s.picker := (rfl)
@[simp] theorem State.withFaults_nests (s : State) (x : Faults) : (s.withFaults x).nests = s.nests := (rfl)
@[simp] theorem State.withFaults_stacker (s : State) (x : Faults) : (s.withFaults x).stacker = s.stacker := (rfl)
@[simp] theorem State.withFaults_bays (s : State) (x : Faults) : (s.withFaults x).bays = s.bays := (rfl)
@[simp] theorem State.withFaults_lines (s : State) (x : Faults) : (s.withFaults x).lines = s.lines := (rfl)
@[simp] theorem State.withFaults_outputs (s : State) (x : Faults) : (s.withFaults x).outputs = s.outputs := (rfl)
@[simp] theorem State.withFaults_ports (s : State) (x : Faults) : (s.withFaults x).ports = s.ports := (rfl)
@[simp] theorem State.withFaults_faults (s : State) (x : Faults) : (s.withFaults x).faults = x := (rfl)
@[simp] theorem State.withFaults_free (s : State) (x : Faults) : (s.withFaults x).free = s.free := (rfl)
@[simp] theorem State.withFaults_pending (s : State) (x : Faults) : (s.withFaults x).pending = s.pending := (rfl)
@[simp] theorem State.withFree_link (s : State) (x : Nat) : (s.withFree x).link = s.link := (rfl)
@[simp] theorem State.withFree_notices (s : State) (x : Nat) : (s.withFree x).notices = s.notices := (rfl)
@[simp] theorem State.withFree_recipe (s : State) (x : Nat) : (s.withFree x).recipe = s.recipe := (rfl)
@[simp] theorem State.withFree_cell (s : State) (x : Nat) : (s.withFree x).cell = s.cell := (rfl)
@[simp] theorem State.withFree_seq (s : State) (x : Nat) : (s.withFree x).seq = s.seq := (rfl)
@[simp] theorem State.withFree_router (s : State) (x : Nat) : (s.withFree x).router = s.router := (rfl)
@[simp] theorem State.withFree_spindle (s : State) (x : Nat) : (s.withFree x).spindle = s.spindle := (rfl)
@[simp] theorem State.withFree_probe (s : State) (x : Nat) : (s.withFree x).probe = s.probe := (rfl)
@[simp] theorem State.withFree_picker (s : State) (x : Nat) : (s.withFree x).picker = s.picker := (rfl)
@[simp] theorem State.withFree_nests (s : State) (x : Nat) : (s.withFree x).nests = s.nests := (rfl)
@[simp] theorem State.withFree_stacker (s : State) (x : Nat) : (s.withFree x).stacker = s.stacker := (rfl)
@[simp] theorem State.withFree_bays (s : State) (x : Nat) : (s.withFree x).bays = s.bays := (rfl)
@[simp] theorem State.withFree_lines (s : State) (x : Nat) : (s.withFree x).lines = s.lines := (rfl)
@[simp] theorem State.withFree_outputs (s : State) (x : Nat) : (s.withFree x).outputs = s.outputs := (rfl)
@[simp] theorem State.withFree_ports (s : State) (x : Nat) : (s.withFree x).ports = s.ports := (rfl)
@[simp] theorem State.withFree_faults (s : State) (x : Nat) : (s.withFree x).faults = s.faults := (rfl)
@[simp] theorem State.withFree_free (s : State) (x : Nat) : (s.withFree x).free = x := (rfl)
@[simp] theorem State.withFree_pending (s : State) (x : Nat) : (s.withFree x).pending = s.pending := (rfl)
@[simp] theorem State.withPending_link (s : State) (x : List Instr) : (s.withPending x).link = s.link := (rfl)
@[simp] theorem State.withPending_notices (s : State) (x : List Instr) : (s.withPending x).notices = s.notices := (rfl)
@[simp] theorem State.withPending_recipe (s : State) (x : List Instr) : (s.withPending x).recipe = s.recipe := (rfl)
@[simp] theorem State.withPending_cell (s : State) (x : List Instr) : (s.withPending x).cell = s.cell := (rfl)
@[simp] theorem State.withPending_seq (s : State) (x : List Instr) : (s.withPending x).seq = s.seq := (rfl)
@[simp] theorem State.withPending_router (s : State) (x : List Instr) : (s.withPending x).router = s.router := (rfl)
@[simp] theorem State.withPending_spindle (s : State) (x : List Instr) : (s.withPending x).spindle = s.spindle := (rfl)
@[simp] theorem State.withPending_probe (s : State) (x : List Instr) : (s.withPending x).probe = s.probe := (rfl)
@[simp] theorem State.withPending_picker (s : State) (x : List Instr) : (s.withPending x).picker = s.picker := (rfl)
@[simp] theorem State.withPending_nests (s : State) (x : List Instr) : (s.withPending x).nests = s.nests := (rfl)
@[simp] theorem State.withPending_stacker (s : State) (x : List Instr) : (s.withPending x).stacker = s.stacker := (rfl)
@[simp] theorem State.withPending_bays (s : State) (x : List Instr) : (s.withPending x).bays = s.bays := (rfl)
@[simp] theorem State.withPending_lines (s : State) (x : List Instr) : (s.withPending x).lines = s.lines := (rfl)
@[simp] theorem State.withPending_outputs (s : State) (x : List Instr) : (s.withPending x).outputs = s.outputs := (rfl)
@[simp] theorem State.withPending_ports (s : State) (x : List Instr) : (s.withPending x).ports = s.ports := (rfl)
@[simp] theorem State.withPending_faults (s : State) (x : List Instr) : (s.withPending x).faults = s.faults := (rfl)
@[simp] theorem State.withPending_free (s : State) (x : List Instr) : (s.withPending x).free = s.free := (rfl)
@[simp] theorem State.withPending_pending (s : State) (x : List Instr) : (s.withPending x).pending = x := (rfl)

end Sys2Proof.Machine
end

