-- ==== Sys2Proof/Laws/Mask.lean ====
section
/-! SUPPORT. The state with some of its parts blanked out: what an operation leaves alone is said by one equation. -/

namespace Sys2Proof.Machine

/-- A choice of parts of the state. A part is a group of fields that the same operations change. -/
structure Parts where
  rx : Bool := false
  slot : Bool := false
  overrun : Bool := false
  tx : Bool := false
  notices : Bool := false
  recipe : Bool := false
  cell : Bool := false
  idle : Bool := false
  records : Bool := false
  runOf : Bool := false
  run : Bool := false
  router : Bool := false
  wear : Bool := false
  bitLife : Bool := false
  override : Bool := false
  spindle : Bool := false
  setpoint : Bool := false
  timing : Bool := false
  tach : Bool := false
  settings : Bool := false
  probe : Bool := false
  picker : Bool := false
  gripTimes : Bool := false
  nests : Bool := false
  stacker : Bool := false
  bays : Bool := false
  ded : Bool := false
  stop : Bool := false
  auxSet : Bool := false
  auxLatch : Bool := false
  outSpindle : Bool := false
  outVacuum : Bool := false
  outBlow : Bool := false
  outPush : Bool := false
  outGate : Bool := false
  portRouter : Bool := false
  portPicker : Bool := false
  portTransfer : Bool := false
  portElevator : Bool := false
  levels : Bool := false
  faults : Bool := false
  haltLatches : Bool := false
  free : Bool := false
  pending : Bool := false

/-- `link` with the chosen parts blanked. -/
def Link.blank (B : Parts) (x : Link) : Link :=
  {
    rx := if B.rx then Receiver.hunt else x.rx
    slot := if B.slot then none else x.slot
    overrun := if B.overrun then [] else x.overrun
    tx := if B.tx then none else x.tx }

/-- `cell` with the chosen parts blanked. -/
def Cell.blank (B : Parts) (x : Cell) : Cell :=
  {
    mode := if B.cell then Cell.reset.mode else x.mode
    ret := if B.cell then Cell.reset.ret else x.ret
    holdLatch := if B.cell then Cell.reset.holdLatch else x.holdLatch
    restart := if B.cell then Cell.reset.restart else x.restart
    idleTimer := if B.idle then Cell.reset.idleTimer else x.idleTimer }

/-- `seq` with the chosen parts blanked. -/
def Sequencer.blank (B : Parts) (x : Sequencer) : Sequencer :=
  {
    records := if B.records then Sequencer.reset.records else x.records
    runOf := if B.runOf then Sequencer.reset.runOf else x.runOf
    boards := if B.run then Sequencer.reset.boards else x.boards
    tabs := if B.run then Sequencer.reset.tabs else x.tabs
    order := if B.runOf then Sequencer.reset.order else x.order }

/-- `router` with the chosen parts blanked. -/
def Router.blank (B : Parts) (x : Router) : Router :=
  {
    state := if B.router then Router.reset.state else x.state
    operation := if B.router then Router.reset.operation else x.operation
    presented := if B.router then Router.reset.presented else x.presented
    clearance := if B.router then Router.reset.clearance else x.clearance
    wear := if B.wear then Router.reset.wear else x.wear
    life := if B.bitLife then Router.reset.life else x.life
    baseFeed := if B.bitLife then Router.reset.baseFeed else x.baseFeed
    bit := if B.wear then Router.reset.bit else x.bit
    override := if B.override then Router.reset.override else x.override
    sag := if B.router then Router.reset.sag else x.sag
    timer := if B.router then Router.reset.timer else x.timer }

/-- `spindle` with the chosen parts blanked. -/
def Spindle.blank (B : Parts) (x : Spindle) : Spindle :=
  {
    state := if B.spindle then Spindle.reset.state else x.state
    setpoint := if B.setpoint then Spindle.reset.setpoint else x.setpoint
    setTime := if B.timing then Spindle.reset.setTime else x.setTime
    parkTime := if B.timing then Spindle.reset.parkTime else x.parkTime
    stabilise := if B.spindle then Spindle.reset.stabilise else x.stabilise
    deadline := if B.spindle then Spindle.reset.deadline else x.deadline
    watch := if B.spindle then Spindle.reset.watch else x.watch
    lastEdge := if B.tach then Spindle.reset.lastEdge else x.lastEdge
    rpm := if B.tach then Spindle.reset.rpm else x.rpm
    qualify := if B.spindle then Spindle.reset.qualify else x.qualify
    edgeCounts := if B.spindle then Spindle.reset.edgeCounts else x.edgeCounts }

/-- `probe` with the chosen parts blanked. -/
def Probe.blank (B : Parts) (x : Probe) : Probe :=
  {
    settings := if B.settings then Probe.reset.settings else x.settings
    state := if B.probe then Probe.reset.state else x.state
    work := if B.probe then Probe.reset.work else x.work
    moveTimer := if B.probe then Probe.reset.moveTimer else x.moveTimer
    snapshot := if B.probe then Probe.reset.snapshot else x.snapshot }

/-- `picker` with the chosen parts blanked. -/
def Picker.blank (B : Parts) (x : Picker) : Picker :=
  {
    state := if B.picker then Picker.reset.state else x.state
    board := if B.picker then Picker.reset.board else x.board
    serial := if B.picker then Picker.reset.serial else x.serial
    nest := if B.picker then Picker.reset.nest else x.nest
    target := if B.picker then Picker.reset.target else x.target
    retry := if B.picker then Picker.reset.retry else x.retry
    withdrawn := if B.picker then Picker.reset.withdrawn else x.withdrawn
    stalled := if B.picker then Picker.reset.stalled else x.stalled
    moveTimer := if B.picker then Picker.reset.moveTimer else x.moveTimer
    gripTimer := if B.picker then Picker.reset.gripTimer else x.gripTimer
    vacOffTimer := if B.picker then Picker.reset.vacOffTimer else x.vacOffTimer
    blowTimer := if B.picker then Picker.reset.blowTimer else x.blowTimer
    windowTimer := if B.picker then Picker.reset.windowTimer else x.windowTimer
    gripTime := if B.gripTimes then Picker.reset.gripTime else x.gripTime
    blowTime := if B.gripTimes then Picker.reset.blowTime else x.blowTime }

/-- `outputs` with the chosen parts blanked. -/
def Outputs.blank (B : Parts) (x : Outputs) : Outputs :=
  {
    spindleRun := if B.outSpindle then Outputs.reset.spindleRun else x.spindleRun
    speedRef := if B.outSpindle then Outputs.reset.speedRef else x.speedRef
    vacuumOn := if B.outVacuum then Outputs.reset.vacuumOn else x.vacuumOn
    blowOff := if B.outBlow then Outputs.reset.blowOff else x.blowOff
    push := if B.outPush then Outputs.reset.push else x.push
    chuteGate := if B.outGate then Outputs.reset.chuteGate else x.chuteGate }

/-- `ports` with the chosen parts blanked. -/
def Ports.blank (B : Parts) (x : Ports) : Ports :=
  {
    router := if B.portRouter then Port.reset else x.router
    picker := if B.portPicker then Port.reset else x.picker
    transfer := if B.portTransfer then Port.reset else x.transfer
    elevator := if B.portElevator then Port.reset else x.elevator }

/-- `faults` with the chosen parts blanked. -/
def Faults.blank (B : Parts) (x : Faults) : Faults :=
  {
    levels := if B.levels then Faults.reset.levels else x.levels
    waiting := if B.faults then Faults.reset.waiting else x.waiting
    stack := if B.faults then Faults.reset.stack else x.stack
    allStop := if B.haltLatches then Faults.reset.allStop else x.allStop
    cutStop := if B.haltLatches then Faults.reset.cutStop else x.cutStop }

/-- An aux line with the chosen parts blanked. -/
def AuxLine.blank (B : Parts) (x : AuxLine) : AuxLine :=
  { mode := if B.auxSet then .rising else x.mode
    role := if B.auxSet then .notice else x.role
    enable := if B.auxSet then true else x.enable
    period := if B.auxSet then .p05 else x.period
    filter := if B.auxSet then Filter.reset else x.filter
    pin := if B.auxSet then none else x.pin
    latch := if B.auxLatch then .clear else x.latch }

/-- The field lines with the chosen parts blanked. -/
def Lines.blank (B : Parts) (x : Lines) : Lines :=
  { ded := if B.ded then Lines.reset.ded else x.ded
    aux := x.aux.map (AuxLine.blank B)
    stop := if B.stop then Filter.reset else x.stop }

/-- The state with the chosen parts blanked. Two states with the same mask differ in those parts alone. -/
def mask (B : Parts) (s : State) : State :=
  {
    link := Link.blank B s.link
    notices := if B.notices then State.reset.notices else s.notices
    recipe := if B.recipe then Recipe.reset else s.recipe
    cell := Cell.blank B s.cell
    seq := Sequencer.blank B s.seq
    router := Router.blank B s.router
    spindle := Spindle.blank B s.spindle
    probe := Probe.blank B s.probe
    picker := Picker.blank B s.picker
    nests := if B.nests then [] else s.nests
    stacker := if B.stacker then Stacker.reset else s.stacker
    bays := if B.bays then State.reset.bays else s.bays
    lines := Lines.blank B s.lines
    outputs := Outputs.blank B s.outputs
    ports := Ports.blank B s.ports
    faults := Faults.blank B s.faults
    free := if B.free then 0 else s.free
    pending := if B.pending then [] else s.pending }

@[simp] theorem mask_withLink {B : Parts} {s : State} {x} (h : Link.blank B x = Link.blank B s.link) :
    mask B (s.withLink x) = mask B s := by
  simp [mask, h]

@[simp] theorem mask_withNotices {B : Parts} {s : State} {x} (h : B.notices = true ∨ x = s.notices) :
    mask B (s.withNotices x) = mask B s := by
  obtain h | h := h <;> simp [mask, h]

@[simp] theorem mask_withRecipe {B : Parts} {s : State} {x} (h : B.recipe = true ∨ x = s.recipe) :
    mask B (s.withRecipe x) = mask B s := by
  obtain h | h := h <;> simp [mask, h]

@[simp] theorem mask_withCell {B : Parts} {s : State} {x} (h : Cell.blank B x = Cell.blank B s.cell) :
    mask B (s.withCell x) = mask B s := by
  simp [mask, h]

@[simp] theorem mask_withSeq {B : Parts} {s : State} {x} (h : Sequencer.blank B x = Sequencer.blank B s.seq) :
    mask B (s.withSeq x) = mask B s := by
  simp [mask, h]

@[simp] theorem mask_withRouter {B : Parts} {s : State} {x} (h : Router.blank B x = Router.blank B s.router) :
    mask B (s.withRouter x) = mask B s := by
  simp [mask, h]

@[simp] theorem mask_withSpindle {B : Parts} {s : State} {x} (h : Spindle.blank B x = Spindle.blank B s.spindle) :
    mask B (s.withSpindle x) = mask B s := by
  simp [mask, h]

@[simp] theorem mask_withProbe {B : Parts} {s : State} {x} (h : Probe.blank B x = Probe.blank B s.probe) :
    mask B (s.withProbe x) = mask B s := by
  simp [mask, h]

@[simp] theorem mask_withPicker {B : Parts} {s : State} {x} (h : Picker.blank B x = Picker.blank B s.picker) :
    mask B (s.withPicker x) = mask B s := by
  simp [mask, h]

@[simp] theorem mask_withNests {B : Parts} {s : State} {x} (h : B.nests = true ∨ x = s.nests) :
    mask B (s.withNests x) = mask B s := by
  obtain h | h := h <;> simp [mask, h]

@[simp] theorem mask_withStacker {B : Parts} {s : State} {x} (h : B.stacker = true ∨ x = s.stacker) :
    mask B (s.withStacker x) = mask B s := by
  obtain h | h := h <;> simp [mask, h]

@[simp] theorem mask_withBays {B : Parts} {s : State} {x} (h : B.bays = true ∨ x = s.bays) :
    mask B (s.withBays x) = mask B s := by
  obtain h | h := h <;> simp [mask, h]

@[simp] theorem mask_withLines {B : Parts} {s : State} {x} (h : Lines.blank B x = Lines.blank B s.lines) :
    mask B (s.withLines x) = mask B s := by
  simp [mask, h]

@[simp] theorem mask_withOutputs {B : Parts} {s : State} {x} (h : Outputs.blank B x = Outputs.blank B s.outputs) :
    mask B (s.withOutputs x) = mask B s := by
  simp [mask, h]

@[simp] theorem mask_withPorts {B : Parts} {s : State} {x} (h : Ports.blank B x = Ports.blank B s.ports) :
    mask B (s.withPorts x) = mask B s := by
  simp [mask, h]

@[simp] theorem mask_withFaults {B : Parts} {s : State} {x} (h : Faults.blank B x = Faults.blank B s.faults) :
    mask B (s.withFaults x) = mask B s := by
  simp [mask, h]

@[simp] theorem mask_withFree {B : Parts} {s : State} {x} (h : B.free = true ∨ x = s.free) :
    mask B (s.withFree x) = mask B s := by
  obtain h | h := h <;> simp [mask, h]

@[simp] theorem mask_withPending {B : Parts} {s : State} {x} (h : B.pending = true ∨ x = s.pending) :
    mask B (s.withPending x) = mask B s := by
  obtain h | h := h <;> simp [mask, h]

@[simp] theorem mask_foldl {α : Type} {B : Parts} {f : State → α → State} (h : ∀ s x, mask B (f s x) = mask B s)
    (l : List α) (s : State) : mask B (l.foldl f s) = mask B s := by
  induction l generalizing s with
  | nil => rfl
  | cons x t ih => simp [ih, h]

@[simp] theorem mask_ite {B : Parts} {c : Prop} [Decidable c] {s t : State} :
    mask B (if c then s else t) = if c then mask B s else mask B t := apply_ite (mask B) c s t

/-! What equal masks say of each part that is not chosen. -/

theorem mask_link_rx {B : Parts} {s t : State} (h : mask B t = mask B s) (hB : B.rx = false) :
    t.link.rx = s.link.rx := by
  simpa [mask, Link.blank, hB] using congrArg (fun u => u.link.rx) h

theorem mask_link_slot {B : Parts} {s t : State} (h : mask B t = mask B s) (hB : B.slot = false) :
    t.link.slot = s.link.slot := by
  simpa [mask, Link.blank, hB] using congrArg (fun u => u.link.slot) h

theorem mask_link_overrun {B : Parts} {s t : State} (h : mask B t = mask B s) (hB : B.overrun = false) :
    t.link.overrun = s.link.overrun := by
  simpa [mask, Link.blank, hB] using congrArg (fun u => u.link.overrun) h

theorem mask_link_tx {B : Parts} {s t : State} (h : mask B t = mask B s) (hB : B.tx = false) :
    t.link.tx = s.link.tx := by
  simpa [mask, Link.blank, hB] using congrArg (fun u => u.link.tx) h

theorem mask_notices {B : Parts} {s t : State} (h : mask B t = mask B s) (hB : B.notices = false) : t.notices = s.notices := by
  simpa [mask, hB] using congrArg State.notices h

theorem mask_recipe {B : Parts} {s t : State} (h : mask B t = mask B s) (hB : B.recipe = false) : t.recipe = s.recipe := by
  simpa [mask, hB] using congrArg State.recipe h

theorem mask_cell_mode {B : Parts} {s t : State} (h : mask B t = mask B s) (hB : B.cell = false) :
    t.cell.mode = s.cell.mode := by
  simpa [mask, Cell.blank, hB] using congrArg (fun u => u.cell.mode) h

theorem mask_cell_ret {B : Parts} {s t : State} (h : mask B t = mask B s) (hB : B.cell = false) :
    t.cell.ret = s.cell.ret := by
  simpa [mask, Cell.blank, hB] using congrArg (fun u => u.cell.ret) h

theorem mask_cell_holdLatch {B : Parts} {s t : State} (h : mask B t = mask B s) (hB : B.cell = false) :
    t.cell.holdLatch = s.cell.holdLatch := by
  simpa [mask, Cell.blank, hB] using congrArg (fun u => u.cell.holdLatch) h

theorem mask_cell_restart {B : Parts} {s t : State} (h : mask B t = mask B s) (hB : B.cell = false) :
    t.cell.restart = s.cell.restart := by
  simpa [mask, Cell.blank, hB] using congrArg (fun u => u.cell.restart) h

theorem mask_cell_idleTimer {B : Parts} {s t : State} (h : mask B t = mask B s) (hB : B.idle = false) :
    t.cell.idleTimer = s.cell.idleTimer := by
  simpa [mask, Cell.blank, hB] using congrArg (fun u => u.cell.idleTimer) h

theorem mask_seq_records {B : Parts} {s t : State} (h : mask B t = mask B s) (hB : B.records = false) :
    t.seq.records = s.seq.records := by
  simpa [mask, Sequencer.blank, hB] using congrArg (fun u => u.seq.records) h

theorem mask_seq_runOf {B : Parts} {s t : State} (h : mask B t = mask B s) (hB : B.runOf = false) :
    t.seq.runOf = s.seq.runOf := by
  simpa [mask, Sequencer.blank, hB] using congrArg (fun u => u.seq.runOf) h

theorem mask_seq_boards {B : Parts} {s t : State} (h : mask B t = mask B s) (hB : B.run = false) :
    t.seq.boards = s.seq.boards := by
  simpa [mask, Sequencer.blank, hB] using congrArg (fun u => u.seq.boards) h

theorem mask_seq_tabs {B : Parts} {s t : State} (h : mask B t = mask B s) (hB : B.run = false) :
    t.seq.tabs = s.seq.tabs := by
  simpa [mask, Sequencer.blank, hB] using congrArg (fun u => u.seq.tabs) h

theorem mask_seq_order {B : Parts} {s t : State} (h : mask B t = mask B s) (hB : B.runOf = false) :
    t.seq.order = s.seq.order := by
  simpa [mask, Sequencer.blank, hB] using congrArg (fun u => u.seq.order) h

theorem mask_router_state {B : Parts} {s t : State} (h : mask B t = mask B s) (hB : B.router = false) :
    t.router.state = s.router.state := by
  simpa [mask, Router.blank, hB] using congrArg (fun u => u.router.state) h

theorem mask_router_operation {B : Parts} {s t : State} (h : mask B t = mask B s) (hB : B.router = false) :
    t.router.operation = s.router.operation := by
  simpa [mask, Router.blank, hB] using congrArg (fun u => u.router.operation) h

theorem mask_router_presented {B : Parts} {s t : State} (h : mask B t = mask B s) (hB : B.router = false) :
    t.router.presented = s.router.presented := by
  simpa [mask, Router.blank, hB] using congrArg (fun u => u.router.presented) h

theorem mask_router_clearance {B : Parts} {s t : State} (h : mask B t = mask B s) (hB : B.router = false) :
    t.router.clearance = s.router.clearance := by
  simpa [mask, Router.blank, hB] using congrArg (fun u => u.router.clearance) h

theorem mask_router_wear {B : Parts} {s t : State} (h : mask B t = mask B s) (hB : B.wear = false) :
    t.router.wear = s.router.wear := by
  simpa [mask, Router.blank, hB] using congrArg (fun u => u.router.wear) h

theorem mask_router_life {B : Parts} {s t : State} (h : mask B t = mask B s) (hB : B.bitLife = false) :
    t.router.life = s.router.life := by
  simpa [mask, Router.blank, hB] using congrArg (fun u => u.router.life) h

theorem mask_router_baseFeed {B : Parts} {s t : State} (h : mask B t = mask B s) (hB : B.bitLife = false) :
    t.router.baseFeed = s.router.baseFeed := by
  simpa [mask, Router.blank, hB] using congrArg (fun u => u.router.baseFeed) h

theorem mask_router_bit {B : Parts} {s t : State} (h : mask B t = mask B s) (hB : B.wear = false) :
    t.router.bit = s.router.bit := by
  simpa [mask, Router.blank, hB] using congrArg (fun u => u.router.bit) h

theorem mask_router_override {B : Parts} {s t : State} (h : mask B t = mask B s) (hB : B.override = false) :
    t.router.override = s.router.override := by
  simpa [mask, Router.blank, hB] using congrArg (fun u => u.router.override) h

theorem mask_router_sag {B : Parts} {s t : State} (h : mask B t = mask B s) (hB : B.router = false) :
    t.router.sag = s.router.sag := by
  simpa [mask, Router.blank, hB] using congrArg (fun u => u.router.sag) h

theorem mask_router_timer {B : Parts} {s t : State} (h : mask B t = mask B s) (hB : B.router = false) :
    t.router.timer = s.router.timer := by
  simpa [mask, Router.blank, hB] using congrArg (fun u => u.router.timer) h

theorem mask_spindle_state {B : Parts} {s t : State} (h : mask B t = mask B s) (hB : B.spindle = false) :
    t.spindle.state = s.spindle.state := by
  simpa [mask, Spindle.blank, hB] using congrArg (fun u => u.spindle.state) h

theorem mask_spindle_setpoint {B : Parts} {s t : State} (h : mask B t = mask B s) (hB : B.setpoint = false) :
    t.spindle.setpoint = s.spindle.setpoint := by
  simpa [mask, Spindle.blank, hB] using congrArg (fun u => u.spindle.setpoint) h

theorem mask_spindle_setTime {B : Parts} {s t : State} (h : mask B t = mask B s) (hB : B.timing = false) :
    t.spindle.setTime = s.spindle.setTime := by
  simpa [mask, Spindle.blank, hB] using congrArg (fun u => u.spindle.setTime) h

theorem mask_spindle_parkTime {B : Parts} {s t : State} (h : mask B t = mask B s) (hB : B.timing = false) :
    t.spindle.parkTime = s.spindle.parkTime := by
  simpa [mask, Spindle.blank, hB] using congrArg (fun u => u.spindle.parkTime) h

theorem mask_spindle_stabilise {B : Parts} {s t : State} (h : mask B t = mask B s) (hB : B.spindle = false) :
    t.spindle.stabilise = s.spindle.stabilise := by
  simpa [mask, Spindle.blank, hB] using congrArg (fun u => u.spindle.stabilise) h

theorem mask_spindle_deadline {B : Parts} {s t : State} (h : mask B t = mask B s) (hB : B.spindle = false) :
    t.spindle.deadline = s.spindle.deadline := by
  simpa [mask, Spindle.blank, hB] using congrArg (fun u => u.spindle.deadline) h

theorem mask_spindle_watch {B : Parts} {s t : State} (h : mask B t = mask B s) (hB : B.spindle = false) :
    t.spindle.watch = s.spindle.watch := by
  simpa [mask, Spindle.blank, hB] using congrArg (fun u => u.spindle.watch) h

theorem mask_spindle_lastEdge {B : Parts} {s t : State} (h : mask B t = mask B s) (hB : B.tach = false) :
    t.spindle.lastEdge = s.spindle.lastEdge := by
  simpa [mask, Spindle.blank, hB] using congrArg (fun u => u.spindle.lastEdge) h

theorem mask_spindle_rpm {B : Parts} {s t : State} (h : mask B t = mask B s) (hB : B.tach = false) :
    t.spindle.rpm = s.spindle.rpm := by
  simpa [mask, Spindle.blank, hB] using congrArg (fun u => u.spindle.rpm) h

theorem mask_spindle_qualify {B : Parts} {s t : State} (h : mask B t = mask B s) (hB : B.spindle = false) :
    t.spindle.qualify = s.spindle.qualify := by
  simpa [mask, Spindle.blank, hB] using congrArg (fun u => u.spindle.qualify) h

theorem mask_spindle_edgeCounts {B : Parts} {s t : State} (h : mask B t = mask B s) (hB : B.spindle = false) :
    t.spindle.edgeCounts = s.spindle.edgeCounts := by
  simpa [mask, Spindle.blank, hB] using congrArg (fun u => u.spindle.edgeCounts) h

theorem mask_probe_settings {B : Parts} {s t : State} (h : mask B t = mask B s) (hB : B.settings = false) :
    t.probe.settings = s.probe.settings := by
  simpa [mask, Probe.blank, hB] using congrArg (fun u => u.probe.settings) h

theorem mask_probe_state {B : Parts} {s t : State} (h : mask B t = mask B s) (hB : B.probe = false) :
    t.probe.state = s.probe.state := by
  simpa [mask, Probe.blank, hB] using congrArg (fun u => u.probe.state) h

theorem mask_probe_work {B : Parts} {s t : State} (h : mask B t = mask B s) (hB : B.probe = false) :
    t.probe.work = s.probe.work := by
  simpa [mask, Probe.blank, hB] using congrArg (fun u => u.probe.work) h

theorem mask_probe_moveTimer {B : Parts} {s t : State} (h : mask B t = mask B s) (hB : B.probe = false) :
    t.probe.moveTimer = s.probe.moveTimer := by
  simpa [mask, Probe.blank, hB] using congrArg (fun u => u.probe.moveTimer) h

theorem mask_probe_snapshot {B : Parts} {s t : State} (h : mask B t = mask B s) (hB : B.probe = false) :
    t.probe.snapshot = s.probe.snapshot := by
  simpa [mask, Probe.blank, hB] using congrArg (fun u => u.probe.snapshot) h

theorem mask_picker_state {B : Parts} {s t : State} (h : mask B t = mask B s) (hB : B.picker = false) :
    t.picker.state = s.picker.state := by
  simpa [mask, Picker.blank, hB] using congrArg (fun u => u.picker.state) h

theorem mask_picker_board {B : Parts} {s t : State} (h : mask B t = mask B s) (hB : B.picker = false) :
    t.picker.board = s.picker.board := by
  simpa [mask, Picker.blank, hB] using congrArg (fun u => u.picker.board) h

theorem mask_picker_serial {B : Parts} {s t : State} (h : mask B t = mask B s) (hB : B.picker = false) :
    t.picker.serial = s.picker.serial := by
  simpa [mask, Picker.blank, hB] using congrArg (fun u => u.picker.serial) h

theorem mask_picker_nest {B : Parts} {s t : State} (h : mask B t = mask B s) (hB : B.picker = false) :
    t.picker.nest = s.picker.nest := by
  simpa [mask, Picker.blank, hB] using congrArg (fun u => u.picker.nest) h

theorem mask_picker_target {B : Parts} {s t : State} (h : mask B t = mask B s) (hB : B.picker = false) :
    t.picker.target = s.picker.target := by
  simpa [mask, Picker.blank, hB] using congrArg (fun u => u.picker.target) h

theorem mask_picker_retry {B : Parts} {s t : State} (h : mask B t = mask B s) (hB : B.picker = false) :
    t.picker.retry = s.picker.retry := by
  simpa [mask, Picker.blank, hB] using congrArg (fun u => u.picker.retry) h

theorem mask_picker_withdrawn {B : Parts} {s t : State} (h : mask B t = mask B s) (hB : B.picker = false) :
    t.picker.withdrawn = s.picker.withdrawn := by
  simpa [mask, Picker.blank, hB] using congrArg (fun u => u.picker.withdrawn) h

theorem mask_picker_stalled {B : Parts} {s t : State} (h : mask B t = mask B s) (hB : B.picker = false) :
    t.picker.stalled = s.picker.stalled := by
  simpa [mask, Picker.blank, hB] using congrArg (fun u => u.picker.stalled) h

theorem mask_picker_moveTimer {B : Parts} {s t : State} (h : mask B t = mask B s) (hB : B.picker = false) :
    t.picker.moveTimer = s.picker.moveTimer := by
  simpa [mask, Picker.blank, hB] using congrArg (fun u => u.picker.moveTimer) h

theorem mask_picker_gripTimer {B : Parts} {s t : State} (h : mask B t = mask B s) (hB : B.picker = false) :
    t.picker.gripTimer = s.picker.gripTimer := by
  simpa [mask, Picker.blank, hB] using congrArg (fun u => u.picker.gripTimer) h

theorem mask_picker_vacOffTimer {B : Parts} {s t : State} (h : mask B t = mask B s) (hB : B.picker = false) :
    t.picker.vacOffTimer = s.picker.vacOffTimer := by
  simpa [mask, Picker.blank, hB] using congrArg (fun u => u.picker.vacOffTimer) h

theorem mask_picker_blowTimer {B : Parts} {s t : State} (h : mask B t = mask B s) (hB : B.picker = false) :
    t.picker.blowTimer = s.picker.blowTimer := by
  simpa [mask, Picker.blank, hB] using congrArg (fun u => u.picker.blowTimer) h

theorem mask_picker_windowTimer {B : Parts} {s t : State} (h : mask B t = mask B s) (hB : B.picker = false) :
    t.picker.windowTimer = s.picker.windowTimer := by
  simpa [mask, Picker.blank, hB] using congrArg (fun u => u.picker.windowTimer) h

theorem mask_picker_gripTime {B : Parts} {s t : State} (h : mask B t = mask B s) (hB : B.gripTimes = false) :
    t.picker.gripTime = s.picker.gripTime := by
  simpa [mask, Picker.blank, hB] using congrArg (fun u => u.picker.gripTime) h

theorem mask_picker_blowTime {B : Parts} {s t : State} (h : mask B t = mask B s) (hB : B.gripTimes = false) :
    t.picker.blowTime = s.picker.blowTime := by
  simpa [mask, Picker.blank, hB] using congrArg (fun u => u.picker.blowTime) h

theorem mask_nests {B : Parts} {s t : State} (h : mask B t = mask B s) (hB : B.nests = false) : t.nests = s.nests := by
  simpa [mask, hB] using congrArg State.nests h

theorem mask_stacker {B : Parts} {s t : State} (h : mask B t = mask B s) (hB : B.stacker = false) : t.stacker = s.stacker := by
  simpa [mask, hB] using congrArg State.stacker h

theorem mask_bays {B : Parts} {s t : State} (h : mask B t = mask B s) (hB : B.bays = false) : t.bays = s.bays := by
  simpa [mask, hB] using congrArg State.bays h

theorem mask_lines_ded {B : Parts} {s t : State} (h : mask B t = mask B s) (hB : B.ded = false) : t.lines.ded = s.lines.ded := by
  simpa [mask, Lines.blank, hB] using congrArg (fun u => u.lines.ded) h

theorem mask_lines_stop {B : Parts} {s t : State} (h : mask B t = mask B s) (hB : B.stop = false) : t.lines.stop = s.lines.stop := by
  simpa [mask, Lines.blank, hB] using congrArg (fun u => u.lines.stop) h

theorem mask_lines {B : Parts} {s t : State} (h : mask B t = mask B s) : Lines.blank B t.lines = Lines.blank B s.lines :=
  congrArg State.lines h

theorem mask_outputs_spindleRun {B : Parts} {s t : State} (h : mask B t = mask B s) (hB : B.outSpindle = false) :
    t.outputs.spindleRun = s.outputs.spindleRun := by
  simpa [mask, Outputs.blank, hB] using congrArg (fun u => u.outputs.spindleRun) h

theorem mask_outputs_speedRef {B : Parts} {s t : State} (h : mask B t = mask B s) (hB : B.outSpindle = false) :
    t.outputs.speedRef = s.outputs.speedRef := by
  simpa [mask, Outputs.blank, hB] using congrArg (fun u => u.outputs.speedRef) h

theorem mask_outputs_vacuumOn {B : Parts} {s t : State} (h : mask B t = mask B s) (hB : B.outVacuum = false) :
    t.outputs.vacuumOn = s.outputs.vacuumOn := by
  simpa [mask, Outputs.blank, hB] using congrArg (fun u => u.outputs.vacuumOn) h

theorem mask_outputs_blowOff {B : Parts} {s t : State} (h : mask B t = mask B s) (hB : B.outBlow = false) :
    t.outputs.blowOff = s.outputs.blowOff := by
  simpa [mask, Outputs.blank, hB] using congrArg (fun u => u.outputs.blowOff) h

theorem mask_outputs_push {B : Parts} {s t : State} (h : mask B t = mask B s) (hB : B.outPush = false) :
    t.outputs.push = s.outputs.push := by
  simpa [mask, Outputs.blank, hB] using congrArg (fun u => u.outputs.push) h

theorem mask_outputs_chuteGate {B : Parts} {s t : State} (h : mask B t = mask B s) (hB : B.outGate = false) :
    t.outputs.chuteGate = s.outputs.chuteGate := by
  simpa [mask, Outputs.blank, hB] using congrArg (fun u => u.outputs.chuteGate) h

theorem mask_ports_router {B : Parts} {s t : State} (h : mask B t = mask B s) (hB : B.portRouter = false) :
    t.ports.router = s.ports.router := by
  simpa [mask, Ports.blank, hB] using congrArg (fun u => u.ports.router) h

theorem mask_ports_picker {B : Parts} {s t : State} (h : mask B t = mask B s) (hB : B.portPicker = false) :
    t.ports.picker = s.ports.picker := by
  simpa [mask, Ports.blank, hB] using congrArg (fun u => u.ports.picker) h

theorem mask_ports_transfer {B : Parts} {s t : State} (h : mask B t = mask B s) (hB : B.portTransfer = false) :
    t.ports.transfer = s.ports.transfer := by
  simpa [mask, Ports.blank, hB] using congrArg (fun u => u.ports.transfer) h

theorem mask_ports_elevator {B : Parts} {s t : State} (h : mask B t = mask B s) (hB : B.portElevator = false) :
    t.ports.elevator = s.ports.elevator := by
  simpa [mask, Ports.blank, hB] using congrArg (fun u => u.ports.elevator) h

theorem mask_faults_levels {B : Parts} {s t : State} (h : mask B t = mask B s) (hB : B.levels = false) :
    t.faults.levels = s.faults.levels := by
  simpa [mask, Faults.blank, hB] using congrArg (fun u => u.faults.levels) h

theorem mask_faults_waiting {B : Parts} {s t : State} (h : mask B t = mask B s) (hB : B.faults = false) :
    t.faults.waiting = s.faults.waiting := by
  simpa [mask, Faults.blank, hB] using congrArg (fun u => u.faults.waiting) h

theorem mask_faults_stack {B : Parts} {s t : State} (h : mask B t = mask B s) (hB : B.faults = false) :
    t.faults.stack = s.faults.stack := by
  simpa [mask, Faults.blank, hB] using congrArg (fun u => u.faults.stack) h

theorem mask_faults_allStop {B : Parts} {s t : State} (h : mask B t = mask B s) (hB : B.haltLatches = false) :
    t.faults.allStop = s.faults.allStop := by
  simpa [mask, Faults.blank, hB] using congrArg (fun u => u.faults.allStop) h

theorem mask_faults_cutStop {B : Parts} {s t : State} (h : mask B t = mask B s) (hB : B.haltLatches = false) :
    t.faults.cutStop = s.faults.cutStop := by
  simpa [mask, Faults.blank, hB] using congrArg (fun u => u.faults.cutStop) h

theorem mask_free {B : Parts} {s t : State} (h : mask B t = mask B s) (hB : B.free = false) : t.free = s.free := by
  simpa [mask, hB] using congrArg State.free h

theorem mask_pending {B : Parts} {s t : State} (h : mask B t = mask B s) (hB : B.pending = false) : t.pending = s.pending := by
  simpa [mask, hB] using congrArg State.pending h

end Sys2Proof.Machine
end

