-- ==== Sys2Proof/Laws/FrameOps.lean ====
section
/-! SUPPORT. What each operation the units share changes: nothing outside the parts named (one lemma per operation). -/

namespace Sys2Proof.Machine

@[simp] theorem raiseNotice_mask {B : Parts} (n : Notice) (payload : List Byte) (s : State)
    (h1 : B.notices = true) :
    mask B (raiseNotice n payload s) = mask B s := by
  unfold raiseNotice
  simp [h1]

@[simp] theorem clearNotice_mask {B : Parts} (n : Notice) (s : State)
    (h1 : B.tx = true) (h2 : B.notices = true) :
    mask B (clearNotice n s) = mask B s := by
  unfold clearNotice
  simp [h1, h2, Link.blank]

@[simp] theorem haltCell_mask {B : Parts} (s : State)
    (h1 : B.cell = true) (h2 : B.idle = true) :
    mask B (haltCell s) = mask B s := by
  unfold haltCell
  repeat' split
  all_goals simp [h1, h2, Cell.blank]

@[simp] theorem takeRule_mask {B : Parts} (s : State)
    (h1 : B.notices = true) (h2 : B.faults = true) :
    mask B (takeRule s) = mask B s := by
  unfold takeRule
  dsimp only
  repeat' split
  all_goals simp [h1, h2, Faults.blank]

@[simp] theorem raiseRecord_mask {B : Parts} (src : Source) (d : Detail) (s : State)
    (h1 : B.notices = true) (h2 : B.cell = true) (h3 : B.idle = true) (h4 : B.faults = true) (h5 : B.haltLatches = true) :
    mask B (raiseRecord src d s) = mask B s := by
  have e : ∀ l f, (setLatch l f).levels = f.levels := by
    intro l f; unfold setLatch; split <;> (try split) <;> rfl
  have k : ∀ f : Faults, f.levels = s.faults.levels → Faults.blank B f = Faults.blank B s.faults := by
    intro f hf; simp [Faults.blank, h4, h5, hf]
  unfold raiseRecord
  split
  · rw [haltCell_mask _ h2 h3]
    exact mask_withFaults (k _ (e _ _))
  · dsimp only
    rw [takeRule_mask _ h1 h4, haltCell_mask _ h2 h3]
    exact mask_withFaults (k _ (e _ _))

@[simp] theorem enterMode_mask {B : Parts} (m : Mode) (s : State)
    (h1 : B.notices = true) (h2 : B.cell = true) (h3 : B.idle = true) :
    mask B (enterMode m s) = mask B s := by
  unfold enterMode
  simp [h1, h2, h3, Cell.blank]

@[simp] theorem orphanOperation_mask {B : Parts} (s : State)
    (h1 : B.router = true) (h2 : B.probe = true) :
    mask B (orphanOperation s) = mask B s := by
  unfold orphanOperation
  simp [h1, h2, Router.blank, Probe.blank]

@[simp] theorem modBoard_mask {B : Parts} (b : Fin 64) (f : BoardRun → BoardRun) (s : State)
    (h1 : B.run = true) :
    mask B (modBoard b f s) = mask B s := by
  unfold modBoard
  simp [h1, Sequencer.blank]

@[simp] theorem modTab_mask {B : Parts} (t : Fin 256) (f : TabRun → TabRun) (s : State)
    (h1 : B.run = true) :
    mask B (modTab t f s) = mask B s := by
  unfold modTab
  simp [h1, Sequencer.blank]

@[simp] theorem setTab_mask {B : Parts} (t : Fin 256) (st : TabState) (s : State)
    (h1 : B.run = true) :
    mask B (setTab t st s) = mask B s := by
  unfold setTab
  simp [h1]

@[simp] theorem setBoard_mask {B : Parts} (b : Fin 64) (st : BoardState) (s : State)
    (h1 : B.run = true) :
    mask B (setBoard b st s) = mask B s := by
  unfold setBoard
  simp [h1]

@[simp] theorem modRecords_mask {B : Parts} (p : PanelRec → Bool) (f : PanelRec → PanelRec) (s : State)
    (h1 : B.records = true) :
    mask B (modRecords p f s) = mask B s := by
  unfold modRecords
  simp [h1, Sequencer.blank]

@[simp] theorem tallyCutting_mask {B : Parts} (f : PanelRec → PanelRec) (s : State)
    (h1 : B.records = true) :
    mask B (tallyCutting f s) = mask B s := by
  unfold tallyCutting
  simp [h1]

@[simp] theorem tallySerial_mask {B : Parts} (serial : Serial) (f : PanelRec → PanelRec) (s : State)
    (h1 : B.records = true) :
    mask B (tallySerial serial f s) = mask B s := by
  unfold tallySerial
  simp [h1]

@[simp] theorem clearBoardNest_mask {B : Parts} (serial : Serial) (b : Fin 64) (s : State)
    (h1 : B.run = true) :
    mask B (clearBoardNest serial b s) = mask B s := by
  unfold clearBoardNest
  simp [h1]

@[simp] theorem releaseReservation_mask {B : Parts} (b : Fin 64) (s : State)
    (h1 : B.run = true) (h2 : B.nests = true) :
    mask B (releaseReservation b s) = mask B s := by
  unfold releaseReservation
  simp [h1, h2]

@[simp] theorem boardFailed_mask {B : Parts} (b : Fin 64) (s : State)
    (h1 : B.records = true) (h2 : B.run = true) :
    mask B (boardFailed b s) = mask B s := by
  unfold boardFailed
  simp [h1, h2]

@[simp] theorem boardAbandoned_mask {B : Parts} (b : Fin 64) (s : State)
    (h1 : B.records = true) (h2 : B.run = true) :
    mask B (boardAbandoned b s) = mask B s := by
  unfold boardAbandoned
  simp [h1, h2]

@[simp] theorem boardLostEarly_mask {B : Parts} (b : Fin 64) (s : State)
    (h1 : B.records = true) (h2 : B.run = true) (h3 : B.nests = true) :
    mask B (boardLostEarly b s) = mask B s := by
  unfold boardLostEarly
  simp [h1, h2, h3]

@[simp] theorem bypassTab_mask {B : Parts} (s : State) (t : Fin 256)
    (h1 : B.run = true) :
    mask B (bypassTab s t) = mask B s := by
  unfold bypassTab
  repeat' split
  all_goals simp [h1]

@[simp] theorem bypassTabs_mask {B : Parts} (b : Fin 64) (s : State)
    (h1 : B.run = true) :
    mask B (bypassTabs b s) = mask B s := by
  unfold bypassTabs
  simp [h1]

@[simp] theorem reportOutcome_mask {B : Parts} (serial : Serial) (b : Fin 64) (tally : PanelRec → PanelRec) (f : BoardRun → BoardRun)
    (s : State)
    (h1 : B.records = true) (h2 : B.run = true) :
    mask B (reportOutcome serial b tally f s) = mask B s := by
  unfold reportOutcome
  simp [h1, h2]

@[simp] theorem reportLost_mask {B : Parts} (serial : Serial) (b : Fin 64) (s : State)
    (h1 : B.records = true) (h2 : B.run = true) :
    mask B (reportLost serial b s) = mask B s := by
  unfold reportLost
  simp [h1, h2]

@[simp] theorem reportChuted_mask {B : Parts} (serial : Serial) (b : Fin 64) (s : State)
    (h1 : B.records = true) (h2 : B.run = true) :
    mask B (reportChuted serial b s) = mask B s := by
  unfold reportChuted
  simp [h1, h2]

@[simp] theorem reportStacked_mask {B : Parts} (serial : Serial) (b : Fin 64) (x : Bay) (slot : Nat) (s : State)
    (h1 : B.records = true) (h2 : B.run = true) :
    mask B (reportStacked serial b x slot s) = mask B s := by
  unfold reportStacked
  simp [h1, h2]

@[simp] theorem removeComplete_mask {B : Parts} (s : State)
    (h1 : B.notices = true) (h2 : B.records = true) :
    mask B (removeComplete s) = mask B s := by
  unfold removeComplete
  simp [h1, h2, Sequencer.blank]

@[simp] theorem leaveCuttingMode_mask {B : Parts} (s : State)
    (h1 : B.notices = true) (h2 : B.cell = true) (h3 : B.idle = true) :
    mask B (leaveCuttingMode s) = mask B s := by
  unfold leaveCuttingMode
  repeat' split
  all_goals simp [h1, h2, h3, Cell.blank]

@[simp] theorem recordTest_mask {B : Parts} (s : State)
    (h1 : B.notices = true) (h2 : B.cell = true) (h3 : B.idle = true) (h4 : B.records = true) :
    mask B (recordTest s) = mask B s := by
  unfold recordTest
  dsimp only
  repeat' split
  all_goals simp [h1, h2, h3, h4]

@[simp] theorem addWear_mask {B : Parts} (raise : Raiser) (dw : Nat) (s : State) (hr : ∀ src d s, mask B (raise src d s) = mask B s)
    (h1 : B.notices = true) (h2 : B.wear = true) :
    mask B (addWear raise dw s) = mask B s := by
  unfold addWear
  simp [h1, h2, hr, Router.blank]

@[simp] theorem enterSpinup_mask {B : Parts} (ms : Nat) (s : State)
    (h1 : B.spindle = true) (h2 : B.outSpindle = true) :
    mask B (enterSpinup ms s) = mask B s := by
  unfold enterSpinup
  simp [h1, h2, Spindle.blank, Outputs.blank]

@[simp] theorem startSpindle_mask {B : Parts} (s : State)
    (h1 : B.spindle = true) (h2 : B.outSpindle = true) :
    mask B (startSpindle s) = mask B s := by
  unfold startSpindle
  repeat' split
  all_goals simp [h1, h2]

@[simp] theorem stopSpindle_mask {B : Parts} (s : State)
    (h1 : B.spindle = true) (h2 : B.outSpindle = true) :
    mask B (stopSpindle s) = mask B s := by
  unfold stopSpindle
  dsimp only
  repeat' split
  all_goals simp [h1, h2, Spindle.blank, Outputs.blank]

@[simp] theorem presentMove_mask {B : Parts} (s : State)
    (h1 : B.picker = true) (h2 : B.portPicker = true) :
    mask B (presentMove s) = mask B s := by
  unfold presentMove
  dsimp only
  repeat' split
  all_goals simp [h1, h2, Picker.blank, Ports.blank]

@[simp] theorem dueMove_mask {B : Parts} (s : State)
    (h1 : B.picker = true) (h2 : B.portPicker = true) :
    mask B (dueMove s) = mask B s := by
  unfold dueMove
  simp [h1, h2, Picker.blank]

@[simp] theorem enterReturning_mask {B : Parts} (s : State)
    (h1 : B.picker = true) (h2 : B.portPicker = true) :
    mask B (enterReturning s) = mask B s := by
  unfold enterReturning
  simp [h1, h2, Picker.blank]

@[simp] theorem setVacuum_mask {B : Parts} (on : Bool) (s : State)
    (h1 : B.outVacuum = true) :
    mask B (setVacuum on s) = mask B s := by
  unfold setVacuum
  simp [h1, Outputs.blank]

@[simp] theorem letGo_mask {B : Parts} (b : Fin 64) (s : State)
    (h1 : B.run = true) (h2 : B.picker = true) (h3 : B.nests = true) (h4 : B.outVacuum = true) (h5 : B.portPicker = true) :
    mask B (letGo b s) = mask B s := by
  unfold letGo
  dsimp only
  repeat' split
  all_goals simp [h1, h2, h3, h4, h5, Picker.blank]

@[simp] theorem setBay_mask {B : Parts} (x : Bay) (r : BayRec) (s : State)
    (h1 : B.bays = true) :
    mask B (setBay x r s) = mask B s := by
  unfold setBay
  repeat' split
  all_goals simp [h1]

@[simp] theorem completeBay_mask {B : Parts} (x : Bay) (s : State)
    (h1 : B.notices = true) (h2 : B.bays = true) :
    mask B (completeBay x s) = mask B s := by
  unfold completeBay
  simp [h1, h2]

@[simp] theorem setSlot_mask {B : Parts} (x : Bay) (slot : Nat) (v : SlotState) (s : State)
    (h1 : B.bays = true) :
    mask B (setSlot x slot v s) = mask B s := by
  unfold setSlot
  simp [h1]

@[simp] theorem advance_mask {B : Parts} (x : Bay) (s : State)
    (h1 : B.notices = true) (h2 : B.bays = true) :
    mask B (advance x s) = mask B s := by
  unfold advance
  dsimp only
  repeat' split
  all_goals simp [h1, h2]

@[simp] theorem presentRouter_mask {B : Parts} (o : Order) (s : State)
    (h1 : B.portRouter = true) :
    mask B (presentRouter o s) = mask B s := by
  unfold presentRouter
  simp [h1, Ports.blank]

@[simp] theorem stopRouterPort_mask {B : Parts} (s : State)
    (h1 : B.router = true) (h2 : B.portRouter = true) :
    mask B (stopRouterPort s) = mask B s := by
  unfold stopRouterPort
  simp [h1, h2, Router.blank, Ports.blank]

@[simp] theorem presentMoveClear_mask {B : Parts} (s : State)
    (h1 : B.router = true) (h2 : B.portRouter = true) :
    mask B (presentMoveClear s) = mask B s := by
  unfold presentMoveClear
  simp [h1, h2, Router.blank]

@[simp] theorem presentCut_mask {B : Parts} (op : Operation) (s : State)
    (h1 : B.router = true) (h2 : B.portRouter = true) :
    mask B (presentCut op s) = mask B s := by
  unfold presentCut
  simp [h1, h2, Router.blank]

@[simp] theorem presentOrHoldCut_mask {B : Parts} (op : Operation) (s : State)
    (h1 : B.router = true) (h2 : B.portRouter = true) :
    mask B (presentOrHoldCut op s) = mask B s := by
  unfold presentOrHoldCut
  simp [h1, h2]

@[simp] theorem startCut_mask {B : Parts} (op : Operation) (s : State)
    (h1 : B.router = true) (h2 : B.portRouter = true) :
    mask B (startCut op s) = mask B s := by
  unfold startCut
  simp [h1, h2, Router.blank]

@[simp] theorem verifySetup_mask {B : Parts} (op : Operation) (s : State)
    (h1 : B.router = true) (h2 : B.probe = true) :
    mask B (verifySetup op s) = mask B s := by
  unfold verifySetup
  simp [h1, h2, Router.blank, Probe.blank]

@[simp] theorem presentProbeMove_mask {B : Parts} (w : Verify) (s : State)
    (h1 : B.probe = true) (h2 : B.portRouter = true) :
    mask B (presentProbeMove w s) = mask B s := by
  unfold presentProbeMove
  simp [h1, h2, Probe.blank]

@[simp] theorem dropRouter_mask {B : Parts} (s : State)
    (h1 : B.router = true) (h2 : B.probe = true) (h3 : B.portRouter = true) :
    mask B (dropRouter s) = mask B s := by
  unfold dropRouter
  simp [h1, h2, h3, Router.blank, Probe.blank]

@[simp] theorem giveUp_mask {B : Parts} (raise : Raiser) (t : Fin 256) (s : State) (hr : ∀ src d s, mask B (raise src d s) = mask B s)
    (h1 : B.records = true) (h2 : B.run = true) (h3 : B.picker = true) (h4 : B.nests = true) (h5 : B.outVacuum = true) (h6 : B.portPicker = true) :
    mask B (giveUp raise t s) = mask B s := by
  unfold giveUp
  dsimp only
  repeat' split
  all_goals simp [h1, h2, h3, h4, h5, h6, hr]

@[simp] theorem endHeldUnderStop_mask {B : Parts} (op : Operation) (s : State)
    (h1 : B.records = true) (h2 : B.run = true) (h3 : B.picker = true) (h4 : B.nests = true) (h5 : B.outVacuum = true) (h6 : B.portPicker = true) :
    mask B (endHeldUnderStop op s) = mask B s := by
  unfold endHeldUnderStop
  simp [h1, h2, h3, h4, h5, h6]

@[simp] theorem tabInterrupted_mask {B : Parts} (raise : Raiser) (cut : Bool) (op : Operation) (s : State) (hr : ∀ src d s, mask B (raise src d s) = mask B s)
    (h1 : B.records = true) (h2 : B.run = true) (h3 : B.picker = true) (h4 : B.nests = true) (h5 : B.outVacuum = true) (h6 : B.portPicker = true) :
    mask B (tabInterrupted raise cut op s) = mask B s := by
  unfold tabInterrupted
  simp [h1, h2, h3, h4, h5, h6, hr]

@[simp] theorem interruptRouter_mask {B : Parts} (raise : Raiser) (timeout : Bool) (s : State) (hr : ∀ src d s, mask B (raise src d s) = mask B s)
    (h1 : B.notices = true) (h2 : B.records = true) (h3 : B.run = true) (h4 : B.router = true) (h5 : B.wear = true) (h6 : B.probe = true) (h7 : B.picker = true) (h8 : B.nests = true) (h9 : B.outVacuum = true) (h10 : B.portRouter = true) (h11 : B.portPicker = true) :
    mask B (interruptRouter raise timeout s) = mask B s := by
  unfold interruptRouter
  dsimp only
  repeat' split
  all_goals simp [h1, h2, h3, h4, h5, h6, h7, h8, h9, h10, h11, hr]

@[simp] theorem lowerCounts_mask {B : Parts} (d : TabDef) (s : State)
    (h1 : B.run = true) :
    mask B (lowerCounts d s) = mask B s := by
  unfold lowerCounts
  simp [h1]

@[simp] theorem freeBoard_mask {B : Parts} (b : Fin 64) (s : State)
    (h1 : B.run = true) (h2 : B.picker = true) (h3 : B.portPicker = true) :
    mask B (freeBoard b s) = mask B s := by
  unfold freeBoard
  simp [h1, h2, h3, Picker.blank]

@[simp] theorem handleVerdict_mask {B : Parts} (raise : Raiser) (op : Operation) (v : Verdict) (s : State) (hr : ∀ src d s, mask B (raise src d s) = mask B s)
    (h1 : B.records = true) (h2 : B.run = true) (h3 : B.picker = true) (h4 : B.nests = true) (h5 : B.outVacuum = true) (h6 : B.portPicker = true) :
    mask B (handleVerdict raise op v s) = mask B s := by
  unfold handleVerdict
  dsimp only
  repeat' split
  all_goals simp [h1, h2, h3, h4, h5, h6, hr]

@[simp] theorem giveVerdict_mask {B : Parts} (raise : Raiser) (w : Verify) (ne hits misses : Nat) (v : Verdict) (s : State) (hr : ∀ src d s, mask B (raise src d s) = mask B s)
    (h1 : B.records = true) (h2 : B.run = true) (h3 : B.router = true) (h4 : B.probe = true) (h5 : B.picker = true) (h6 : B.nests = true) (h7 : B.outVacuum = true) (h8 : B.portPicker = true) :
    mask B (giveVerdict raise w ne hits misses v s) = mask B s := by
  unfold giveVerdict
  simp [h1, h2, h3, h4, h5, h6, h7, h8, hr, Router.blank, Probe.blank]

@[simp] theorem verifyGo_mask {B : Parts} (raise : Raiser) (s : State) (hr : ∀ src d s, mask B (raise src d s) = mask B s)
    (h1 : B.records = true) (h2 : B.run = true) (h3 : B.router = true) (h4 : B.probe = true) (h5 : B.picker = true) (h6 : B.nests = true) (h7 : B.outVacuum = true) (h8 : B.portRouter = true) (h9 : B.portPicker = true) :
    mask B (verifyGo raise s) = mask B s := by
  unfold verifyGo
  repeat' split
  all_goals simp [h1, h2, h3, h4, h5, h6, h7, h8, h9, hr]

@[simp] theorem checkPoint_mask {B : Parts} (raise : Raiser) (s : State) (hr : ∀ src d s, mask B (raise src d s) = mask B s)
    (h1 : B.records = true) (h2 : B.run = true) (h3 : B.router = true) (h4 : B.probe = true) (h5 : B.picker = true) (h6 : B.nests = true) (h7 : B.outVacuum = true) (h8 : B.portRouter = true) (h9 : B.portPicker = true) :
    mask B (checkPoint raise s) = mask B s := by
  unfold checkPoint
  dsimp only
  repeat' split
  all_goals simp [h1, h2, h3, h4, h5, h6, h7, h8, h9, hr, Probe.blank]

@[simp] theorem completeCut_mask {B : Parts} (raise : Raiser) (op : Operation) (s : State) (hr : ∀ src d s, mask B (raise src d s) = mask B s)
    (h1 : B.notices = true) (h2 : B.records = true) (h3 : B.run = true) (h4 : B.router = true) (h5 : B.wear = true) (h6 : B.probe = true) (h7 : B.picker = true) (h8 : B.nests = true) (h9 : B.outVacuum = true) (h10 : B.portRouter = true) (h11 : B.portPicker = true) :
    mask B (completeCut raise op s) = mask B s := by
  unfold completeCut
  simp [h1, h2, h3, h4, h5, h6, h7, h8, h9, h10, h11, hr, Ports.blank]

@[simp] theorem completeMoveClear_mask {B : Parts} (s : State)
    (h1 : B.router = true) (h2 : B.probe = true) (h3 : B.portRouter = true) :
    mask B (completeMoveClear s) = mask B s := by
  unfold completeMoveClear
  dsimp only
  repeat' split
  all_goals simp [h1, h2, h3, Router.blank, Ports.blank]

@[simp] theorem completeProbeMove_mask {B : Parts} (s : State)
    (h1 : B.probe = true) (h2 : B.portRouter = true) :
    mask B (completeProbeMove s) = mask B s := by
  unfold completeProbeMove
  dsimp only
  repeat' split
  all_goals simp [h1, h2, Probe.blank, Ports.blank]

@[simp] theorem startTab_mask {B : Parts} (raise : Raiser) (t : Fin 256) (s : State) (hr : ∀ src d s, mask B (raise src d s) = mask B s)
    (h1 : B.records = true) (h2 : B.run = true) (h3 : B.router = true) (h4 : B.probe = true) (h5 : B.picker = true) (h6 : B.nests = true) (h7 : B.outVacuum = true) (h8 : B.portRouter = true) (h9 : B.portPicker = true) :
    mask B (startTab raise t s) = mask B s := by
  unfold startTab
  dsimp only
  repeat' split
  all_goals simp [h1, h2, h3, h4, h5, h6, h7, h8, h9, hr]

@[simp] theorem chooseCut_mask {B : Parts} (raise : Raiser) (s : State) (hr : ∀ src d s, mask B (raise src d s) = mask B s)
    (h1 : B.records = true) (h2 : B.run = true) (h3 : B.router = true) (h4 : B.probe = true) (h5 : B.picker = true) (h6 : B.nests = true) (h7 : B.outVacuum = true) (h8 : B.portRouter = true) (h9 : B.portPicker = true) :
    mask B (chooseCut raise s) = mask B s := by
  unfold chooseCut
  repeat' split
  all_goals simp [h1, h2, h3, h4, h5, h6, h7, h8, h9, hr]

@[simp] theorem presentHeldCut_mask {B : Parts} (s : State)
    (h1 : B.router = true) (h2 : B.portRouter = true) :
    mask B (presentHeldCut s) = mask B s := by
  unfold presentHeldCut
  repeat' split
  all_goals simp [h1, h2]

@[simp] theorem holdEnds_mask {B : Parts} (raise : Raiser) (b : Fin 64) (s : State) (hr : ∀ src d s, mask B (raise src d s) = mask B s)
    (h1 : B.notices = true) (h2 : B.records = true) (h3 : B.run = true) (h4 : B.router = true) (h5 : B.wear = true) (h6 : B.probe = true) (h7 : B.picker = true) (h8 : B.nests = true) (h9 : B.outVacuum = true) (h10 : B.portRouter = true) (h11 : B.portPicker = true) :
    mask B (holdEnds raise b s) = mask B s := by
  unfold holdEnds
  dsimp only
  repeat' split
  all_goals simp [h1, h2, h3, h4, h5, h6, h7, h8, h9, h10, h11, hr]

@[simp] theorem grantBoard_mask {B : Parts} (b : Fin 64) (n : Fin 3) (d : BoardDef) (p : PanelRec) (r : BoardRun) (s : State)
    (h1 : B.run = true) (h2 : B.picker = true) (h3 : B.nests = true) (h4 : B.portPicker = true) :
    mask B (grantBoard b n d p r s) = mask B s := by
  unfold grantBoard
  simp [h1, h2, h3, h4, Picker.blank]

@[simp] theorem grant_mask {B : Parts} (s : State)
    (h1 : B.run = true) (h2 : B.picker = true) (h3 : B.nests = true) (h4 : B.portPicker = true) :
    mask B (grant s) = mask B s := by
  unfold grant
  repeat' split
  all_goals simp [h1, h2, h3, h4]

@[simp] theorem presentStalled_mask {B : Parts} (s : State)
    (h1 : B.picker = true) (h2 : B.portPicker = true) :
    mask B (presentStalled s) = mask B s := by
  unfold presentStalled
  simp [h1, h2]

@[simp] theorem gripped_mask {B : Parts} (s : State)
    (h1 : B.run = true) (h2 : B.picker = true) :
    mask B (gripped s) = mask B s := by
  unfold gripped
  dsimp only
  repeat' split
  all_goals simp [h1, h2, Picker.blank]

@[simp] theorem startGrip_mask {B : Parts} (s : State)
    (h1 : B.run = true) (h2 : B.picker = true) (h3 : B.outVacuum = true) :
    mask B (startGrip s) = mask B s := by
  unfold startGrip
  simp [h1, h2, h3, Picker.blank]

@[simp] theorem enterGrip_mask {B : Parts} (s : State)
    (h1 : B.run = true) (h2 : B.picker = true) (h3 : B.outVacuum = true) :
    mask B (enterGrip s) = mask B s := by
  unfold enterGrip
  simp [h1, h2, h3, Picker.blank]

@[simp] theorem vacuumPause_mask {B : Parts} (retry : Bool) (s : State)
    (h1 : B.picker = true) (h2 : B.outVacuum = true) :
    mask B (vacuumPause retry s) = mask B s := by
  unfold vacuumPause
  simp [h1, h2, Picker.blank]

@[simp] theorem gripFails_mask {B : Parts} (raise : Raiser) (s : State) (hr : ∀ src d s, mask B (raise src d s) = mask B s)
    (h1 : B.run = true) (h2 : B.picker = true) (h3 : B.nests = true) (h4 : B.outVacuum = true) (h5 : B.portPicker = true) :
    mask B (gripFails raise s) = mask B s := by
  unfold gripFails
  dsimp only
  repeat' split
  all_goals simp [h1, h2, h3, h4, h5, hr, Picker.blank]

@[simp] theorem holdLost_mask {B : Parts} (raise : Raiser) (b : Fin 64) (s : State) (hr : ∀ src d s, mask B (raise src d s) = mask B s)
    (h1 : B.notices = true) (h2 : B.records = true) (h3 : B.run = true) (h4 : B.router = true) (h5 : B.wear = true) (h6 : B.probe = true) (h7 : B.picker = true) (h8 : B.nests = true) (h9 : B.outVacuum = true) (h10 : B.portRouter = true) (h11 : B.portPicker = true) :
    mask B (holdLost raise b s) = mask B s := by
  unfold holdLost
  dsimp only
  repeat' split
  all_goals simp [h1, h2, h3, h4, h5, h6, h7, h8, h9, h10, h11, hr]

@[simp] theorem boardDropped_mask {B : Parts} (raise : Raiser) (b : Fin 64) (s : State) (hr : ∀ src d s, mask B (raise src d s) = mask B s)
    (h1 : B.records = true) (h2 : B.run = true) (h3 : B.picker = true) (h4 : B.nests = true) (h5 : B.outVacuum = true) :
    mask B (boardDropped raise b s) = mask B s := by
  unfold boardDropped
  simp [h1, h2, h3, h4, h5, hr, Picker.blank]

@[simp] theorem placementConfirmed_mask {B : Parts} (b : Fin 64) (n : Fin 3) (s : State)
    (h1 : B.records = true) (h2 : B.run = true) (h3 : B.picker = true) (h4 : B.nests = true) (h5 : B.portPicker = true) :
    mask B (placementConfirmed b n s) = mask B s := by
  unfold placementConfirmed
  simp [h1, h2, h3, h4, h5]

@[simp] theorem placementRefused_mask {B : Parts} (raise : Raiser) (b : Fin 64) (n : Fin 3) (s : State) (hr : ∀ src d s, mask B (raise src d s) = mask B s)
    (h1 : B.records = true) (h2 : B.run = true) (h3 : B.picker = true) (h4 : B.nests = true) (h5 : B.portPicker = true) :
    mask B (placementRefused raise b n s) = mask B s := by
  unfold placementRefused
  simp [h1, h2, h3, h4, h5, hr, Picker.blank]

@[simp] theorem stallMove_mask {B : Parts} (s : State)
    (h1 : B.picker = true) (h2 : B.portPicker = true) :
    mask B (stallMove s) = mask B s := by
  unfold stallMove
  simp [h1, h2, Picker.blank, Ports.blank]

@[simp] theorem completeMove_mask {B : Parts} (s : State)
    (h1 : B.run = true) (h2 : B.picker = true) (h3 : B.outVacuum = true) (h4 : B.outBlow = true) (h5 : B.portPicker = true) :
    mask B (completeMove s) = mask B s := by
  unfold completeMove
  dsimp only
  repeat' split
  all_goals simp [h1, h2, h3, h4, h5, Picker.blank, Outputs.blank, Ports.blank]

@[simp] theorem dueTransfer_mask {B : Parts} (o : Order) (s : State)
    (h1 : B.stacker = true) (h2 : B.portTransfer = true) :
    mask B (dueTransfer o s) = mask B s := by
  unfold dueTransfer
  simp [h1, h2, Ports.blank]

@[simp] theorem dueElevate_mask {B : Parts} (o : Order) (s : State)
    (h1 : B.stacker = true) (h2 : B.portElevator = true) :
    mask B (dueElevate o s) = mask B s := by
  unfold dueElevate
  simp [h1, h2, Ports.blank]

@[simp] theorem elevateFor_mask {B : Parts} (x : Bay) (s : State)
    (h1 : B.stacker = true) (h2 : B.portElevator = true) :
    mask B (elevateFor x s) = mask B s := by
  unfold elevateFor
  repeat' split
  all_goals simp [h1, h2]

@[simp] theorem stopElevate_mask {B : Parts} (s : State)
    (h1 : B.stacker = true) (h2 : B.portElevator = true) :
    mask B (stopElevate s) = mask B s := by
  unfold stopElevate
  simp [h1, h2, Ports.blank]

@[simp] theorem stackerIdle_mask {B : Parts} (s : State)
    (h1 : B.stacker = true) :
    mask B (stackerIdle s) = mask B s := by
  unfold stackerIdle
  simp [h1]

@[simp] theorem setPush_mask {B : Parts} (on : Bool) (s : State)
    (h1 : B.outPush = true) :
    mask B (setPush on s) = mask B s := by
  unfold setPush
  simp [h1, Outputs.blank]

@[simp] theorem takeBay_mask {B : Parts} (x : Bay) (s : State)
    (h1 : B.stacker = true) (h2 : B.bays = true) :
    mask B (takeBay x s) = mask B s := by
  unfold takeBay
  simp [h1, h2]

@[simp] theorem loseTarget_mask {B : Parts} (s : State)
    (h1 : B.stacker = true) (h2 : B.portElevator = true) :
    mask B (loseTarget s) = mask B s := by
  unfold loseTarget
  simp [h1, h2]

@[simp] theorem retarget_mask {B : Parts} (s : State)
    (h1 : B.stacker = true) (h2 : B.bays = true) (h3 : B.portElevator = true) :
    mask B (retarget s) = mask B s := by
  unfold retarget
  dsimp only
  repeat' split
  all_goals simp [h1, h2, h3]

@[simp] theorem awaitBay_mask {B : Parts} (s : State)
    (h1 : B.stacker = true) :
    mask B (awaitBay s) = mask B s := by
  unfold awaitBay
  simp [h1]

@[simp] theorem startCycle_mask {B : Parts} (s : State)
    (h1 : B.stacker = true) (h2 : B.bays = true) (h3 : B.portTransfer = true) (h4 : B.portElevator = true) :
    mask B (startCycle s) = mask B s := by
  unfold startCycle
  dsimp only
  repeat' split
  all_goals simp [h1, h2, h3, h4]

@[simp] theorem checkSlot_mask {B : Parts} (x : Bay) (slot : Nat) (s : State)
    (h1 : B.notices = true) (h2 : B.stacker = true) (h3 : B.bays = true) (h4 : B.portTransfer = true) (h5 : B.portElevator = true) :
    mask B (checkSlot x slot s) = mask B s := by
  unfold checkSlot
  simp [h1, h2, h3, h4, h5]

@[simp] theorem tryCheck_mask {B : Parts} (s : State)
    (h1 : B.notices = true) (h2 : B.stacker = true) (h3 : B.bays = true) (h4 : B.portTransfer = true) (h5 : B.portElevator = true) :
    mask B (tryCheck s) = mask B s := by
  unfold tryCheck
  repeat' split
  all_goals simp [h1, h2, h3, h4, h5]

@[simp] theorem fetchEnds_mask {B : Parts} (h : Hand) (s : State)
    (h1 : B.notices = true) (h2 : B.run = true) (h3 : B.nests = true) (h4 : B.stacker = true) (h5 : B.bays = true) (h6 : B.portTransfer = true) (h7 : B.portElevator = true) :
    mask B (fetchEnds h s) = mask B s := by
  unfold fetchEnds
  dsimp only
  repeat' split
  all_goals simp [h1, h2, h3, h4, h5, h6, h7]

@[simp] theorem completeFromNest_mask {B : Parts} (s : State)
    (h1 : B.notices = true) (h2 : B.run = true) (h3 : B.nests = true) (h4 : B.stacker = true) (h5 : B.bays = true) (h6 : B.portTransfer = true) (h7 : B.portElevator = true) :
    mask B (completeFromNest s) = mask B s := by
  unfold completeFromNest
  repeat' split
  all_goals simp [h1, h2, h3, h4, h5, h6, h7]

@[simp] theorem startLeave_mask {B : Parts} (s : State)
    (h1 : B.stacker = true) (h2 : B.outPush = true) :
    mask B (startLeave s) = mask B s := by
  unfold startLeave
  simp [h1, h2]

@[simp] theorem startStroke_mask {B : Parts} (s : State)
    (h1 : B.stacker = true) (h2 : B.outPush = true) :
    mask B (startStroke s) = mask B s := by
  unfold startStroke
  simp [h1, h2]

@[simp] theorem enterPush_mask {B : Parts} (s : State)
    (h1 : B.stacker = true) (h2 : B.outPush = true) :
    mask B (enterPush s) = mask B s := by
  unfold enterPush
  simp [h1, h2]

@[simp] theorem pushFails_mask {B : Parts} (raise : Raiser) (s : State) (hr : ∀ src d s, mask B (raise src d s) = mask B s)
    (h1 : B.notices = true) (h2 : B.records = true) (h3 : B.run = true) (h4 : B.stacker = true) (h5 : B.bays = true) (h6 : B.outPush = true) :
    mask B (pushFails raise s) = mask B s := by
  unfold pushFails
  dsimp only
  repeat' split
  all_goals simp [h1, h2, h3, h4, h5, h6, hr]

@[simp] theorem slotFilled_mask {B : Parts} (h : Hand) (x : Bay) (slot : Nat) (s : State)
    (h1 : B.notices = true) (h2 : B.records = true) (h3 : B.run = true) (h4 : B.stacker = true) (h5 : B.bays = true) :
    mask B (slotFilled h x slot s) = mask B s := by
  unfold slotFilled
  simp [h1, h2, h3, h4, h5]

@[simp] theorem confirm_mask {B : Parts} (raise : Raiser) (s : State) (hr : ∀ src d s, mask B (raise src d s) = mask B s)
    (h1 : B.notices = true) (h2 : B.records = true) (h3 : B.run = true) (h4 : B.stacker = true) (h5 : B.bays = true) :
    mask B (confirm raise s) = mask B s := by
  unfold confirm
  dsimp only
  repeat' split
  all_goals simp [h1, h2, h3, h4, h5, hr]

@[simp] theorem recoverPush_mask {B : Parts} (s : State)
    (h1 : B.notices = true) (h2 : B.records = true) (h3 : B.run = true) (h4 : B.stacker = true) (h5 : B.bays = true) (h6 : B.outPush = true) :
    mask B (recoverPush s) = mask B s := by
  unfold recoverPush
  dsimp only
  repeat' split
  all_goals simp [h1, h2, h3, h4, h5, h6]

@[simp] theorem pusherHome_mask {B : Parts} (raise : Raiser) (s : State) (hr : ∀ src d s, mask B (raise src d s) = mask B s)
    (h1 : B.notices = true) (h2 : B.records = true) (h3 : B.run = true) (h4 : B.stacker = true) (h5 : B.bays = true) (h6 : B.outPush = true) :
    mask B (pusherHome raise s) = mask B s := by
  unfold pusherHome
  simp [h1, h2, h3, h4, h5, h6, hr]

@[simp] theorem pusherLeaves_mask {B : Parts} (s : State)
    (h1 : B.stacker = true) :
    mask B (pusherLeaves s) = mask B s := by
  unfold pusherLeaves
  simp [h1]

@[simp] theorem completeToMouth_mask {B : Parts} (s : State)
    (h1 : B.notices = true) (h2 : B.stacker = true) (h3 : B.bays = true) (h4 : B.outPush = true) (h5 : B.portTransfer = true) (h6 : B.portElevator = true) :
    mask B (completeToMouth s) = mask B s := by
  unfold completeToMouth
  repeat' split
  all_goals simp [h1, h2, h3, h4, h5, h6]

@[simp] theorem completeToChute_mask {B : Parts} (s : State)
    (h1 : B.stacker = true) (h2 : B.outGate = true) :
    mask B (completeToChute s) = mask B s := by
  unfold completeToChute
  simp [h1, h2, Outputs.blank]

@[simp] theorem completeTransfer_mask {B : Parts} (s : State)
    (h1 : B.notices = true) (h2 : B.run = true) (h3 : B.nests = true) (h4 : B.stacker = true) (h5 : B.bays = true) (h6 : B.outPush = true) (h7 : B.outGate = true) (h8 : B.portTransfer = true) (h9 : B.portElevator = true) :
    mask B (completeTransfer s) = mask B s := by
  unfold completeTransfer
  dsimp only
  repeat' split
  all_goals simp [h1, h2, h3, h4, h5, h6, h7, h8, h9, Ports.blank]

@[simp] theorem completeElevate_mask {B : Parts} (s : State)
    (h1 : B.notices = true) (h2 : B.stacker = true) (h3 : B.bays = true) (h4 : B.portTransfer = true) (h5 : B.portElevator = true) :
    mask B (completeElevate s) = mask B s := by
  unfold completeElevate
  simp [h1, h2, h3, h4, h5, Ports.blank]

@[simp] theorem endDivert_mask {B : Parts} (s : State)
    (h1 : B.stacker = true) (h2 : B.outGate = true) :
    mask B (endDivert s) = mask B s := by
  unfold endDivert
  simp [h1, h2, Outputs.blank]

@[simp] theorem chutePassed_mask {B : Parts} (s : State)
    (h1 : B.records = true) (h2 : B.run = true) (h3 : B.stacker = true) (h4 : B.outGate = true) :
    mask B (chutePassed s) = mask B s := by
  unfold chutePassed
  repeat' split
  all_goals simp [h1, h2, h3, h4]

@[simp] theorem chuteMissed_mask {B : Parts} (raise : Raiser) (s : State) (hr : ∀ src d s, mask B (raise src d s) = mask B s)
    (h1 : B.records = true) (h2 : B.run = true) (h3 : B.stacker = true) (h4 : B.outGate = true) :
    mask B (chuteMissed raise s) = mask B s := by
  unfold chuteMissed
  dsimp only
  repeat' split
  all_goals simp [h1, h2, h3, h4, hr]

@[simp] theorem fetchFails_mask {B : Parts} (raise : Raiser) (h : Hand) (s : State) (hr : ∀ src d s, mask B (raise src d s) = mask B s)
    (h1 : B.stacker = true) (h2 : B.portElevator = true) :
    mask B (fetchFails raise h s) = mask B s := by
  unfold fetchFails
  simp [h1, h2, hr]

@[simp] theorem resumePush_mask {B : Parts} (s : State)
    (h1 : B.notices = true) (h2 : B.records = true) (h3 : B.run = true) (h4 : B.stacker = true) (h5 : B.bays = true) (h6 : B.outPush = true) :
    mask B (resumePush s) = mask B s := by
  unfold resumePush
  simp [h1, h2, h3, h4, h5, h6]

@[simp] theorem presentHeldBack_mask {B : Parts} (s : State)
    (h1 : B.stacker = true) (h2 : B.portTransfer = true) (h3 : B.portElevator = true) :
    mask B (presentHeldBack s) = mask B s := by
  unfold presentHeldBack
  dsimp only
  repeat' split
  all_goals simp [h1, h2, h3]

@[simp] theorem haltStacker_mask {B : Parts} (s : State)
    (h1 : B.stacker = true) (h2 : B.outPush = true) (h3 : B.portTransfer = true) (h4 : B.portElevator = true) :
    mask B (haltStacker s) = mask B s := by
  unfold haltStacker
  dsimp only
  repeat' split
  all_goals simp [h1, h2, h3, h4, Ports.blank]

@[simp] theorem transferTimesOut_mask {B : Parts} (raise : Raiser) (s : State) (hr : ∀ src d s, mask B (raise src d s) = mask B s)
    (h1 : B.stacker = true) (h2 : B.portTransfer = true) :
    mask B (transferTimesOut raise s) = mask B s := by
  unfold transferTimesOut
  dsimp only
  repeat' split
  all_goals simp [h1, h2, hr, Ports.blank]

@[simp] theorem elevatorTimesOut_mask {B : Parts} (raise : Raiser) (s : State) (hr : ∀ src d s, mask B (raise src d s) = mask B s)
    (h1 : B.stacker = true) (h2 : B.portElevator = true) :
    mask B (elevatorTimesOut raise s) = mask B s := by
  unfold elevatorTimesOut
  dsimp only
  repeat' split
  all_goals simp [h1, h2, hr, Ports.blank]

@[simp] theorem bayChanged_mask {B : Parts} (x : Bay) (s : State)
    (h1 : B.notices = true) :
    mask B (bayChanged x s) = mask B s := by
  unfold bayChanged
  simp [h1]

@[simp] theorem bayInserted_mask {B : Parts} (x : Bay) (s : State)
    (h1 : B.notices = true) (h2 : B.bays = true) :
    mask B (bayInserted x s) = mask B s := by
  unfold bayInserted
  simp [h1, h2]

@[simp] theorem targetWithdrawn_mask {B : Parts} (x : Bay) (s : State)
    (h1 : B.records = true) (h2 : B.run = true) (h3 : B.stacker = true) (h4 : B.outPush = true) (h5 : B.portElevator = true) :
    mask B (targetWithdrawn x s) = mask B s := by
  unfold targetWithdrawn
  repeat' split
  all_goals simp [h1, h2, h3, h4, h5]

@[simp] theorem bayWithdrawn_mask {B : Parts} (raise : Raiser) (x : Bay) (s : State) (hr : ∀ src d s, mask B (raise src d s) = mask B s)
    (h1 : B.notices = true) (h2 : B.records = true) (h3 : B.run = true) (h4 : B.stacker = true) (h5 : B.bays = true) (h6 : B.outPush = true) (h7 : B.portElevator = true) :
    mask B (bayWithdrawn raise x s) = mask B s := by
  unfold bayWithdrawn
  repeat' split
  all_goals simp [h1, h2, h3, h4, h5, h6, h7, hr]

@[simp] theorem loadBay_mask {B : Parts} (x : Bay) (i : Fin 4) (p : Profile) (s : State)
    (h1 : B.bays = true) :
    mask B (loadBay x i p s) = mask B s := by
  unfold loadBay
  simp [h1]

@[simp] theorem retireNow_mask {B : Parts} (x : Bay) (s : State)
    (h1 : B.notices = true) (h2 : B.stacker = true) (h3 : B.bays = true) (h4 : B.portElevator = true) :
    mask B (retireNow x s) = mask B s := by
  unfold retireNow
  simp [h1, h2, h3, h4]

@[simp] theorem haltSpindle_mask {B : Parts} (s : State)
    (h1 : B.cell = true) (h2 : B.spindle = true) (h3 : B.outSpindle = true) :
    mask B (haltSpindle s) = mask B s := by
  unfold haltSpindle
  simp [h1, h2, h3, Cell.blank]

@[simp] theorem allStopUnits_mask {B : Parts} (s : State)
    (h1 : B.notices = true) (h2 : B.cell = true) (h3 : B.idle = true) (h4 : B.records = true) (h5 : B.run = true) (h6 : B.router = true) (h7 : B.wear = true) (h8 : B.spindle = true) (h9 : B.probe = true) (h10 : B.picker = true) (h11 : B.nests = true) (h12 : B.stacker = true) (h13 : B.outSpindle = true) (h14 : B.outVacuum = true) (h15 : B.outPush = true) (h16 : B.portRouter = true) (h17 : B.portPicker = true) (h18 : B.portTransfer = true) (h19 : B.portElevator = true) (h20 : B.faults = true) (h21 : B.haltLatches = true) :
    mask B (allStopUnits s) = mask B s := by
  unfold allStopUnits
  simp [h1, h2, h3, h4, h5, h6, h7, h8, h9, h10, h11, h12, h13, h14, h15, h16, h17, h18, h19, h20, h21]

@[simp] theorem raise_mask {B : Parts} (src : Source) (d : Detail) (s : State)
    (h1 : B.notices = true) (h2 : B.cell = true) (h3 : B.idle = true) (h4 : B.records = true) (h5 : B.run = true) (h6 : B.router = true) (h7 : B.wear = true) (h8 : B.spindle = true) (h9 : B.probe = true) (h10 : B.picker = true) (h11 : B.nests = true) (h12 : B.stacker = true) (h13 : B.outSpindle = true) (h14 : B.outVacuum = true) (h15 : B.outPush = true) (h16 : B.portRouter = true) (h17 : B.portPicker = true) (h18 : B.portTransfer = true) (h19 : B.portElevator = true) (h20 : B.faults = true) (h21 : B.haltLatches = true) :
    mask B (raise src d s) = mask B s := by
  unfold raise
  simp [h1, h2, h3, h4, h5, h6, h7, h8, h9, h10, h11, h12, h13, h14, h15, h16, h17, h18, h19, h20, h21]

end Sys2Proof.Machine
end

