-- ==== Sys2Proof/Laws/FrameMoment.lean ====
section
/-! SUPPORT. What the reactions of a moment and the acceptance of a line change: nothing outside the parts named. -/

namespace Sys2Proof.Machine

@[simp] theorem raiseParked_mask {B : Parts} (s : State)
    (h1 : B.notices = true) :
    mask B (raiseParked s) = mask B s := by
  unfold raiseParked
  simp [h1]

@[simp] theorem parkCell_mask {B : Parts} (s : State)
    (h1 : B.notices = true) (h2 : B.cell = true) (h3 : B.idle = true) (h4 : B.spindle = true) (h5 : B.outSpindle = true) :
    mask B (parkCell s) = mask B s := by
  unfold parkCell
  simp [h1, h2, h3, h4, h5, Cell.blank]

theorem map_setAt {α β : Type} {n : Nat} (f : α → β) (v : Vector α n) (i : Fin n) (a : α) (h : f a = f (getAt v i)) :
    (setAt v i a).map f = v.map f := by
  ext j hj
  simp only [setAt, Vector.getElem_map, Vector.getElem_set]
  split
  · next e => subst e; exact h
  · rfl

theorem map_map_eq {α β : Type} {n : Nat} (f : α → β) (g : α → α) (v : Vector α n) (h : ∀ a, f (g a) = f a) :
    (v.map g).map f = v.map f := by
  ext j hj
  simp [h]

theorem AuxLine.blank_taken {B : Parts} (h : B.auxLatch = true) (a : AuxLine) :
    AuxLine.blank B (AuxLine.taken a) = AuxLine.blank B a := by
  simp [AuxLine.blank, AuxLine.taken, h]

theorem AuxLine.blank_woken {B : Parts} (h : B.auxLatch = true) (a : AuxLine) :
    AuxLine.blank B (AuxLine.woken a) = AuxLine.blank B a := by
  unfold AuxLine.woken
  split
  · exact AuxLine.blank_taken h a
  · rfl

theorem setAux_mask' {B : Parts} (n : Fin 4) (a : AuxLine) (s : State)
    (h : AuxLine.blank B a = AuxLine.blank B (getAt s.lines.aux n)) : mask B (setAux n a s) = mask B s := by
  unfold setAux
  apply mask_withLines
  simp only [Lines.blank, map_setAt _ _ _ _ h]

@[simp] theorem setAux_taken_mask {B : Parts} (n : Fin 4) (s : State) (h : B.auxLatch = true) :
    mask B (setAux n (AuxLine.taken (getAt s.lines.aux n)) s) = mask B s :=
  setAux_mask' n _ s (AuxLine.blank_taken h _)

@[simp] theorem setAux_mask {B : Parts} (n : Fin 4) (a : AuxLine) (s : State)
    (h1 : B.auxSet = true) (h2 : B.auxLatch = true) :
    mask B (setAux n a s) = mask B s := by
  apply setAux_mask'
  simp [AuxLine.blank, h1, h2]

@[simp] theorem startWake_mask {B : Parts} (s : State)
    (h1 : B.tx = true) (h2 : B.notices = true) (h3 : B.cell = true) (h4 : B.spindle = true) (h5 : B.auxLatch = true) (h6 : B.outSpindle = true) :
    mask B (startWake s) = mask B s := by
  have e : mask B ((clearNotice Notice.parked s).withLines
      { (clearNotice Notice.parked s).lines with
        aux := (clearNotice Notice.parked s).lines.aux.map AuxLine.woken }) = mask B s := by
    rw [mask_withLines]
    · simp [h1, h2]
    · simp only [Lines.blank, map_map_eq _ _ _ (AuxLine.blank_woken h5)]
  unfold startWake
  dsimp only
  rw [← e]
  repeat' split
  all_goals simp [h3, h4, h6, Cell.blank]

@[simp] theorem takeHold_mask {B : Parts} (s : State)
    (h1 : B.notices = true) (h2 : B.cell = true) (h3 : B.idle = true) :
    mask B (takeHold s) = mask B s := by
  unfold takeHold
  dsimp only
  repeat' split
  all_goals simp [h1, h2, h3, Cell.blank]

@[simp] theorem boundary_mask {B : Parts} (s : State)
    (h1 : B.notices = true) (h2 : B.cell = true) (h3 : B.idle = true) :
    mask B (boundary s) = mask B s := by
  unfold boundary
  simp [h1, h2, h3]

@[simp] theorem auxHold_mask {B : Parts} (n : Fin 4) (s : State)
    (h1 : B.notices = true) (h2 : B.cell = true) (h3 : B.idle = true) (h4 : B.auxLatch = true) :
    mask B (auxHold n s) = mask B s := by
  unfold auxHold
  dsimp only
  repeat' split
  all_goals simp [h1, h2, h3, h4]

@[simp] theorem auxRole_mask {B : Parts} (s : State) (n : Fin 4)
    (h1 : B.tx = true) (h2 : B.notices = true) (h3 : B.cell = true) (h4 : B.idle = true) (h5 : B.records = true) (h6 : B.run = true) (h7 : B.router = true) (h8 : B.wear = true) (h9 : B.spindle = true) (h10 : B.probe = true) (h11 : B.picker = true) (h12 : B.nests = true) (h13 : B.stacker = true) (h14 : B.auxLatch = true) (h15 : B.outSpindle = true) (h16 : B.outVacuum = true) (h17 : B.outPush = true) (h18 : B.portRouter = true) (h19 : B.portPicker = true) (h20 : B.portTransfer = true) (h21 : B.portElevator = true) (h22 : B.faults = true) (h23 : B.haltLatches = true) :
    mask B (auxRole s n) = mask B s := by
  unfold auxRole
  dsimp only
  repeat' split
  all_goals simp [h1, h2, h3, h4, h5, h6, h7, h8, h9, h10, h11, h12, h13, h14, h15, h16, h17, h18, h19, h20, h21, h22, h23]

@[simp] theorem auxRoles_mask {B : Parts} (s : State)
    (h1 : B.tx = true) (h2 : B.notices = true) (h3 : B.cell = true) (h4 : B.idle = true) (h5 : B.records = true) (h6 : B.run = true) (h7 : B.router = true) (h8 : B.wear = true) (h9 : B.spindle = true) (h10 : B.probe = true) (h11 : B.picker = true) (h12 : B.nests = true) (h13 : B.stacker = true) (h14 : B.auxLatch = true) (h15 : B.outSpindle = true) (h16 : B.outVacuum = true) (h17 : B.outPush = true) (h18 : B.portRouter = true) (h19 : B.portPicker = true) (h20 : B.portTransfer = true) (h21 : B.portElevator = true) (h22 : B.faults = true) (h23 : B.haltLatches = true) :
    mask B (auxRoles s) = mask B s := by
  unfold auxRoles
  simp [h1, h2, h3, h4, h5, h6, h7, h8, h9, h10, h11, h12, h13, h14, h15, h16, h17, h18, h19, h20, h21, h22, h23]

@[simp] theorem idleTimer_mask {B : Parts} (s : State)
    (h1 : B.idle = true) :
    mask B (idleTimer s) = mask B s := by
  unfold idleTimer
  simp [h1, Cell.blank]

@[simp] theorem settlePass_mask {B : Parts} (s : State)
    (h1 : B.tx = true) (h2 : B.notices = true) (h3 : B.cell = true) (h4 : B.idle = true) (h5 : B.records = true) (h6 : B.run = true) (h7 : B.router = true) (h8 : B.wear = true) (h9 : B.spindle = true) (h10 : B.probe = true) (h11 : B.picker = true) (h12 : B.nests = true) (h13 : B.stacker = true) (h14 : B.bays = true) (h15 : B.auxLatch = true) (h16 : B.outSpindle = true) (h17 : B.outVacuum = true) (h18 : B.outPush = true) (h19 : B.portRouter = true) (h20 : B.portPicker = true) (h21 : B.portTransfer = true) (h22 : B.portElevator = true) (h23 : B.faults = true) (h24 : B.haltLatches = true) :
    mask B (settlePass s) = mask B s := by
  unfold settlePass
  simp [h1, h2, h3, h4, h5, h6, h7, h8, h9, h10, h11, h12, h13, h14, h15, h16, h17, h18, h19, h20, h21, h22, h23, h24]

@[simp] theorem settle_mask {B : Parts} (s : State)
    (h1 : B.tx = true) (h2 : B.notices = true) (h3 : B.cell = true) (h4 : B.idle = true) (h5 : B.records = true) (h6 : B.run = true) (h7 : B.router = true) (h8 : B.wear = true) (h9 : B.spindle = true) (h10 : B.probe = true) (h11 : B.picker = true) (h12 : B.nests = true) (h13 : B.stacker = true) (h14 : B.bays = true) (h15 : B.auxLatch = true) (h16 : B.outSpindle = true) (h17 : B.outVacuum = true) (h18 : B.outPush = true) (h19 : B.portRouter = true) (h20 : B.portPicker = true) (h21 : B.portTransfer = true) (h22 : B.portElevator = true) (h23 : B.faults = true) (h24 : B.haltLatches = true) :
    mask B (settle s) = mask B s := by
  unfold settle
  simp [h1, h2, h3, h4, h5, h6, h7, h8, h9, h10, h11, h12, h13, h14, h15, h16, h17, h18, h19, h20, h21, h22, h23, h24]

@[simp] theorem linkKick_mask {B : Parts} (s : State)
    (h1 : B.tx = true) :
    mask B (linkKick s) = mask B s := by
  unfold linkKick
  simp [h1, Link.blank]

@[simp] theorem finish_mask {B : Parts} (s : State)
    (h1 : B.tx = true) (h2 : B.notices = true) (h3 : B.cell = true) (h4 : B.idle = true) (h5 : B.records = true) (h6 : B.run = true) (h7 : B.router = true) (h8 : B.wear = true) (h9 : B.spindle = true) (h10 : B.probe = true) (h11 : B.picker = true) (h12 : B.nests = true) (h13 : B.stacker = true) (h14 : B.bays = true) (h15 : B.auxLatch = true) (h16 : B.outSpindle = true) (h17 : B.outVacuum = true) (h18 : B.outPush = true) (h19 : B.portRouter = true) (h20 : B.portPicker = true) (h21 : B.portTransfer = true) (h22 : B.portElevator = true) (h23 : B.faults = true) (h24 : B.haltLatches = true) :
    mask B (finish s) = mask B s := by
  unfold finish
  simp [h1, h2, h3, h4, h5, h6, h7, h8, h9, h10, h11, h12, h13, h14, h15, h16, h17, h18, h19, h20, h21, h22, h23, h24]

@[simp] theorem setDed_mask {B : Parts} (l : Fin 16) (d : DedLine) (s : State)
    (h1 : B.ded = true) :
    mask B (setDed l d s) = mask B s := by
  unfold setDed
  simp [h1, Lines.blank]

@[simp] theorem vacuumAsserted_mask {B : Parts} (s : State)
    (h1 : B.run = true) (h2 : B.picker = true) :
    mask B (vacuumAsserted s) = mask B s := by
  unfold vacuumAsserted
  simp [h1, h2]

@[simp] theorem vacuumDeasserted_mask {B : Parts} (s : State)
    (h1 : B.notices = true) (h2 : B.cell = true) (h3 : B.idle = true) (h4 : B.records = true) (h5 : B.run = true) (h6 : B.router = true) (h7 : B.wear = true) (h8 : B.spindle = true) (h9 : B.probe = true) (h10 : B.picker = true) (h11 : B.nests = true) (h12 : B.stacker = true) (h13 : B.outSpindle = true) (h14 : B.outVacuum = true) (h15 : B.outPush = true) (h16 : B.portRouter = true) (h17 : B.portPicker = true) (h18 : B.portTransfer = true) (h19 : B.portElevator = true) (h20 : B.faults = true) (h21 : B.haltLatches = true) :
    mask B (vacuumDeasserted s) = mask B s := by
  unfold vacuumDeasserted
  repeat' split
  all_goals simp [h1, h2, h3, h4, h5, h6, h7, h8, h9, h10, h11, h12, h13, h14, h15, h16, h17, h18, h19, h20, h21]

@[simp] theorem nestAsserted_mask {B : Parts} (n : Fin 3) (s : State)
    (h1 : B.notices = true) (h2 : B.cell = true) (h3 : B.idle = true) (h4 : B.records = true) (h5 : B.run = true) (h6 : B.router = true) (h7 : B.wear = true) (h8 : B.spindle = true) (h9 : B.probe = true) (h10 : B.picker = true) (h11 : B.nests = true) (h12 : B.stacker = true) (h13 : B.outSpindle = true) (h14 : B.outVacuum = true) (h15 : B.outPush = true) (h16 : B.portRouter = true) (h17 : B.portPicker = true) (h18 : B.portTransfer = true) (h19 : B.portElevator = true) (h20 : B.faults = true) (h21 : B.haltLatches = true) :
    mask B (nestAsserted n s) = mask B s := by
  unfold nestAsserted
  repeat' split
  all_goals simp [h1, h2, h3, h4, h5, h6, h7, h8, h9, h10, h11, h12, h13, h14, h15, h16, h17, h18, h19, h20, h21]

@[simp] theorem nestTaken_mask {B : Parts} (e : NestEntry) (s : State)
    (h1 : B.records = true) (h2 : B.run = true) (h3 : B.nests = true) :
    mask B (nestTaken e s) = mask B s := by
  unfold nestTaken
  simp [h1, h2, h3]

@[simp] theorem nestDeasserted_mask {B : Parts} (n : Fin 3) (s : State)
    (h1 : B.notices = true) (h2 : B.cell = true) (h3 : B.idle = true) (h4 : B.records = true) (h5 : B.run = true) (h6 : B.router = true) (h7 : B.wear = true) (h8 : B.spindle = true) (h9 : B.probe = true) (h10 : B.picker = true) (h11 : B.nests = true) (h12 : B.stacker = true) (h13 : B.bays = true) (h14 : B.outSpindle = true) (h15 : B.outVacuum = true) (h16 : B.outPush = true) (h17 : B.portRouter = true) (h18 : B.portPicker = true) (h19 : B.portTransfer = true) (h20 : B.portElevator = true) (h21 : B.faults = true) (h22 : B.haltLatches = true) :
    mask B (nestDeasserted n s) = mask B s := by
  unfold nestDeasserted
  dsimp only
  repeat' split
  all_goals simp [h1, h2, h3, h4, h5, h6, h7, h8, h9, h10, h11, h12, h13, h14, h15, h16, h17, h18, h19, h20, h21, h22]

@[simp] theorem levelChange_mask {B : Parts} (l : Fin 16) (now : Bool) (s : State)
    (h1 : B.notices = true) (h2 : B.cell = true) (h3 : B.idle = true) (h4 : B.records = true) (h5 : B.run = true) (h6 : B.router = true) (h7 : B.wear = true) (h8 : B.spindle = true) (h9 : B.probe = true) (h10 : B.picker = true) (h11 : B.nests = true) (h12 : B.stacker = true) (h13 : B.bays = true) (h14 : B.outSpindle = true) (h15 : B.outVacuum = true) (h16 : B.outPush = true) (h17 : B.portRouter = true) (h18 : B.portPicker = true) (h19 : B.portTransfer = true) (h20 : B.portElevator = true) (h21 : B.faults = true) (h22 : B.haltLatches = true) :
    mask B (levelChange l now s) = mask B s := by
  unfold levelChange
  repeat' split
  all_goals simp [h1, h2, h3, h4, h5, h6, h7, h8, h9, h10, h11, h12, h13, h14, h15, h16, h17, h18, h19, h20, h21, h22]

@[simp] theorem handOver_mask {B : Parts} (l : Fin 16) (before : Option Bool) (now : Bool) (s : State)
    (h1 : B.notices = true) (h2 : B.cell = true) (h3 : B.idle = true) (h4 : B.records = true) (h5 : B.run = true) (h6 : B.router = true) (h7 : B.wear = true) (h8 : B.spindle = true) (h9 : B.probe = true) (h10 : B.picker = true) (h11 : B.nests = true) (h12 : B.stacker = true) (h13 : B.bays = true) (h14 : B.outSpindle = true) (h15 : B.outVacuum = true) (h16 : B.outPush = true) (h17 : B.portRouter = true) (h18 : B.portPicker = true) (h19 : B.portTransfer = true) (h20 : B.portElevator = true) (h21 : B.faults = true) (h22 : B.haltLatches = true) :
    mask B (handOver l before now s) = mask B s := by
  unfold handOver
  repeat' split
  all_goals simp [h1, h2, h3, h4, h5, h6, h7, h8, h9, h10, h11, h12, h13, h14, h15, h16, h17, h18, h19, h20, h21, h22]

@[simp] theorem routerDone_mask {B : Parts} (s : State)
    (h1 : B.notices = true) (h2 : B.cell = true) (h3 : B.idle = true) (h4 : B.records = true) (h5 : B.run = true) (h6 : B.router = true) (h7 : B.wear = true) (h8 : B.spindle = true) (h9 : B.probe = true) (h10 : B.picker = true) (h11 : B.nests = true) (h12 : B.stacker = true) (h13 : B.outSpindle = true) (h14 : B.outVacuum = true) (h15 : B.outPush = true) (h16 : B.portRouter = true) (h17 : B.portPicker = true) (h18 : B.portTransfer = true) (h19 : B.portElevator = true) (h20 : B.faults = true) (h21 : B.haltLatches = true) :
    mask B (routerDone s) = mask B s := by
  unfold routerDone
  repeat' split
  all_goals simp [h1, h2, h3, h4, h5, h6, h7, h8, h9, h10, h11, h12, h13, h14, h15, h16, h17, h18, h19, h20, h21]

@[simp] theorem pickerDone_mask {B : Parts} (s : State)
    (h1 : B.run = true) (h2 : B.picker = true) (h3 : B.outVacuum = true) (h4 : B.outBlow = true) (h5 : B.portPicker = true) :
    mask B (pickerDone s) = mask B s := by
  unfold pickerDone
  simp [h1, h2, h3, h4, h5]

@[simp] theorem elevatorDone_mask {B : Parts} (s : State)
    (h1 : B.notices = true) (h2 : B.stacker = true) (h3 : B.bays = true) (h4 : B.portTransfer = true) (h5 : B.portElevator = true) :
    mask B (elevatorDone s) = mask B s := by
  unfold elevatorDone
  simp [h1, h2, h3, h4, h5]

@[simp] theorem edge_mask {B : Parts} (l : Fin 16) (s : State)
    (h1 : B.notices = true) (h2 : B.cell = true) (h3 : B.idle = true) (h4 : B.records = true) (h5 : B.run = true) (h6 : B.router = true) (h7 : B.wear = true) (h8 : B.spindle = true) (h9 : B.probe = true) (h10 : B.picker = true) (h11 : B.nests = true) (h12 : B.stacker = true) (h13 : B.bays = true) (h14 : B.outSpindle = true) (h15 : B.outVacuum = true) (h16 : B.outBlow = true) (h17 : B.outPush = true) (h18 : B.outGate = true) (h19 : B.portRouter = true) (h20 : B.portPicker = true) (h21 : B.portTransfer = true) (h22 : B.portElevator = true) (h23 : B.faults = true) (h24 : B.haltLatches = true) :
    mask B (edge l s) = mask B s := by
  unfold edge
  repeat' split
  all_goals simp [h1, h2, h3, h4, h5, h6, h7, h8, h9, h10, h11, h12, h13, h14, h15, h16, h17, h18, h19, h20, h21, h22, h23, h24]

@[simp] theorem acceptLine_mask {B : Parts} (l : Fin 16) (v : Bool) (s : State)
    (h1 : B.notices = true) (h2 : B.cell = true) (h3 : B.idle = true) (h4 : B.records = true) (h5 : B.run = true) (h6 : B.router = true) (h7 : B.wear = true) (h8 : B.spindle = true) (h9 : B.probe = true) (h10 : B.picker = true) (h11 : B.nests = true) (h12 : B.stacker = true) (h13 : B.bays = true) (h14 : B.ded = true) (h15 : B.outSpindle = true) (h16 : B.outVacuum = true) (h17 : B.outBlow = true) (h18 : B.outPush = true) (h19 : B.outGate = true) (h20 : B.portRouter = true) (h21 : B.portPicker = true) (h22 : B.portTransfer = true) (h23 : B.portElevator = true) (h24 : B.faults = true) (h25 : B.haltLatches = true) :
    mask B (acceptLine l v s) = mask B s := by
  unfold acceptLine
  simp [h1, h2, h3, h4, h5, h6, h7, h8, h9, h10, h11, h12, h13, h14, h15, h16, h17, h18, h19, h20, h21, h22, h23, h24, h25]

@[simp] theorem acceptAux_mask {B : Parts} (n : Fin 4) (high : Bool) (s : State)
    (h1 : B.auxSet = true) (h2 : B.auxLatch = true) :
    mask B (acceptAux n high s) = mask B s := by
  unfold acceptAux
  simp [h1, h2]

@[simp] theorem presentInput_mask {B : Parts} (pin : Option Bool) (s : State) (h : B.free = true) :
    mask B (presentInput pin s).2 = mask B s := by
  unfold presentInput
  split <;> simp [h]

@[simp] theorem restartDed_mask {B : Parts} (l : Fin 16) (sense : Sense) (period : SamplePeriod) (s : State)
    (h1 : B.ded = true) (h2 : B.free = true) : mask B (restartDed l sense period s).2 = mask B s := by
  unfold restartDed
  simp [h1, h2]

@[simp] theorem restartAux_mask {B : Parts} (n : Fin 4) (mode : DetectMode) (role : AuxRole) (period : SamplePeriod) (enable : Bool)
    (s : State)
    (h1 : B.auxSet = true) (h2 : B.auxLatch = true) (h3 : B.free = true) :
    mask B (restartAux n mode role period enable s) = mask B s := by
  unfold restartAux
  simp [h1, h2, h3]

@[simp] theorem acceptStop_mask {B : Parts} (isOpen : Bool) (s : State)
    (h1 : B.notices = true) (h2 : B.cell = true) (h3 : B.idle = true) (h4 : B.records = true) (h5 : B.run = true) (h6 : B.router = true) (h7 : B.wear = true) (h8 : B.spindle = true) (h9 : B.probe = true) (h10 : B.picker = true) (h11 : B.nests = true) (h12 : B.stacker = true) (h13 : B.stop = true) (h14 : B.outSpindle = true) (h15 : B.outVacuum = true) (h16 : B.outPush = true) (h17 : B.portRouter = true) (h18 : B.portPicker = true) (h19 : B.portTransfer = true) (h20 : B.portElevator = true) (h21 : B.faults = true) (h22 : B.haltLatches = true) :
    mask B (acceptStop isOpen s) = mask B s := by
  unfold acceptStop
  simp [h1, h2, h3, h4, h5, h6, h7, h8, h9, h10, h11, h12, h13, h14, h15, h16, h17, h18, h19, h20, h21, h22, Lines.blank]

end Sys2Proof.Machine
end

