-- ==== Sys2Proof/Laws/FrameEvents.lean ====
section
/-! SUPPORT. What the effects of requests and events change: nothing outside the parts named. -/

namespace Sys2Proof.Machine

@[simp] theorem unconfigure_mask {B : Parts} (s : State)
    (h1 : B.cell = true) (h2 : B.idle = true) :
    mask B (unconfigure s) = mask B s := by
  unfold unconfigure
  repeat' split
  all_goals simp [h1, h2, Cell.blank]

@[simp] theorem discardRuntime_mask {B : Parts} (s : State)
    (h1 : B.runOf = true) (h2 : B.run = true) (h3 : B.router = true) (h4 : B.probe = true) :
    mask B (discardRuntime s) = mask B s := by
  unfold discardRuntime
  simp [h1, h2, h3, h4, Sequencer.blank]

@[simp] theorem configure_mask {B : Parts} (s : State)
    (h1 : B.notices = true) (h2 : B.cell = true) (h3 : B.idle = true) :
    mask B (configure s) = mask B s := by
  unfold configure
  repeat' split
  all_goals simp [h1, h2, h3, Cell.blank]

@[simp] theorem buildRuntime_mask {B : Parts} (serial : Serial) (marks : List (Fin 64 × Disposition)) (s : State)
    (h1 : B.runOf = true) (h2 : B.run = true) (h3 : B.router = true) (h4 : B.probe = true) :
    mask B (buildRuntime serial marks s) = mask B s := by
  unfold buildRuntime
  simp [h1, h2, h3, h4, Sequencer.blank]

@[simp] theorem holdLines_mask {B : Parts} (s : State)
    (h1 : B.notices = true) (h2 : B.cell = true) (h3 : B.idle = true) (h4 : B.auxLatch = true) :
    mask B (holdLines s) = mask B s := by
  unfold holdLines
  simp [h1, h2, h3, h4]

@[simp] theorem startPanel_mask {B : Parts} (serial : Serial) (dx dy : Int) (marks : List (Fin 64 × Disposition)) (s : State)
    (h1 : B.tx = true) (h2 : B.notices = true) (h3 : B.cell = true) (h4 : B.idle = true) (h5 : B.records = true) (h6 : B.runOf = true) (h7 : B.run = true) (h8 : B.router = true) (h9 : B.spindle = true) (h10 : B.probe = true) (h11 : B.auxLatch = true) (h12 : B.outSpindle = true) :
    mask B (startPanel serial dx dy marks s) = mask B s := by
  unfold startPanel
  simp [h1, h2, h3, h4, h5, h6, h7, h8, h9, h10, h11, h12, Cell.blank, Sequencer.blank]

@[simp] theorem enterReturn_mask {B : Parts} (s : State)
    (h1 : B.notices = true) (h2 : B.cell = true) (h3 : B.idle = true) :
    mask B (enterReturn s) = mask B s := by
  unfold enterReturn
  repeat' split
  all_goals simp [h1, h2, h3, Cell.blank]

@[simp] theorem restartSpindle_mask {B : Parts} (s : State)
    (h1 : B.cell = true) (h2 : B.spindle = true) (h3 : B.outSpindle = true) :
    mask B (restartSpindle s) = mask B s := by
  unfold restartSpindle
  simp [h1, h2, h3, Cell.blank]

@[simp] theorem resumeHalted_mask {B : Parts} (s : State)
    (h1 : B.tx = true) (h2 : B.notices = true) (h3 : B.cell = true) (h4 : B.idle = true) (h5 : B.spindle = true) (h6 : B.outSpindle = true) (h7 : B.haltLatches = true) :
    mask B (resumeHalted s) = mask B s := by
  unfold resumeHalted
  simp [h1, h2, h3, h4, h5, h6, h7, Faults.blank]

@[simp] theorem stopMode_mask {B : Parts} (s : State)
    (h1 : B.notices = true) (h2 : B.cell = true) (h3 : B.idle = true) :
    mask B (stopMode s) = mask B s := by
  unfold stopMode
  repeat' split
  all_goals simp [h1, h2, h3, Cell.blank]

@[simp] theorem stopPanel_mask {B : Parts} (s : State)
    (h1 : B.notices = true) (h2 : B.cell = true) (h3 : B.idle = true) (h4 : B.records = true) (h5 : B.run = true) (h6 : B.picker = true) (h7 : B.nests = true) (h8 : B.outVacuum = true) (h9 : B.portPicker = true) :
    mask B (stopPanel s) = mask B s := by
  unfold stopPanel
  simp [h1, h2, h3, h4, h5, h6, h7, h8, h9, Cell.blank]

@[simp] theorem clearRouter_mask {B : Parts} (s : State)
    (h1 : B.notices = true) (h2 : B.cell = true) (h3 : B.idle = true) (h4 : B.records = true) (h5 : B.run = true) (h6 : B.router = true) (h7 : B.wear = true) (h8 : B.spindle = true) (h9 : B.probe = true) (h10 : B.picker = true) (h11 : B.nests = true) (h12 : B.stacker = true) (h13 : B.outSpindle = true) (h14 : B.outVacuum = true) (h15 : B.outPush = true) (h16 : B.portRouter = true) (h17 : B.portPicker = true) (h18 : B.portTransfer = true) (h19 : B.portElevator = true) (h20 : B.faults = true) (h21 : B.haltLatches = true) :
    mask B (clearRouter s) = mask B s := by
  unfold clearRouter
  dsimp only
  split <;>
  simp [h1, h2, h3, h4, h5, h6, h7, h8, h9, h10, h11, h12, h13, h14, h15, h16, h17, h18, h19, h20, h21, Router.blank]

@[simp] theorem clearPicker_mask {B : Parts} (s : State)
    (h1 : B.notices = true) (h2 : B.cell = true) (h3 : B.idle = true) (h4 : B.records = true) (h5 : B.run = true) (h6 : B.router = true) (h7 : B.wear = true) (h8 : B.spindle = true) (h9 : B.probe = true) (h10 : B.picker = true) (h11 : B.nests = true) (h12 : B.stacker = true) (h13 : B.outSpindle = true) (h14 : B.outVacuum = true) (h15 : B.outBlow = true) (h16 : B.outPush = true) (h17 : B.portRouter = true) (h18 : B.portPicker = true) (h19 : B.portTransfer = true) (h20 : B.portElevator = true) (h21 : B.faults = true) (h22 : B.haltLatches = true) :
    mask B (clearPicker s) = mask B s := by
  unfold clearPicker
  dsimp only
  repeat' split
  all_goals simp [h1, h2, h3, h4, h5, h6, h7, h8, h9, h10, h11, h12, h13, h14, h15, h16, h17, h18, h19, h20, h21, h22, Picker.blank, Outputs.blank, Ports.blank, Picker.cleared, Picker.reset]

@[simp] theorem loseHand_mask {B : Parts} (h : Hand) (s : State)
    (h1 : B.records = true) (h2 : B.run = true) :
    mask B (loseHand h s) = mask B s := by
  unfold loseHand
  simp [h1, h2]

@[simp] theorem settleHand_mask {B : Parts} (k : Stacker) (s : State)
    (h1 : B.notices = true) (h2 : B.records = true) (h3 : B.run = true) (h4 : B.nests = true) (h5 : B.bays = true) :
    mask B (settleHand k s) = mask B s := by
  unfold settleHand
  dsimp only
  repeat' split
  all_goals simp [h1, h2, h3, h4, h5]

@[simp] theorem clearStacker_mask {B : Parts} (s : State)
    (h1 : B.notices = true) (h2 : B.records = true) (h3 : B.run = true) (h4 : B.nests = true) (h5 : B.stacker = true) (h6 : B.bays = true) (h7 : B.outPush = true) (h8 : B.outGate = true) (h9 : B.portTransfer = true) (h10 : B.portElevator = true) :
    mask B (clearStacker s) = mask B s := by
  unfold clearStacker
  simp [h1, h2, h3, h4, h5, h6, h7, h8, h9, h10, Outputs.blank, Ports.blank]

@[simp] theorem clearAuxLatch_mask {B : Parts} (n : Notice) (s : State)
    (h1 : B.auxSet = true) (h2 : B.auxLatch = true) :
    mask B (clearAuxLatch n s) = mask B s := by
  unfold clearAuxLatch
  dsimp only
  repeat' split
  all_goals simp [h1, h2]

@[simp] theorem resetWear_mask {B : Parts} (s : State)
    (h1 : B.notices = true) (h2 : B.wear = true) :
    mask B (resetWear s) = mask B s := by
  unfold resetWear
  repeat' split
  · exact addWear_mask noRaise _ _ (fun _ _ _ => rfl) h1 h2
  all_goals rfl

@[simp] theorem resetBay_mask {B : Parts} (x : Bay) (push : Option Nat) (s : State)
    (h1 : B.notices = true) (h2 : B.bays = true) :
    mask B (resetBay x push s) = mask B s := by
  unfold resetBay
  cases push
  · simp [h2]
  · simp [h1, h2]

@[simp] theorem resetNotices_mask {B : Parts} (s : State)
    (h1 : B.tx = true) (h2 : B.notices = true) :
    mask B (resetNotices s) = mask B s := by
  unfold resetNotices
  dsimp only
  all_goals simp [h1, h2, Link.blank]

@[simp] theorem resetUnits_mask {B : Parts} (s : State)
    (h1 : B.records = true) (h2 : B.runOf = true) (h3 : B.run = true) (h4 : B.router = true) (h5 : B.spindle = true) (h6 : B.probe = true) (h7 : B.picker = true) (h8 : B.gripTimes = true) (h9 : B.nests = true) (h10 : B.stacker = true) (h11 : B.outSpindle = true) (h12 : B.outVacuum = true) (h13 : B.outBlow = true) (h14 : B.outPush = true) (h15 : B.outGate = true) (h16 : B.portRouter = true) (h17 : B.portPicker = true) (h18 : B.portTransfer = true) (h19 : B.portElevator = true) (h20 : B.faults = true) (h21 : B.haltLatches = true) :
    mask B (resetUnits s) = mask B s := by
  unfold resetUnits
  simp [h1, h2, h3, h4, h5, h6, h7, h8, h9, h10, h11, h12, h13, h14, h15, h16, h17, h18, h19, h20, h21, Sequencer.blank, Router.blank, Spindle.blank, Probe.blank, Picker.blank, Outputs.blank, Ports.blank,
    Faults.blank, Router.cellReset, Spindle.cellReset, Probe.cellReset]

@[simp] theorem resetCell_mask {B : Parts} (s : State)
    (h1 : B.cell = true) (h2 : B.idle = true) :
    mask B (resetCell s) = mask B s := by
  unfold resetCell
  simp [h1, h2, Cell.blank]

@[simp] theorem resetLine_mask {B : Parts} (s : State) (l : Fin 16)
    (h1 : B.notices = true) (h2 : B.cell = true) (h3 : B.idle = true) (h4 : B.records = true) (h5 : B.run = true) (h6 : B.router = true) (h7 : B.wear = true) (h8 : B.spindle = true) (h9 : B.probe = true) (h10 : B.picker = true) (h11 : B.nests = true) (h12 : B.stacker = true) (h13 : B.bays = true) (h14 : B.ded = true) (h15 : B.outSpindle = true) (h16 : B.outVacuum = true) (h17 : B.outPush = true) (h18 : B.portRouter = true) (h19 : B.portPicker = true) (h20 : B.portTransfer = true) (h21 : B.portElevator = true) (h22 : B.faults = true) (h23 : B.haltLatches = true) (h24 : B.free = true) :
    mask B (resetLine s l) = mask B s := by
  unfold resetLine
  simp [h1, h2, h3, h4, h5, h6, h7, h8, h9, h10, h11, h12, h13, h14, h15, h16, h17, h18, h19, h20, h21, h22, h23, h24]

@[simp] theorem resetAux_mask {B : Parts} (s : State) (n : Fin 4)
    (h1 : B.auxSet = true) (h2 : B.auxLatch = true) (h3 : B.free = true) :
    mask B (resetAux s n) = mask B s := by
  unfold resetAux
  simp [h1, h2, h3]

@[simp] theorem raiseStanding_mask {B : Parts} (src : Source) (d : Detail) (s : State)
    (h1 : B.notices = true) (h2 : B.cell = true) (h3 : B.idle = true) (h4 : B.records = true) (h5 : B.run = true) (h6 : B.router = true) (h7 : B.wear = true) (h8 : B.spindle = true) (h9 : B.probe = true) (h10 : B.picker = true) (h11 : B.nests = true) (h12 : B.stacker = true) (h13 : B.outSpindle = true) (h14 : B.outVacuum = true) (h15 : B.outPush = true) (h16 : B.portRouter = true) (h17 : B.portPicker = true) (h18 : B.portTransfer = true) (h19 : B.portElevator = true) (h20 : B.faults = true) (h21 : B.haltLatches = true) :
    mask B (raiseStanding src d s) = mask B s := by
  unfold raiseStanding
  simp [h1, h2, h3, h4, h5, h6, h7, h8, h9, h10, h11, h12, h13, h14, h15, h16, h17, h18, h19, h20, h21]

@[simp] theorem resetAll_mask {B : Parts} (s : State)
    (h1 : B.tx = true) (h2 : B.notices = true) (h3 : B.cell = true) (h4 : B.idle = true) (h5 : B.records = true) (h6 : B.runOf = true) (h7 : B.run = true) (h8 : B.router = true) (h9 : B.wear = true) (h10 : B.spindle = true) (h11 : B.probe = true) (h12 : B.picker = true) (h13 : B.gripTimes = true) (h14 : B.nests = true) (h15 : B.stacker = true) (h16 : B.bays = true) (h17 : B.ded = true) (h18 : B.auxSet = true) (h19 : B.auxLatch = true) (h20 : B.outSpindle = true) (h21 : B.outVacuum = true) (h22 : B.outBlow = true) (h23 : B.outPush = true) (h24 : B.outGate = true) (h25 : B.portRouter = true) (h26 : B.portPicker = true) (h27 : B.portTransfer = true) (h28 : B.portElevator = true) (h29 : B.faults = true) (h30 : B.haltLatches = true) (h31 : B.free = true) :
    mask B (resetAll s) = mask B s := by
  unfold resetAll
  simp [h1, h2, h3, h4, h5, h6, h7, h8, h9, h10, h11, h12, h13, h14, h15, h16, h17, h18, h19, h20, h21, h22, h23, h24, h25, h26, h27, h28, h29, h30, h31]

@[simp] theorem setRx_mask {B : Parts} (r : Receiver) (s : State)
    (h1 : B.rx = true) :
    mask B (setRx r s) = mask B s := by
  unfold setRx
  simp [h1, Link.blank]

@[simp] theorem linkGarbled_mask {B : Parts} (cause : Byte) (s : State)
    (h1 : B.notices = true) :
    mask B (linkGarbled cause s) = mask B s := by
  unfold linkGarbled
  simp [h1]

@[simp] theorem frameEnds_mask {B : Parts} (s : State)
    (h1 : B.slot = true) (h2 : B.overrun = true) (h3 : B.tx = true) (h4 : B.notices = true) :
    mask B (frameEnds s) = mask B s := by
  unfold frameEnds
  dsimp only
  repeat' split
  · rfl
  all_goals simp [h1, h2, h3, h4, Link.blank, dropAnswer]

@[simp] theorem namedDone_mask {B : Parts} (ofKind : Order → Bool) (port : Port) (l : Fin 16) (s : State)
    (h1 : B.notices = true) (h2 : B.cell = true) (h3 : B.idle = true) (h4 : B.records = true) (h5 : B.run = true) (h6 : B.router = true) (h7 : B.wear = true) (h8 : B.spindle = true) (h9 : B.probe = true) (h10 : B.picker = true) (h11 : B.nests = true) (h12 : B.stacker = true) (h13 : B.bays = true) (h14 : B.ded = true) (h15 : B.outSpindle = true) (h16 : B.outVacuum = true) (h17 : B.outBlow = true) (h18 : B.outPush = true) (h19 : B.outGate = true) (h20 : B.portRouter = true) (h21 : B.portPicker = true) (h22 : B.portTransfer = true) (h23 : B.portElevator = true) (h24 : B.faults = true) (h25 : B.haltLatches = true) :
    mask B (namedDone ofKind port l s) = mask B s := by
  unfold namedDone acceptEdge
  repeat' split
  all_goals simp [h1, h2, h3, h4, h5, h6, h7, h8, h9, h10, h11, h12, h13, h14, h15, h16, h17, h18, h19, h20, h21, h22, h23, h24, h25]

@[simp] theorem wakeComplete_mask {B : Parts} (s : State)
    (h1 : B.notices = true) (h2 : B.cell = true) (h3 : B.idle = true) :
    mask B (wakeComplete s) = mask B s := by
  unfold wakeComplete
  dsimp only
  repeat' split
  all_goals simp [h1, h2, h3, Cell.blank]

@[simp] theorem reachSpeed_mask {B : Parts} (s : State)
    (h1 : B.notices = true) (h2 : B.cell = true) (h3 : B.idle = true) (h4 : B.spindle = true) :
    mask B (reachSpeed s) = mask B s := by
  unfold reachSpeed
  simp [h1, h2, h3, h4, Spindle.blank]

@[simp] theorem qualifyPeriod_mask {B : Parts} (counted : Bool) (rpm : Nat) (s : State)
    (h1 : B.notices = true) (h2 : B.cell = true) (h3 : B.idle = true) (h4 : B.spindle = true) :
    mask B (qualifyPeriod counted rpm s) = mask B s := by
  unfold qualifyPeriod
  simp [h1, h2, h3, h4, Spindle.blank]

@[simp] theorem sagPeriod_mask {B : Parts} (rpm : Nat) (s : State)
    (h1 : B.notices = true) (h2 : B.cell = true) (h3 : B.idle = true) (h4 : B.records = true) (h5 : B.run = true) (h6 : B.router = true) (h7 : B.wear = true) (h8 : B.spindle = true) (h9 : B.probe = true) (h10 : B.picker = true) (h11 : B.nests = true) (h12 : B.stacker = true) (h13 : B.outSpindle = true) (h14 : B.outVacuum = true) (h15 : B.outPush = true) (h16 : B.portRouter = true) (h17 : B.portPicker = true) (h18 : B.portTransfer = true) (h19 : B.portElevator = true) (h20 : B.faults = true) (h21 : B.haltLatches = true) :
    mask B (sagPeriod rpm s) = mask B s := by
  unfold sagPeriod
  dsimp only
  repeat' split
  all_goals simp [h1, h2, h3, h4, h5, h6, h7, h8, h9, h10, h11, h12, h13, h14, h15, h16, h17, h18, h19, h20, h21, Router.blank]

@[simp] theorem periodRpm_mask {B : Parts} (c : Nat) (s : State) (h : B.free = true) :
    mask B (periodRpm c s).2 = mask B s := by
  unfold periodRpm
  split <;> simp [h]

@[simp] theorem measurePeriod_mask {B : Parts} (counted : Bool) (c : Nat) (s : State)
    (h1 : B.notices = true) (h2 : B.cell = true) (h3 : B.idle = true) (h4 : B.records = true) (h5 : B.run = true) (h6 : B.router = true) (h7 : B.wear = true) (h8 : B.spindle = true) (h9 : B.tach = true) (h10 : B.probe = true) (h11 : B.picker = true) (h12 : B.nests = true) (h13 : B.stacker = true) (h14 : B.outSpindle = true) (h15 : B.outVacuum = true) (h16 : B.outPush = true) (h17 : B.portRouter = true) (h18 : B.portPicker = true) (h19 : B.portTransfer = true) (h20 : B.portElevator = true) (h21 : B.faults = true) (h22 : B.haltLatches = true) (h23 : B.free = true) :
    mask B (measurePeriod counted c s) = mask B s := by
  unfold measurePeriod
  simp [h1, h2, h3, h4, h5, h6, h7, h8, h9, h10, h11, h12, h13, h14, h15, h16, h17, h18, h19, h20, h21, h22, h23, Spindle.blank]

@[simp] theorem noteEdge_mask {B : Parts} (time : Nat) (s : State)
    (h1 : B.spindle = true) (h2 : B.tach = true) :
    mask B (noteEdge time s) = mask B s := by
  unfold noteEdge
  simp [h1, h2, Spindle.blank]

@[simp] theorem tachRises_mask {B : Parts} (time : Nat) (s : State)
    (h1 : B.notices = true) (h2 : B.cell = true) (h3 : B.idle = true) (h4 : B.records = true) (h5 : B.run = true) (h6 : B.router = true) (h7 : B.wear = true) (h8 : B.spindle = true) (h9 : B.tach = true) (h10 : B.probe = true) (h11 : B.picker = true) (h12 : B.nests = true) (h13 : B.stacker = true) (h14 : B.outSpindle = true) (h15 : B.outVacuum = true) (h16 : B.outPush = true) (h17 : B.portRouter = true) (h18 : B.portPicker = true) (h19 : B.portTransfer = true) (h20 : B.portElevator = true) (h21 : B.faults = true) (h22 : B.haltLatches = true) (h23 : B.free = true) :
    mask B (tachRises time s) = mask B s := by
  unfold tachRises
  dsimp only
  repeat' split
  all_goals simp [h1, h2, h3, h4, h5, h6, h7, h8, h9, h10, h11, h12, h13, h14, h15, h16, h17, h18, h19, h20, h21, h22, h23]

@[simp] theorem tachSilent_mask {B : Parts} (s : State)
    (h1 : B.notices = true) (h2 : B.cell = true) (h3 : B.idle = true) (h4 : B.records = true) (h5 : B.run = true) (h6 : B.router = true) (h7 : B.wear = true) (h8 : B.spindle = true) (h9 : B.probe = true) (h10 : B.picker = true) (h11 : B.nests = true) (h12 : B.stacker = true) (h13 : B.outSpindle = true) (h14 : B.outVacuum = true) (h15 : B.outPush = true) (h16 : B.portRouter = true) (h17 : B.portPicker = true) (h18 : B.portTransfer = true) (h19 : B.portElevator = true) (h20 : B.faults = true) (h21 : B.haltLatches = true) :
    mask B (tachSilent s) = mask B s := by
  unfold tachSilent
  simp [h1, h2, h3, h4, h5, h6, h7, h8, h9, h10, h11, h12, h13, h14, h15, h16, h17, h18, h19, h20, h21, Spindle.blank]

@[simp] theorem blowEnds_mask {B : Parts} (s : State)
    (h1 : B.records = true) (h2 : B.run = true) (h3 : B.picker = true) (h4 : B.nests = true) (h5 : B.outBlow = true) (h6 : B.portPicker = true) :
    mask B (blowEnds s) = mask B s := by
  unfold blowEnds
  dsimp only
  repeat' split
  all_goals simp [h1, h2, h3, h4, h5, h6, Picker.blank, Outputs.blank]

@[simp] theorem windowEnds_mask {B : Parts} (s : State)
    (h1 : B.notices = true) (h2 : B.cell = true) (h3 : B.idle = true) (h4 : B.records = true) (h5 : B.run = true) (h6 : B.router = true) (h7 : B.wear = true) (h8 : B.spindle = true) (h9 : B.probe = true) (h10 : B.picker = true) (h11 : B.nests = true) (h12 : B.stacker = true) (h13 : B.outSpindle = true) (h14 : B.outVacuum = true) (h15 : B.outPush = true) (h16 : B.portRouter = true) (h17 : B.portPicker = true) (h18 : B.portTransfer = true) (h19 : B.portElevator = true) (h20 : B.faults = true) (h21 : B.haltLatches = true) :
    mask B (windowEnds s) = mask B s := by
  unfold windowEnds
  repeat' split
  all_goals simp [h1, h2, h3, h4, h5, h6, h7, h8, h9, h10, h11, h12, h13, h14, h15, h16, h17, h18, h19, h20, h21]

end Sys2Proof.Machine
end

