-- ==== Sys2Proof/Laws/FrameRequests.lean ====
section
/-! SUPPORT. What the carrying out of each request changes: nothing outside the parts named. -/

namespace Sys2Proof.Machine

@[simp] theorem refuseField_state (f : FieldFail) (s : State) : (refuseField f s).1 = s := by
  cases f <;> rfl

@[simp] theorem badField_state (p : Nat) (s : State) : (badField p s).1 = s := rfl

@[simp] theorem refuse_state (st : Status) (s : State) : (refuse st s).1 = s := rfl

@[simp] theorem done_state (st : Status) (r : List Byte) (s : State) : (done st r s).1 = s := rfl

theorem statusQuery_mask {B : Parts} (body : List Byte) (s : State) :
    mask B (statusQuery body s).1 = mask B s := by
  unfold statusQuery
  try dsimp only
  all_goals simp

theorem tableRead_mask {B : Parts} (body : List Byte) (s : State)
    (h1 : B.free = true) :
    mask B (tableRead body s).1 = mask B s := by
  unfold tableRead
  try dsimp only
  repeat' split
  all_goals simp [h1]

theorem recipeBegin_mask {B : Parts} (body : List Byte) (s : State)
    (h1 : B.recipe = true) (h2 : B.cell = true) (h3 : B.idle = true) (h4 : B.runOf = true) (h5 : B.run = true) (h6 : B.router = true) (h7 : B.probe = true) :
    mask B (recipeBegin body s).1 = mask B s := by
  unfold recipeBegin
  try dsimp only
  repeat' split
  all_goals simp [h1, h2, h3, h4, h5, h6, h7]

theorem boardDefine_mask {B : Parts} (body : List Byte) (s : State)
    (h1 : B.recipe = true) :
    mask B (boardDefine body s).1 = mask B s := by
  unfold boardDefine
  try dsimp only
  repeat' split
  all_goals simp [h1]

theorem tabDefine_mask {B : Parts} (body : List Byte) (s : State)
    (h1 : B.recipe = true) :
    mask B (tabDefine body s).1 = mask B s := by
  unfold tabDefine
  try dsimp only
  repeat' split
  all_goals simp [h1]

theorem recipeClose_mask {B : Parts} (body : List Byte) (s : State)
    (h1 : B.notices = true) (h2 : B.recipe = true) (h3 : B.cell = true) (h4 : B.idle = true) :
    mask B (recipeClose body s).1 = mask B s := by
  unfold recipeClose
  try dsimp only
  repeat' split
  all_goals simp [h1, h2, h3, h4]

theorem profileDefine_mask {B : Parts} (body : List Byte) (s : State)
    (h1 : B.recipe = true) :
    mask B (profileDefine body s).1 = mask B s := by
  unfold profileDefine
  try dsimp only
  repeat' split
  all_goals simp [h1]

theorem panelStart_mask {B : Parts} (body : List Byte) (s : State)
    (h1 : B.tx = true) (h2 : B.notices = true) (h3 : B.cell = true) (h4 : B.idle = true) (h5 : B.records = true) (h6 : B.runOf = true) (h7 : B.run = true) (h8 : B.router = true) (h9 : B.spindle = true) (h10 : B.probe = true) (h11 : B.auxLatch = true) (h12 : B.outSpindle = true) :
    mask B (panelStart body s).1 = mask B s := by
  unfold panelStart
  try dsimp only
  repeat' split
  all_goals simp [h1, h2, h3, h4, h5, h6, h7, h8, h9, h10, h11, h12]

theorem holdAtBoundary_mask {B : Parts} (body : List Byte) (s : State)
    (h1 : B.notices = true) (h2 : B.cell = true) (h3 : B.idle = true) :
    mask B (holdAtBoundary body s).1 = mask B s := by
  unfold holdAtBoundary
  try dsimp only
  repeat' split
  all_goals simp [h1, h2, h3]

theorem resumeCell_mask {B : Parts} (body : List Byte) (s : State)
    (h1 : B.tx = true) (h2 : B.notices = true) (h3 : B.cell = true) (h4 : B.idle = true) (h5 : B.spindle = true) (h6 : B.outSpindle = true) (h7 : B.haltLatches = true) :
    mask B (resumeCell body s).1 = mask B s := by
  unfold resumeCell
  try dsimp only
  repeat' split
  all_goals simp [h1, h2, h3, h4, h5, h6, h7, Cell.blank]

theorem panelStop_mask {B : Parts} (body : List Byte) (s : State)
    (h1 : B.notices = true) (h2 : B.cell = true) (h3 : B.idle = true) (h4 : B.records = true) (h5 : B.run = true) (h6 : B.picker = true) (h7 : B.nests = true) (h8 : B.outVacuum = true) (h9 : B.portPicker = true) :
    mask B (panelStop body s).1 = mask B s := by
  unfold panelStop
  try dsimp only
  repeat' split
  all_goals simp [h1, h2, h3, h4, h5, h6, h7, h8, h9]

theorem parkRequest_mask {B : Parts} (body : List Byte) (s : State)
    (h1 : B.notices = true) (h2 : B.cell = true) (h3 : B.idle = true) (h4 : B.spindle = true) (h5 : B.outSpindle = true) :
    mask B (parkRequest body s).1 = mask B s := by
  unfold parkRequest
  try dsimp only
  repeat' split
  all_goals simp [h1, h2, h3, h4, h5]

theorem wakeRequest_mask {B : Parts} (body : List Byte) (s : State)
    (h1 : B.tx = true) (h2 : B.notices = true) (h3 : B.cell = true) (h4 : B.spindle = true) (h5 : B.auxLatch = true) (h6 : B.outSpindle = true) :
    mask B (wakeRequest body s).1 = mask B s := by
  unfold wakeRequest
  try dsimp only
  repeat' split
  all_goals simp [h1, h2, h3, h4, h5, h6]

theorem bitSet_mask {B : Parts} (body : List Byte) (s : State)
    (h1 : B.wear = true) (h2 : B.bitLife = true) :
    mask B (bitSet body s).1 = mask B s := by
  unfold bitSet
  try dsimp only
  repeat' split
  all_goals simp [h1, h2, Router.blank]

theorem spindleSpeed_mask {B : Parts} (body : List Byte) (s : State)
    (h1 : B.spindle = true) (h2 : B.setpoint = true) (h3 : B.outSpindle = true) :
    mask B (spindleSpeed body s).1 = mask B s := by
  unfold spindleSpeed
  try dsimp only
  repeat' split
  all_goals simp [h1, h2, h3, Spindle.blank]

theorem feedOverride_mask {B : Parts} (body : List Byte) (s : State)
    (h1 : B.override = true) :
    mask B (feedOverride body s).1 = mask B s := by
  unfold feedOverride
  try dsimp only
  all_goals simp [h1, Router.blank]

theorem spindleTiming_mask {B : Parts} (body : List Byte) (s : State)
    (h1 : B.timing = true) :
    mask B (spindleTiming body s).1 = mask B s := by
  unfold spindleTiming
  try dsimp only
  all_goals simp [h1, Spindle.blank]

theorem probeSettings_mask {B : Parts} (body : List Byte) (s : State)
    (h1 : B.settings = true) :
    mask B (probeSettings body s).1 = mask B s := by
  unfold probeSettings
  try dsimp only
  repeat' split
  all_goals simp [h1, Probe.blank]

theorem pickerTiming_mask {B : Parts} (body : List Byte) (s : State)
    (h1 : B.gripTimes = true) :
    mask B (pickerTiming body s).1 = mask B s := by
  unfold pickerTiming
  try dsimp only
  all_goals simp [h1, Picker.blank]

theorem bayLoad_mask {B : Parts} (body : List Byte) (s : State)
    (h1 : B.tx = true) (h2 : B.notices = true) (h3 : B.bays = true) :
    mask B (bayLoad body s).1 = mask B s := by
  unfold bayLoad
  try dsimp only
  repeat' split
  all_goals simp [h1, h2, h3]

theorem bayRetire_mask {B : Parts} (body : List Byte) (s : State)
    (h1 : B.notices = true) (h2 : B.stacker = true) (h3 : B.bays = true) (h4 : B.portElevator = true) :
    mask B (bayRetire body s).1 = mask B s := by
  unfold bayRetire
  try dsimp only
  repeat' split
  all_goals simp [h1, h2, h3, h4]

theorem lineConfigure_mask {B : Parts} (body : List Byte) (s : State)
    (h1 : B.notices = true) (h2 : B.cell = true) (h3 : B.idle = true) (h4 : B.records = true) (h5 : B.run = true) (h6 : B.router = true) (h7 : B.wear = true) (h8 : B.spindle = true) (h9 : B.probe = true) (h10 : B.picker = true) (h11 : B.nests = true) (h12 : B.stacker = true) (h13 : B.bays = true) (h14 : B.ded = true) (h15 : B.outSpindle = true) (h16 : B.outVacuum = true) (h17 : B.outPush = true) (h18 : B.portRouter = true) (h19 : B.portPicker = true) (h20 : B.portTransfer = true) (h21 : B.portElevator = true) (h22 : B.faults = true) (h23 : B.haltLatches = true) (h24 : B.free = true) :
    mask B (lineConfigure body s).1 = mask B s := by
  unfold lineConfigure
  try dsimp only
  repeat' split
  all_goals simp [h1, h2, h3, h4, h5, h6, h7, h8, h9, h10, h11, h12, h13, h14, h15, h16, h17, h18, h19, h20, h21, h22, h23, h24]

theorem auxConfigure_mask {B : Parts} (body : List Byte) (s : State)
    (h1 : B.auxSet = true) (h2 : B.auxLatch = true) (h3 : B.free = true) :
    mask B (auxConfigure body s).1 = mask B s := by
  unfold auxConfigure
  try dsimp only
  repeat' split
  all_goals simp [h1, h2, h3]

theorem faultLevelSet_mask {B : Parts} (body : List Byte) (s : State)
    (h1 : B.levels = true) :
    mask B (faultLevelSet body s).1 = mask B s := by
  unfold faultLevelSet
  try dsimp only
  repeat' split
  all_goals simp [h1, Faults.blank]

theorem faultAcknowledge_mask {B : Parts} (body : List Byte) (s : State)
    (h1 : B.notices = true) (h2 : B.faults = true) :
    mask B (faultAcknowledge body s).1 = mask B s := by
  unfold faultAcknowledge
  try dsimp only
  repeat' split
  all_goals simp [h1, h2, Faults.blank]

theorem unitClear_mask {B : Parts} (body : List Byte) (s : State)
    (h1 : B.notices = true) (h2 : B.cell = true) (h3 : B.idle = true) (h4 : B.records = true) (h5 : B.run = true) (h6 : B.router = true) (h7 : B.wear = true) (h8 : B.spindle = true) (h9 : B.probe = true) (h10 : B.picker = true) (h11 : B.nests = true) (h12 : B.stacker = true) (h13 : B.bays = true) (h14 : B.outSpindle = true) (h15 : B.outVacuum = true) (h16 : B.outBlow = true) (h17 : B.outPush = true) (h18 : B.outGate = true) (h19 : B.portRouter = true) (h20 : B.portPicker = true) (h21 : B.portTransfer = true) (h22 : B.portElevator = true) (h23 : B.faults = true) (h24 : B.haltLatches = true) :
    mask B (unitClear body s).1 = mask B s := by
  unfold unitClear
  split
  · rfl
  · split
    · simp
    · next lo hi clear hc =>
      have hcl : ∀ u, mask B (clear u) = mask B u := by
        intro u
        unfold unitOf at hc
        split at hc <;> simp only [Option.some.injEq, Prod.mk.injEq, reduceCtorEq] at hc
        all_goals obtain ⟨-, -, rfl⟩ := hc
        all_goals simp [h1, h2, h3, h4, h5, h6, h7, h8, h9, h10, h11, h12, h13, h14, h15, h16, h17, h18, h19, h20, h21, h22, h23, h24]
      simp [h23, h24, Faults.blank, hcl]

theorem noticeEnable_mask {B : Parts} (body : List Byte) (s : State)
    (h1 : B.notices = true) :
    mask B (noticeEnable body s).1 = mask B s := by
  unfold noticeEnable
  try dsimp only
  repeat' split
  all_goals simp [h1]

theorem noticeClear_mask {B : Parts} (body : List Byte) (s : State)
    (h1 : B.tx = true) (h2 : B.notices = true) (h3 : B.auxSet = true) (h4 : B.auxLatch = true) :
    mask B (noticeClear body s).1 = mask B s := by
  unfold noticeClear
  try dsimp only
  repeat' split
  all_goals simp [h1, h2, h3, h4]

theorem cellResetRequest_mask {B : Parts} (body : List Byte) (s : State)
    (h1 : B.tx = true) (h2 : B.notices = true) (h3 : B.cell = true) (h4 : B.idle = true) (h5 : B.records = true) (h6 : B.runOf = true) (h7 : B.run = true) (h8 : B.router = true) (h9 : B.wear = true) (h10 : B.spindle = true) (h11 : B.probe = true) (h12 : B.picker = true) (h13 : B.gripTimes = true) (h14 : B.nests = true) (h15 : B.stacker = true) (h16 : B.bays = true) (h17 : B.ded = true) (h18 : B.auxSet = true) (h19 : B.auxLatch = true) (h20 : B.outSpindle = true) (h21 : B.outVacuum = true) (h22 : B.outBlow = true) (h23 : B.outPush = true) (h24 : B.outGate = true) (h25 : B.portRouter = true) (h26 : B.portPicker = true) (h27 : B.portTransfer = true) (h28 : B.portElevator = true) (h29 : B.faults = true) (h30 : B.haltLatches = true) (h31 : B.free = true) :
    mask B (cellResetRequest body s).1 = mask B s := by
  unfold cellResetRequest
  try dsimp only
  all_goals simp [h1, h2, h3, h4, h5, h6, h7, h8, h9, h10, h11, h12, h13, h14, h15, h16, h17, h18, h19, h20, h21, h22, h23, h24, h25, h26, h27, h28, h29, h30, h31]

/-- The completion of a request (R7): its block's effect, the slot, the overrun list, and LINK_GARBLED. -/
theorem takeRequest_mask {B : Parts} {kind : Byte} {lengthOk : Bool} {h : Handler} {tag : Byte} {body : List Byte} {s : State}
    (h1 : B.slot = true) (h2 : B.overrun = true) (h3 : B.notices = true) (hh : mask B (h body s).1 = mask B s) :
    mask B (takeRequest kind lengthOk h tag body s) = mask B s := by
  unfold takeRequest answerTo fillSlot
  split
  · split <;> simp [h1, hh, Link.blank]
  · split <;> simp [h2, h3, Link.blank]

theorem takeStatusQuery_mask {B : Parts} (tag : Byte) (body : List Byte) (s : State)
    (h1 : B.slot = true) (h2 : B.overrun = true) (h3 : B.notices = true) :
    mask B (takeStatusQuery tag body s) = mask B s :=
  takeRequest_mask h1 h2 h3 (statusQuery_mask body s )

theorem takeTableRead_mask {B : Parts} (tag : Byte) (body : List Byte) (s : State)
    (h1 : B.slot = true) (h2 : B.overrun = true) (h3 : B.notices = true) (h4 : B.free = true) :
    mask B (takeTableRead tag body s) = mask B s :=
  takeRequest_mask h1 h2 h3 (tableRead_mask body s h4)

theorem takeRecipeBegin_mask {B : Parts} (tag : Byte) (body : List Byte) (s : State)
    (h1 : B.slot = true) (h2 : B.overrun = true) (h3 : B.notices = true) (h4 : B.recipe = true) (h5 : B.cell = true) (h6 : B.idle = true) (h7 : B.runOf = true) (h8 : B.run = true) (h9 : B.router = true) (h10 : B.probe = true) :
    mask B (takeRecipeBegin tag body s) = mask B s :=
  takeRequest_mask h1 h2 h3 (recipeBegin_mask body s h4 h5 h6 h7 h8 h9 h10)

theorem takeBoardDefine_mask {B : Parts} (tag : Byte) (body : List Byte) (s : State)
    (h1 : B.slot = true) (h2 : B.overrun = true) (h3 : B.notices = true) (h4 : B.recipe = true) :
    mask B (takeBoardDefine tag body s) = mask B s :=
  takeRequest_mask h1 h2 h3 (boardDefine_mask body s h4)

theorem takeTabDefine_mask {B : Parts} (tag : Byte) (body : List Byte) (s : State)
    (h1 : B.slot = true) (h2 : B.overrun = true) (h3 : B.notices = true) (h4 : B.recipe = true) :
    mask B (takeTabDefine tag body s) = mask B s :=
  takeRequest_mask h1 h2 h3 (tabDefine_mask body s h4)

theorem takeRecipeClose_mask {B : Parts} (tag : Byte) (body : List Byte) (s : State)
    (h1 : B.slot = true) (h2 : B.overrun = true) (h3 : B.notices = true) (h4 : B.recipe = true) (h5 : B.cell = true) (h6 : B.idle = true) :
    mask B (takeRecipeClose tag body s) = mask B s :=
  takeRequest_mask h1 h2 h3 (recipeClose_mask body s h3 h4 h5 h6)

theorem takeProfileDefine_mask {B : Parts} (tag : Byte) (body : List Byte) (s : State)
    (h1 : B.slot = true) (h2 : B.overrun = true) (h3 : B.notices = true) (h4 : B.recipe = true) :
    mask B (takeProfileDefine tag body s) = mask B s :=
  takeRequest_mask h1 h2 h3 (profileDefine_mask body s h4)

theorem takePanelStart_mask {B : Parts} (tag : Byte) (body : List Byte) (s : State)
    (h1 : B.slot = true) (h2 : B.overrun = true) (h3 : B.tx = true) (h4 : B.notices = true) (h5 : B.cell = true) (h6 : B.idle = true) (h7 : B.records = true) (h8 : B.runOf = true) (h9 : B.run = true) (h10 : B.router = true) (h11 : B.spindle = true) (h12 : B.probe = true) (h13 : B.auxLatch = true) (h14 : B.outSpindle = true) :
    mask B (takePanelStart tag body s) = mask B s :=
  takeRequest_mask h1 h2 h4 (panelStart_mask body s h3 h4 h5 h6 h7 h8 h9 h10 h11 h12 h13 h14)

theorem takeHoldAtBoundary_mask {B : Parts} (tag : Byte) (body : List Byte) (s : State)
    (h1 : B.slot = true) (h2 : B.overrun = true) (h3 : B.notices = true) (h4 : B.cell = true) (h5 : B.idle = true) :
    mask B (takeHoldAtBoundary tag body s) = mask B s :=
  takeRequest_mask h1 h2 h3 (holdAtBoundary_mask body s h3 h4 h5)

theorem takeResume_mask {B : Parts} (tag : Byte) (body : List Byte) (s : State)
    (h1 : B.slot = true) (h2 : B.overrun = true) (h3 : B.tx = true) (h4 : B.notices = true) (h5 : B.cell = true) (h6 : B.idle = true) (h7 : B.spindle = true) (h8 : B.outSpindle = true) (h9 : B.haltLatches = true) :
    mask B (takeResume tag body s) = mask B s :=
  takeRequest_mask h1 h2 h4 (resumeCell_mask body s h3 h4 h5 h6 h7 h8 h9)

theorem takePanelStop_mask {B : Parts} (tag : Byte) (body : List Byte) (s : State)
    (h1 : B.slot = true) (h2 : B.overrun = true) (h3 : B.notices = true) (h4 : B.cell = true) (h5 : B.idle = true) (h6 : B.records = true) (h7 : B.run = true) (h8 : B.picker = true) (h9 : B.nests = true) (h10 : B.outVacuum = true) (h11 : B.portPicker = true) :
    mask B (takePanelStop tag body s) = mask B s :=
  takeRequest_mask h1 h2 h3 (panelStop_mask body s h3 h4 h5 h6 h7 h8 h9 h10 h11)

theorem takePark_mask {B : Parts} (tag : Byte) (body : List Byte) (s : State)
    (h1 : B.slot = true) (h2 : B.overrun = true) (h3 : B.notices = true) (h4 : B.cell = true) (h5 : B.idle = true) (h6 : B.spindle = true) (h7 : B.outSpindle = true) :
    mask B (takePark tag body s) = mask B s :=
  takeRequest_mask h1 h2 h3 (parkRequest_mask body s h3 h4 h5 h6 h7)

theorem takeWake_mask {B : Parts} (tag : Byte) (body : List Byte) (s : State)
    (h1 : B.slot = true) (h2 : B.overrun = true) (h3 : B.tx = true) (h4 : B.notices = true) (h5 : B.cell = true) (h6 : B.spindle = true) (h7 : B.auxLatch = true) (h8 : B.outSpindle = true) :
    mask B (takeWake tag body s) = mask B s :=
  takeRequest_mask h1 h2 h4 (wakeRequest_mask body s h3 h4 h5 h6 h7 h8)

theorem takeBitSet_mask {B : Parts} (tag : Byte) (body : List Byte) (s : State)
    (h1 : B.slot = true) (h2 : B.overrun = true) (h3 : B.notices = true) (h4 : B.wear = true) (h5 : B.bitLife = true) :
    mask B (takeBitSet tag body s) = mask B s :=
  takeRequest_mask h1 h2 h3 (bitSet_mask body s h4 h5)

theorem takeSpindleSpeed_mask {B : Parts} (tag : Byte) (body : List Byte) (s : State)
    (h1 : B.slot = true) (h2 : B.overrun = true) (h3 : B.notices = true) (h4 : B.spindle = true) (h5 : B.setpoint = true) (h6 : B.outSpindle = true) :
    mask B (takeSpindleSpeed tag body s) = mask B s :=
  takeRequest_mask h1 h2 h3 (spindleSpeed_mask body s h4 h5 h6)

theorem takeFeedOverride_mask {B : Parts} (tag : Byte) (body : List Byte) (s : State)
    (h1 : B.slot = true) (h2 : B.overrun = true) (h3 : B.notices = true) (h4 : B.override = true) :
    mask B (takeFeedOverride tag body s) = mask B s :=
  takeRequest_mask h1 h2 h3 (feedOverride_mask body s h4)

theorem takeProbeSettings_mask {B : Parts} (tag : Byte) (body : List Byte) (s : State)
    (h1 : B.slot = true) (h2 : B.overrun = true) (h3 : B.notices = true) (h4 : B.settings = true) :
    mask B (takeProbeSettings tag body s) = mask B s :=
  takeRequest_mask h1 h2 h3 (probeSettings_mask body s h4)

theorem takeSpindleTiming_mask {B : Parts} (tag : Byte) (body : List Byte) (s : State)
    (h1 : B.slot = true) (h2 : B.overrun = true) (h3 : B.notices = true) (h4 : B.timing = true) :
    mask B (takeSpindleTiming tag body s) = mask B s :=
  takeRequest_mask h1 h2 h3 (spindleTiming_mask body s h4)

theorem takePickerTiming_mask {B : Parts} (tag : Byte) (body : List Byte) (s : State)
    (h1 : B.slot = true) (h2 : B.overrun = true) (h3 : B.notices = true) (h4 : B.gripTimes = true) :
    mask B (takePickerTiming tag body s) = mask B s :=
  takeRequest_mask h1 h2 h3 (pickerTiming_mask body s h4)

theorem takeBayLoad_mask {B : Parts} (tag : Byte) (body : List Byte) (s : State)
    (h1 : B.slot = true) (h2 : B.overrun = true) (h3 : B.tx = true) (h4 : B.notices = true) (h5 : B.bays = true) :
    mask B (takeBayLoad tag body s) = mask B s :=
  takeRequest_mask h1 h2 h4 (bayLoad_mask body s h3 h4 h5)

theorem takeBayRetire_mask {B : Parts} (tag : Byte) (body : List Byte) (s : State)
    (h1 : B.slot = true) (h2 : B.overrun = true) (h3 : B.notices = true) (h4 : B.stacker = true) (h5 : B.bays = true) (h6 : B.portElevator = true) :
    mask B (takeBayRetire tag body s) = mask B s :=
  takeRequest_mask h1 h2 h3 (bayRetire_mask body s h3 h4 h5 h6)

theorem takeLineConfigure_mask {B : Parts} (tag : Byte) (body : List Byte) (s : State)
    (h1 : B.slot = true) (h2 : B.overrun = true) (h3 : B.notices = true) (h4 : B.cell = true) (h5 : B.idle = true) (h6 : B.records = true) (h7 : B.run = true) (h8 : B.router = true) (h9 : B.wear = true) (h10 : B.spindle = true) (h11 : B.probe = true) (h12 : B.picker = true) (h13 : B.nests = true) (h14 : B.stacker = true) (h15 : B.bays = true) (h16 : B.ded = true) (h17 : B.outSpindle = true) (h18 : B.outVacuum = true) (h19 : B.outPush = true) (h20 : B.portRouter = true) (h21 : B.portPicker = true) (h22 : B.portTransfer = true) (h23 : B.portElevator = true) (h24 : B.faults = true) (h25 : B.haltLatches = true) (h26 : B.free = true) :
    mask B (takeLineConfigure tag body s) = mask B s :=
  takeRequest_mask h1 h2 h3 (lineConfigure_mask body s h3 h4 h5 h6 h7 h8 h9 h10 h11 h12 h13 h14 h15 h16 h17 h18 h19 h20 h21 h22 h23 h24 h25 h26)

theorem takeAuxConfigure_mask {B : Parts} (tag : Byte) (body : List Byte) (s : State)
    (h1 : B.slot = true) (h2 : B.overrun = true) (h3 : B.notices = true) (h4 : B.auxSet = true) (h5 : B.auxLatch = true) (h6 : B.free = true) :
    mask B (takeAuxConfigure tag body s) = mask B s :=
  takeRequest_mask h1 h2 h3 (auxConfigure_mask body s h4 h5 h6)

theorem takeFaultLevelSet_mask {B : Parts} (tag : Byte) (body : List Byte) (s : State)
    (h1 : B.slot = true) (h2 : B.overrun = true) (h3 : B.notices = true) (h4 : B.levels = true) :
    mask B (takeFaultLevelSet tag body s) = mask B s :=
  takeRequest_mask h1 h2 h3 (faultLevelSet_mask body s h4)

theorem takeFaultAcknowledge_mask {B : Parts} (tag : Byte) (body : List Byte) (s : State)
    (h1 : B.slot = true) (h2 : B.overrun = true) (h3 : B.notices = true) (h4 : B.faults = true) :
    mask B (takeFaultAcknowledge tag body s) = mask B s :=
  takeRequest_mask h1 h2 h3 (faultAcknowledge_mask body s h3 h4)

theorem takeUnitClear_mask {B : Parts} (tag : Byte) (body : List Byte) (s : State)
    (h1 : B.slot = true) (h2 : B.overrun = true) (h3 : B.notices = true) (h4 : B.cell = true) (h5 : B.idle = true) (h6 : B.records = true) (h7 : B.run = true) (h8 : B.router = true) (h9 : B.wear = true) (h10 : B.spindle = true) (h11 : B.probe = true) (h12 : B.picker = true) (h13 : B.nests = true) (h14 : B.stacker = true) (h15 : B.bays = true) (h16 : B.outSpindle = true) (h17 : B.outVacuum = true) (h18 : B.outBlow = true) (h19 : B.outPush = true) (h20 : B.outGate = true) (h21 : B.portRouter = true) (h22 : B.portPicker = true) (h23 : B.portTransfer = true) (h24 : B.portElevator = true) (h25 : B.faults = true) (h26 : B.haltLatches = true) :
    mask B (takeUnitClear tag body s) = mask B s :=
  takeRequest_mask h1 h2 h3 (unitClear_mask body s h3 h4 h5 h6 h7 h8 h9 h10 h11 h12 h13 h14 h15 h16 h17 h18 h19 h20 h21 h22 h23 h24 h25 h26)

theorem takeNoticeEnable_mask {B : Parts} (tag : Byte) (body : List Byte) (s : State)
    (h1 : B.slot = true) (h2 : B.overrun = true) (h3 : B.notices = true) :
    mask B (takeNoticeEnable tag body s) = mask B s :=
  takeRequest_mask h1 h2 h3 (noticeEnable_mask body s h3)

theorem takeNoticeClear_mask {B : Parts} (tag : Byte) (body : List Byte) (s : State)
    (h1 : B.slot = true) (h2 : B.overrun = true) (h3 : B.tx = true) (h4 : B.notices = true) (h5 : B.auxSet = true) (h6 : B.auxLatch = true) :
    mask B (takeNoticeClear tag body s) = mask B s :=
  takeRequest_mask h1 h2 h4 (noticeClear_mask body s h3 h4 h5 h6)

theorem takeCellReset_mask {B : Parts} (tag : Byte) (body : List Byte) (s : State)
    (h1 : B.slot = true) (h2 : B.overrun = true) (h3 : B.tx = true) (h4 : B.notices = true) (h5 : B.cell = true) (h6 : B.idle = true) (h7 : B.records = true) (h8 : B.runOf = true) (h9 : B.run = true) (h10 : B.router = true) (h11 : B.wear = true) (h12 : B.spindle = true) (h13 : B.probe = true) (h14 : B.picker = true) (h15 : B.gripTimes = true) (h16 : B.nests = true) (h17 : B.stacker = true) (h18 : B.bays = true) (h19 : B.ded = true) (h20 : B.auxSet = true) (h21 : B.auxLatch = true) (h22 : B.outSpindle = true) (h23 : B.outVacuum = true) (h24 : B.outBlow = true) (h25 : B.outPush = true) (h26 : B.outGate = true) (h27 : B.portRouter = true) (h28 : B.portPicker = true) (h29 : B.portTransfer = true) (h30 : B.portElevator = true) (h31 : B.faults = true) (h32 : B.haltLatches = true) (h33 : B.free = true) :
    mask B (takeCellReset tag body s) = mask B s :=
  takeRequest_mask h1 h2 h4 (cellResetRequest_mask body s h3 h4 h5 h6 h7 h8 h9 h10 h11 h12 h13 h14 h15 h16 h17 h18 h19 h20 h21 h22 h23 h24 h25 h26 h27 h28 h29 h30 h31 h32 h33)

end Sys2Proof.Machine
end

