-- ==== Sys2Proof/Laws/Still.lean ====
section
/-! SUPPORT. In a state in which no reaction is due, the moment's reactions change nothing but the idle-park timer. -/

namespace Sys2Proof.Machine

theorem auxRole_still {s : State} {n : Fin 4} (h : auxStill s n = true) : auxRole s n = s := by
  unfold auxStill at h
  unfold auxRole auxHold raiseNotice
  cases he : (getAt s.lines.aux n).enable <;> cases hr : (getAt s.lines.aux n).role <;>
    cases hl : (getAt s.lines.aux n).latch <;> simp_all

theorem auxRoles_still {s : State} (h : [(0 : Fin 4), 1, 2, 3].all (auxStill s) = true) : auxRoles s = s := by
  simp only [List.all_cons, List.all_nil, Bool.and_true, Bool.and_eq_true] at h
  obtain ⟨h0, h1, h2, h3⟩ := h
  simp [auxRoles, auxRole_still h0, auxRole_still h1, auxRole_still h2, auxRole_still h3]

theorem removeComplete_still {s : State} (h : s.seq.records.all (fun r => !PanelRec.done r) = true) :
    removeComplete s = s := by
  have e : s.seq.records.filter PanelRec.done = [] := by
    rw [List.filter_eq_nil_iff]; intro r hr; simpa using List.all_eq_true.1 h r hr
  have e' : s.seq.records.filter (fun r => !PanelRec.done r) = s.seq.records :=
    List.filter_eq_self.2 fun r hr => List.all_eq_true.1 h r hr
  unfold removeComplete
  simp [e, e', State.withSeq]

theorem recordTest_still {s : State} (h : recordsStill s = true) : recordTest s = s := by
  simp only [recordsStill, Bool.and_eq_true, Bool.or_eq_true] at h
  obtain ⟨hd, hc⟩ := h
  unfold recordTest
  split
  · next r hr =>
    rw [hr] at hc
    have : noneBeforeQueued s = false := by simpa using hc
    simp [this, removeComplete_still hd]
  · exact removeComplete_still hd

theorem presentStalled_still {s : State} (h : pickerStill s = true) : presentStalled s = s := by
  simp only [pickerStill, Bool.and_eq_true, Bool.not_eq_true'] at h
  simp [presentStalled, h.1]

theorem grant_still {s : State} (h : pickerStill s = true) : grant s = s := by
  simp only [pickerStill, Bool.and_eq_true, Bool.not_eq_true', frontReady] at h
  have h := h.2
  unfold grant
  split
  · next hg =>
    cases hf : front s with
    | none => rfl
    | some b =>
      simp only [hg, hf, Bool.true_and, boardState] at h
      dsimp only
      split
      · next r n d p hr _ _ _ =>
        split
        · next hx => simp [hr, hx] at h
        · rfl
      · rfl
  · rfl

theorem presentHeldCut_still {s : State} (h : routerStill s = true) : presentHeldCut s = s := by
  simp only [routerStill, Bool.and_eq_true, Bool.not_eq_true'] at h
  have h := h.1
  unfold presentHeldCut presentOrHoldCut
  split
  · next op h1 h2 =>
    split
    · next h3 =>
      split
      · next h4 => simp_all
      · rfl
    · rfl
  · rfl

theorem chooseCut_still {s : State} {r : Raiser} (h : routerStill s = true) : chooseCut r s = s := by
  simp only [routerStill, Bool.and_eq_true, Bool.not_eq_true'] at h
  have h := h.2
  unfold chooseCut
  split
  · next hc =>
    split
    · next t ht => simp_all
    · rfl
  · rfl

theorem presentHeldBack_still {s : State} (h : stackerStill s = true) : presentHeldBack s = s := by
  simp only [stackerStill, Bool.and_eq_true, Bool.not_eq_true'] at h
  have h := h.1.1.1.1
  unfold presentHeldBack
  split
  · next hf =>
    simp only [hf, Bool.true_and, Bool.or_eq_false_iff, Option.isSome_eq_false_iff, Option.isNone_iff_eq_none] at h
    simp [h.1, h.2]
  · rfl

theorem resumePush_still {s : State} (h : stackerStill s = true) : resumePush s = s := by
  simp only [stackerStill, Bool.and_eq_true, Bool.not_eq_true'] at h
  have h := h.1.1.1.2
  unfold resumePush
  split
  · next hf =>
    have : s.stacker.recovery = false ∧ s.stacker.heldStroke = false := by simp_all
    simp [this.1, this.2]
  · rfl

theorem retarget_still {s : State} (h : stackerStill s = true) : retarget s = s := by
  simp only [stackerStill, Bool.and_eq_true, Bool.not_eq_true'] at h
  have h := h.1.1.2
  unfold retarget
  split
  · next hf =>
    split
    · next x hx => simp_all
    · rfl
  · rfl

theorem awaitBay_still {s : State} (h : stackerStill s = true) : awaitBay s = s := by
  simp only [stackerStill, Bool.and_eq_true, Bool.not_eq_true'] at h
  have h := h.1.2
  unfold awaitBay
  split
  · next hf =>
    have : s.stacker.state = .waitBay := by simp_all
    simp only [State.withStacker, ← this]
  · rfl

theorem startCycle_still {s : State} (h : stackerStill s = true) : startCycle s = s := by
  simp only [stackerStill, Bool.and_eq_true, Bool.not_eq_true'] at h
  have h := h.2
  unfold startCycle
  split
  · next hf =>
    split
    · rfl
    · next e t he =>
      split
      · next ho => simp_all
      · rfl
  · rfl

@[simp] theorem still_idleTimer (s : State) : still (idleTimer s) = still s := rfl

theorem idleTimer_idleTimer (s : State) : idleTimer (idleTimer s) = idleTimer s := rfl

theorem settlePass_still {s : State} (h : still s = true) : settlePass s = idleTimer s := by
  simp only [still, Bool.and_eq_true, Bool.not_eq_true'] at h
  obtain ⟨⟨⟨⟨⟨h1, h2⟩, h3⟩, h4⟩, h5⟩, h6⟩ := h
  have hb : boundary s = s := by simp [boundary, h4]
  simp [settlePass, recordTest_still h1, auxRoles_still h2, presentStalled_still h5, presentHeldCut_still h3,
    chooseCut_still h3, hb, grant_still h5, presentHeldBack_still h6, resumePush_still h6, retarget_still h6,
    awaitBay_still h6, startCycle_still h6]

theorem settle_still {s : State} (h : still s = true) : settle s = idleTimer s := by
  simp [settle, settlePass_still h, settlePass_still (s := idleTimer s) (by simpa using h), idleTimer_idleTimer]

theorem finish_still {s : State} (h : still s = true) : finish s = rest s := by
  simp [finish, settle_still h, rest]

@[simp] theorem still_withLink (s : State) (x : Link) : still (s.withLink x) = still s := rfl

@[simp] theorem still_withPending (s : State) (x : List Instr) : still (s.withPending x) = still s := rfl

theorem getAt_setAt {α : Type} {n : Nat} (v : Vector α n) (i j : Fin n) (x : α) :
    getAt (setAt v i x) j = if i = j then x else getAt v j := by
  simp only [getAt, setAt, Vector.getElem_set]
  split <;> split <;> simp_all [Fin.ext_iff]

@[simp] theorem getAt_setAt_self {α : Type} {n : Nat} (v : Vector α n) (i : Fin n) (x : α) :
    getAt (setAt v i x) i = x := by simp [getAt_setAt]

/-- Raising more notices leaves no more to do. -/
theorem still_withNotices {s : State} {v : Vector NoticeRec 16} (h : still s = true)
    (hv : ∀ n, (getAt s.notices n).raised = true → (getAt v n).raised = true) : still (s.withNotices v) = true := by
  have ha : ∀ n, auxStill s n = true → auxStill (s.withNotices v) n = true := by
    intro n hn
    have e : (s.withNotices v).lines = s.lines := rfl
    have e2 : holdTakeable (s.withNotices v) = holdTakeable s := rfl
    have e3 : standingHold (s.withNotices v) = standingHold s := rfl
    have e4 : (s.withNotices v).cell = s.cell := rfl
    have e5 : (s.withNotices v).notices = v := rfl
    have := hv (auxNotice n)
    unfold auxStill at hn ⊢
    simp only [e, e2, e3, e4, e5]
    cases he : (getAt s.lines.aux n).enable <;> cases hr : (getAt s.lines.aux n).role <;> simp_all
    all_goals tauto
  simp only [still, Bool.and_eq_true, List.all_eq_true] at h ⊢
  obtain ⟨⟨⟨⟨⟨h1, h2⟩, h3⟩, h4⟩, h5⟩, h6⟩ := h
  exact ⟨⟨⟨⟨⟨h1, fun n hn => ha n (h2 n hn)⟩, h3⟩, h4⟩, h5⟩, h6⟩

theorem still_raiseNotice {s : State} (n : Notice) (p : List Byte) (h : still s = true) :
    still (raiseNotice n p s) = true := by
  unfold raiseNotice
  dsimp only
  split
  · exact h
  · apply still_withNotices h
    intro m hm
    rw [getAt_setAt]
    split <;> simp_all

theorem Filter.accept_eq (v : Bool) (f : Filter) : Filter.accept v f = { level := some v, count := 0, seen := v } := by
  obtain ⟨l, c, n⟩ := f
  match c with
  | 0 => cases l <;> cases v <;> cases n <;> (try rename_i b; cases b) <;> simp [Filter.accept, Filter.sample]
  | 1 => cases l <;> cases v <;> cases n <;> (try rename_i b; cases b) <;> simp [Filter.accept, Filter.sample]
  | c + 2 => cases l <;> cases v <;> cases n <;> (try rename_i b; cases b) <;> simp [Filter.accept, Filter.sample]

end Sys2Proof.Machine
end

