-- ==== Sys2Proof/Laws/Table.lean ====
section
/-! SUPPORT. What reading a table gives after each way of writing it. -/

namespace Sys2Proof.Machine

theorem Table.get_modify {n : Nat} {α : Type} (i : Fin n) (f : α → α) (t : Table n α) (j : Fin n) :
    Table.get (Table.modify i f t) j = if j = i then (Table.get t i).map f else Table.get t j := by
  induction t with
  | nil => simp [Table.modify, Table.get]
  | cons e t ih =>
    obtain ⟨k, x⟩ := e
    unfold Table.modify
    split <;> simp only [Table.get] <;> grind

theorem Table.get_put {n : Nat} {α : Type} (i : Fin n) (x : α) (t : Table n α) (j : Fin n) :
    Table.get (Table.put i x t) j = if j = i then some x else Table.get t j := by
  induction t with
  | nil => simp [Table.put, Table.get, eq_comm]
  | cons e t ih =>
    obtain ⟨k, y⟩ := e
    unfold Table.put
    split
    · simp only [Table.get]; grind
    · split <;> simp only [Table.get] <;> grind

theorem Table.mem_keys_of_get {n : Nat} {α : Type} {t : Table n α} {j : Fin n} {x : α}
    (h : Table.get t j = some x) : j ∈ Table.keys t := by
  induction t with
  | nil => simp [Table.get] at h
  | cons e t ih =>
    obtain ⟨k, y⟩ := e
    simp [Table.keys, Table.get] at *
    grind

@[simp] theorem Table.keys_modify {n : Nat} {α : Type} (i : Fin n) (f : α → α) (t : Table n α) :
    Table.keys (Table.modify i f t) = Table.keys t := by
  induction t with
  | nil => rfl
  | cons e t ih =>
    obtain ⟨k, x⟩ := e
    simp only [Table.keys] at ih ⊢
    unfold Table.modify
    split
    · rfl
    · simp [ih]

/-- A table is in its canonical form exactly where its indices rise strictly. -/
theorem Table.wf_iff {n : Nat} {α : Type} (t : Table n α) :
    Table.wf t = true ↔ (Table.keys t).Pairwise (· < ·) := by
  induction t with
  | nil => simp [Table.wf, Table.keys]
  | cons e t ih =>
    obtain ⟨k, x⟩ := e
    cases t with
    | nil => simp [Table.wf, Table.keys]
    | cons e' t =>
      obtain ⟨k', x'⟩ := e'
      simp only [Table.wf, Bool.and_eq_true, decide_eq_true_eq, ih, Table.keys, List.map_cons, List.pairwise_cons]
      constructor
      · rintro ⟨h, h1, h2⟩
        refine ⟨?_, h1, h2⟩
        intro a ha
        rcases List.mem_cons.mp ha with rfl | ha
        · exact h
        · exact lt_trans h (h1 a ha)
      · rintro ⟨h, h1, h2⟩
        exact ⟨h k' (by simp), h1, h2⟩

/-- Defining an entry keeps the canonical form. -/
theorem Table.wf_put {n : Nat} {α : Type} {i : Fin n} {x : α} {t : Table n α} (h : Table.wf t = true) :
    Table.wf (Table.put i x t) = true := by
  rw [Table.wf_iff] at h ⊢
  have key : ∀ t : Table n α, (Table.keys t).Pairwise (· < ·) →
      (Table.keys (Table.put i x t)).Pairwise (· < ·) ∧ ∀ a ∈ Table.keys (Table.put i x t), a = i ∨ a ∈ Table.keys t := by
    intro t
    induction t with
    | nil => intro _; simp [Table.put, Table.keys]
    | cons e t ih =>
      obtain ⟨k, y⟩ := e
      intro h
      simp only [Table.keys, List.map_cons, List.pairwise_cons] at h ih ⊢
      obtain ⟨ih1, ih2⟩ := ih h.2
      unfold Table.put
      split
      · next e => subst e; simpa using h
      · split
        · next hne hlt =>
          simp only [List.map_cons, List.pairwise_cons]
          refine ⟨⟨?_, h⟩, by simp⟩
          intro a ha
          rcases List.mem_cons.mp ha with rfl | ha
          · exact hlt
          · exact lt_trans hlt (h.1 a ha)
        · next hne hlt =>
          simp only [List.map_cons, List.pairwise_cons]
          refine ⟨⟨?_, ih1⟩, ?_⟩
          · intro a ha
            rcases ih2 a ha with rfl | ha
            · exact lt_of_le_of_ne (not_lt.mp hlt) hne
            · exact h.1 a ha
          · intro a ha
            rcases List.mem_cons.mp ha with rfl | ha
            · simp
            · rcases ih2 a ha with rfl | ha
              · simp
              · simp [ha]
  exact (key t h).1

/-- Changing an entry keeps the canonical form. -/
theorem Table.wf_modify {n : Nat} {α : Type} {i : Fin n} {f : α → α} {t : Table n α} (h : Table.wf t = true) :
    Table.wf (Table.modify i f t) = true := by
  rw [Table.wf_iff] at h ⊢
  simpa using h

end Sys2Proof.Machine
end

