-- ==== Sys2Proof/Laws/Commands.lean ====
section
/-! SUPPORT. Once for all commands: what a request that finds the slot empty does, what an event does, what a line's
acceptance hands over, and one aux role acting alone. -/

namespace Sys2Proof.Machine

/-! ### Requests and events -/

theorem fillSlot_eq (kind tag : Byte) (body reply : List Byte) (s : State) :
    fillSlot kind tag body reply s = replied kind tag body reply s := rfl

@[simp] theorem still_replied (kind tag : Byte) (body reply : List Byte) (s : State) :
    still (replied kind tag body reply s) = still s := rfl

/-- A request that finds the slot empty is answered with what its block makes of it. -/
theorem takeRequest_empty {kind tag : Byte} {ok : Bool} {h : Handler} {body : List Byte} {s : State}
    (hs : s.link.slot = none) :
    takeRequest kind ok h tag body s = replied kind tag body (answerTo ok h body s).2 (answerTo ok h body s).1 := by
  simp [takeRequest, hs, fillSlot_eq]

/-- A request command whose block answers `reply` in state `u`, with no reaction due in `u`. -/
theorem exec_request {i : Instr} {kind tag : Byte} {ok : Bool} {h : Handler} {body reply : List Byte} {s u : State}
    (hi : exec i s = .next (finish (takeRequest kind ok h tag body s))) (hs : s.link.slot = none)
    (e : answerTo ok h body s = (u, reply)) (hu : still u = true) :
    exec i s = .next (rest (replied kind tag body reply u)) := by
  rw [hi, takeRequest_empty hs, e, finish_still (by simpa using hu)]

/-- An event whose operation gives `u`, with no reaction due in `u`. -/
theorem exec_event {i : Instr} {s t u : State} (hi : exec i s = .next (finish t)) (e : t = u) (hu : still u = true) :
    exec i s = .next (rest u) := by
  rw [hi, e, finish_still hu]

/-! ### Acceptances -/

theorem setDed_accept (l : Fin 16) (v : Bool) (s : State) :
    setDed l (DedLine.accept v (getAt s.lines.ded l)) s = accepted l v s := by
  simp [setDed, DedLine.accept, accepted, Filter.accept_eq]

/-- An acceptance of the asserted level on a deasserted line: the change, and then the edge. -/
theorem acceptLine_low {l : Fin 16} {s : State} (h : low s l) :
    acceptLine l true s = edge l (levelChange l true (accepted l true s)) := by
  unfold low at h
  simp [acceptLine, setDed_accept, h, handOver]

/-- An acceptance of the deasserted level on an asserted line. -/
theorem acceptLine_high {l : Fin 16} {s : State} (h : (getAt s.lines.ded l).filter.level = some true) :
    acceptLine l false s = levelChange l false (accepted l false s) := by
  simp [acceptLine, setDed_accept, h, handOver]

/-- An acceptance of the deasserted level on a line whose consumers use edges alone. -/
theorem acceptLine_false {l : Fin 16} (h : l.val ≤ 3 ∨ l.val = 14) (s : State) :
    acceptLine l false s = accepted l false s := by
  have h15 : l.val ≠ 15 := by omega
  have hc (u : State) : levelChange l false u = u := by
    unfold levelChange
    split <;> first | rfl | omega
  simp only [acceptLine, setDed_accept, handOver, hc, Bool.false_and, Bool.false_eq_true, if_false, Bool.false_or]
  split <;> simp

/-- An edge on such a line: its consumers alone act. -/
theorem acceptEdge_eq {l : Fin 16} (h : l.val ≤ 3 ∨ l.val = 14) (s : State) :
    acceptEdge l s = edge l (accepted l true s) := by
  have hc (u : State) : levelChange l true u = u := by
    unfold levelChange
    split <;> first | rfl | omega
  have hl : low (accepted l false s) l := by simp [low, accepted]
  have hs (v : Vector DedLine 16) (x y : DedLine) : setAt (setAt v l x) l y = setAt v l y := by
    unfold setAt; simp
  rw [acceptEdge, acceptLine_false h, acceptLine_low hl, hc]
  simp [accepted, throughSense, hs, State.withLines]

@[simp] theorem accepted_link (l : Fin 16) (v : Bool) (s : State) : (accepted l v s).link = s.link := rfl
@[simp] theorem accepted_notices (l : Fin 16) (v : Bool) (s : State) : (accepted l v s).notices = s.notices := rfl
@[simp] theorem accepted_recipe (l : Fin 16) (v : Bool) (s : State) : (accepted l v s).recipe = s.recipe := rfl
@[simp] theorem accepted_cell (l : Fin 16) (v : Bool) (s : State) : (accepted l v s).cell = s.cell := rfl
@[simp] theorem accepted_seq (l : Fin 16) (v : Bool) (s : State) : (accepted l v s).seq = s.seq := rfl
@[simp] theorem accepted_router (l : Fin 16) (v : Bool) (s : State) : (accepted l v s).router = s.router := rfl
@[simp] theorem accepted_spindle (l : Fin 16) (v : Bool) (s : State) : (accepted l v s).spindle = s.spindle := rfl
@[simp] theorem accepted_probe (l : Fin 16) (v : Bool) (s : State) : (accepted l v s).probe = s.probe := rfl
@[simp] theorem accepted_picker (l : Fin 16) (v : Bool) (s : State) : (accepted l v s).picker = s.picker := rfl
@[simp] theorem accepted_nests (l : Fin 16) (v : Bool) (s : State) : (accepted l v s).nests = s.nests := rfl
@[simp] theorem accepted_stacker (l : Fin 16) (v : Bool) (s : State) : (accepted l v s).stacker = s.stacker := rfl
@[simp] theorem accepted_bays (l : Fin 16) (v : Bool) (s : State) : (accepted l v s).bays = s.bays := rfl
@[simp] theorem accepted_outputs (l : Fin 16) (v : Bool) (s : State) : (accepted l v s).outputs = s.outputs := rfl
@[simp] theorem accepted_ports (l : Fin 16) (v : Bool) (s : State) : (accepted l v s).ports = s.ports := rfl
@[simp] theorem accepted_faults (l : Fin 16) (v : Bool) (s : State) : (accepted l v s).faults = s.faults := rfl

theorem asserted_iff (s : State) (m : Fin 16) :
    asserted s m = true ↔ (getAt s.lines.ded m).filter.level = some true := by
  simp [asserted]

theorem not_asserted_iff (s : State) (m : Fin 16) :
    asserted s m = false ↔ (getAt s.lines.ded m).filter.level ≠ some true := by
  rw [ne_eq, ← asserted_iff]; simp

theorem asserted_accepted {l m : Fin 16} (h : l ≠ m) (v : Bool) (s : State) :
    asserted (accepted l v s) m = asserted s m := by
  simp [asserted, accepted, State.withLines, getAt_setAt, h]

theorem flying_of {p : Port} {o : Order} (h1 : p.inFlight = true) (h2 : p.record = some o) : Port.flying p = some o := by
  simp [Port.flying, h1, h2]

/-! ### One aux role acting alone -/

theorem getAt_setAux (n m : Fin 4) (a : AuxLine) (s : State) :
    getAt (setAux n a s).lines.aux m = if n = m then a else getAt s.lines.aux m := by
  simp [setAux, State.withLines, getAt_setAt]

theorem auxStill_of_still {s : State} (h : still s = true) (m : Fin 4) : auxStill s m = true := by
  simp only [still, Bool.and_eq_true] at h
  have h2 := h.1.1.1.1.2
  simp only [List.all_cons, List.all_nil, Bool.and_true, Bool.and_eq_true] at h2
  match m with
  | 0 => exact h2.1
  | 1 => exact h2.2.1
  | 2 => exact h2.2.2.1
  | 3 => exact h2.2.2.2

/-- The roles of the other lines have nothing to do before line `n` acts, and none has after it. -/
theorem auxRoles_one {n : Fin 4} {s u : State} (hn : auxRole s n = u) (hb : ∀ m, m ≠ n → auxStill s m = true)
    (ha : ∀ m, auxStill u m = true) : auxRoles s = u := by
  have b : ∀ m, m ≠ n → auxRole s m = s := fun m h => auxRole_still (hb m h)
  have a : ∀ m, auxRole u m = u := fun m => auxRole_still (ha m)
  unfold auxRoles
  simp only [List.foldl]
  match n, hn, b with
  | 0, hn, b => simp [hn, a]
  | 1, hn, b => simp [b 0, hn, a]
  | 2, hn, b => simp [b 0, b 1, hn, a]
  | 3, hn, b => simp [b 0, b 1, b 2, hn]

/-- The moment in which the one reaction due is the role of line `n`. -/
theorem finish_auxRole {n : Fin 4} {s u : State} (h0 : recordsStill s = true) (hn : auxRole s n = u)
    (hb : ∀ m, m ≠ n → auxStill s m = true) (hu : still u = true) : finish s = rest u := by
  have ha := auxStill_of_still hu
  have hu' := hu
  simp only [still, Bool.and_eq_true, Bool.not_eq_true'] at hu
  obtain ⟨⟨⟨⟨⟨-, -⟩, h3⟩, h4⟩, h5⟩, h6⟩ := hu
  have hb' : boundary u = u := by simp [boundary, h4]
  have e : settlePass s = idleTimer u := by
    simp [settlePass, recordTest_still h0, auxRoles_one hn hb ha, presentStalled_still h5, presentHeldCut_still h3,
      chooseCut_still h3, hb', grant_still h5, presentHeldBack_still h6, resumePush_still h6, retarget_still h6,
      awaitBay_still h6, startCycle_still h6]
  unfold finish settle
  rw [e, settlePass_still (by simpa using hu'), idleTimer_idleTimer]
  rfl

/-! ### Boards and tabs -/

theorem boardRun_modBoard (b : Fin 64) (f : BoardRun → BoardRun) (s : State) (c : Fin 64) :
    boardRun (modBoard b f s) c = if c = b then (boardRun s b).map f else boardRun s c := by
  simp [boardRun, modBoard, State.withSeq, Table.get_modify]

theorem tabRun_modTab (t : Fin 256) (f : TabRun → TabRun) (s : State) (u : Fin 256) :
    tabRun (modTab t f s) u = if u = t then (tabRun s t).map f else tabRun s u := by
  simp [tabRun, modTab, State.withSeq, Table.get_modify]

end Sys2Proof.Machine
end

