-- ==== Sys2Proof/Laws/Kept.lean ====
section
/-! SUPPORT. What every command keeps: a property of the fault sets, the cell mode, the spindle, the nest queue, the bays and the
Panel Records that a few primitive moves keep is kept by every step. -/

namespace Sys2Proof.Machine

/-- The part of the state the primitive moves are about. -/
structure View where
  faults : Faults
  mode : Mode
  spindle : SpindleState
  setpoint : Nat
  run : Bool
  ref : Nat
  nests : List NestEntry
  bayA : BayState
  bayB : BayState
  serials : List Serial

/-- What a state shows of it. -/
def view (s : State) : View :=
  { faults := s.faults, mode := s.cell.mode, spindle := s.spindle.state, setpoint := s.spindle.setpoint
    run := s.outputs.spindleRun, ref := s.outputs.speedRef, nests := s.nests, bayA := s.bays.a.state
    bayB := s.bays.b.state, serials := s.seq.records.map (·.serial) }

/-- The parts outside the view. -/
def quietParts : Parts :=
  { rx := true, slot := true, overrun := true, tx := true, notices := true, recipe := true, idle := true, runOf := true
    run := true, router := true, wear := true, bitLife := true, override := true, timing := true, tach := true
    settings := true, probe := true, picker := true, gripTimes := true, stacker := true, ded := true, stop := true
    auxSet := true, auxLatch := true, outVacuum := true, outBlow := true, outPush := true, outGate := true
    portRouter := true, portPicker := true, portTransfer := true, portElevator := true, free := true, pending := true }

theorem view_of_mask {s t : State} (h : mask quietParts t = mask quietParts s) : view t = view s := by
  have hf : t.faults = s.faults := by
    have h1 := mask_faults_levels h rfl
    have h2 := mask_faults_waiting h rfl
    have h3 := mask_faults_stack h rfl
    have h4 := mask_faults_allStop h rfl
    have h5 := mask_faults_cutStop h rfl
    revert h1 h2 h3 h4 h5
    cases t.faults; cases s.faults
    rintro rfl rfl rfl rfl rfl
    rfl
  simp only [view, hf, mask_cell_mode h rfl, mask_spindle_state h rfl, mask_spindle_setpoint h rfl,
    mask_outputs_spindleRun h rfl, mask_outputs_speedRef h rfl, mask_nests h rfl, mask_bays h rfl, mask_seq_records h rfl]

/-- A property that reads the view alone, and that a raise and the removal of nest entries keep. -/
structure Kept (P : State → Prop) (r : Raiser) : Prop where
  quiet : ∀ {s t : State}, view t = view s → P s → P t
  raised : ∀ {src : Source} {d : Detail} {s : State}, P s → P (r src d s)
  fewer : ∀ {p : NestEntry → Bool} {s : State}, P s → P (s.withNests (s.nests.filter p))

/-- A property that every primitive move of the commands keeps as well. -/
structure Moves (P : State → Prop) : Prop extends Kept P raise where
  entered : ∀ (m : Mode) {s : State}, P s → P (enterMode m s)
  parked : ∀ {s : State} {c : Cell}, c.mode = .parked → P s → P (s.withCell c)
  unconfigured : ∀ {s : State} {c : Cell}, c.mode = .unconfigured → P s → P (s.withCell c)
  stopped : ∀ {s : State}, P s → P (stopSpindle s)
  started : ∀ {s : State}, s.cell.mode = .idle → P s → P (startSpindle s)
  woken : ∀ {s : State}, s.cell.mode = .parked → P s → P (startWake s)
  resumed : ∀ {s : State}, P s → P (resumeHalted s)
  qualified : ∀ {s : State} {p : Spindle}, s.spindle.state = .spinup → p.state = .atSpeed →
    p.setpoint = s.spindle.setpoint → P s → P (s.withSpindle p)
  coasted : ∀ {s : State} {p : Spindle}, s.spindle.state = .coasting → p.state = .stopped →
    p.setpoint = s.spindle.setpoint → P s → P (s.withSpindle p)
  respun : ∀ {s : State}, s.spindle.state = .atSpeed → P s → P (enterSpinup 500 s)
  speed : ∀ {body : List Byte} {s : State}, P s → P (spindleSpeed body s).1
  placed : ∀ {n : Fin 3} {s : State}, P s → P (s.withNests (s.nests.map fun e =>
    if e.nest = n && e.state = .reserved then { e with state := .occupied } else e))
  granted : ∀ {e : NestEntry} {s : State}, canReserve s = true → freeNest s = some e.nest → P s →
    P (s.withNests (s.nests ++ [e]))
  bayDone : ∀ {x : Bay} {b : BayRec} {s : State}, b.state ≠ .active → P s → P (setBay x b s)
  bayTaken : ∀ {x : Bay} {s : State}, bayChoice s = some x → P s →
    P (setBay x { bayOf s x with state := .active } s)
  recordsFewer : ∀ {p : PanelRec → Bool} {q : Sequencer} {s : State}, q.records = s.seq.records.filter p → P s →
    P (s.withSeq q)
  recordAdded : ∀ {q : Sequencer} {x : PanelRec} {s : State}, q.records = s.seq.records ++ [x] →
    s.seq.records.length < 2 → (∀ y ∈ s.seq.records, y.serial ≠ x.serial) → P s → P (s.withSeq q)
  acknowledged : ∀ {top : FaultRec} {below : List FaultRec} {s : State}, s.faults.stack = top :: below → P s →
    P (takeRule (s.withFaults { s.faults with stack := below }))
  levelled : ∀ {src : Source} {v : Nat} {s : State}, v ≤ 7 → P s →
    P (s.withFaults { s.faults with levels := setAt s.faults.levels src v })
  pruned : ∀ {p : FaultRec → Bool} {s : State}, P s →
    P (s.withFaults { s.faults with waiting := s.faults.waiting.filter p })
  cleared : ∀ {s : State}, P s → P (resetCell (resetUnits s))
  fresh : P State.reset

section
variable {P : State → Prop} {r : Raiser}

theorem Kept.masked (h : Kept P r) {s t : State} (e : mask quietParts t = mask quietParts s) (hs : P s) : P t :=
  h.quiet (view_of_mask e) hs

theorem Kept.noRaise (h : Kept P r) : Kept P noRaise := { quiet := h.quiet, raised := id, fewer := h.fewer }

theorem foldl_keeps {α : Type} {f : State → α → State} {l : List α} {s : State} (h : ∀ s a, P s → P (f s a))
    (hs : P s) : P (l.foldl f s) := by
  induction l generalizing s with
  | nil => exact hs
  | cons a t ih => exact ih (h s a hs)

theorem withLink_keeps (h : Kept P r) {s : State} {x : Link} (hs : P s) : P (s.withLink x) :=
  h.quiet (s := s) (t := s.withLink x) rfl hs
theorem withNotices_keeps (h : Kept P r) {s : State} {x : Vector NoticeRec 16} (hs : P s) : P (s.withNotices x) :=
  h.quiet (s := s) (t := s.withNotices x) rfl hs
theorem withRecipe_keeps (h : Kept P r) {s : State} {x : Recipe} (hs : P s) : P (s.withRecipe x) :=
  h.quiet (s := s) (t := s.withRecipe x) rfl hs
theorem withRouter_keeps (h : Kept P r) {s : State} {x : Router} (hs : P s) : P (s.withRouter x) :=
  h.quiet (s := s) (t := s.withRouter x) rfl hs
theorem withProbe_keeps (h : Kept P r) {s : State} {x : Probe} (hs : P s) : P (s.withProbe x) :=
  h.quiet (s := s) (t := s.withProbe x) rfl hs
theorem withPicker_keeps (h : Kept P r) {s : State} {x : Picker} (hs : P s) : P (s.withPicker x) :=
  h.quiet (s := s) (t := s.withPicker x) rfl hs
theorem withStacker_keeps (h : Kept P r) {s : State} {x : Stacker} (hs : P s) : P (s.withStacker x) :=
  h.quiet (s := s) (t := s.withStacker x) rfl hs
theorem withLines_keeps (h : Kept P r) {s : State} {x : Lines} (hs : P s) : P (s.withLines x) :=
  h.quiet (s := s) (t := s.withLines x) rfl hs
theorem withPorts_keeps (h : Kept P r) {s : State} {x : Ports} (hs : P s) : P (s.withPorts x) :=
  h.quiet (s := s) (t := s.withPorts x) rfl hs
theorem withFree_keeps (h : Kept P r) {s : State} {x : Nat} (hs : P s) : P (s.withFree x) :=
  h.quiet (s := s) (t := s.withFree x) rfl hs
theorem withPending_keeps (h : Kept P r) {s : State} {x : List Instr} (hs : P s) : P (s.withPending x) :=
  h.quiet (s := s) (t := s.withPending x) rfl hs

theorem withCell_keeps (h : Kept P r) {s : State} {c : Cell} (e : c.mode = s.cell.mode) (hs : P s) :
    P (s.withCell c) :=
  h.quiet (by simp [view, e]) hs

theorem withSeq_keeps (h : Kept P r) {s : State} {q : Sequencer} (e : q.records = s.seq.records) (hs : P s) :
    P (s.withSeq q) :=
  h.quiet (by simp [view, e]) hs

theorem withSpindle_keeps (h : Kept P r) {s : State} {p : Spindle}
    (e : (p.state, p.setpoint) = (s.spindle.state, s.spindle.setpoint)) (hs : P s) : P (s.withSpindle p) := by
  simp only [Prod.mk.injEq] at e
  exact h.quiet (by simp [view, e.1, e.2]) hs

theorem withOutputs_keeps (h : Kept P r) {s : State} {o : Outputs}
    (e : (o.spindleRun, o.speedRef) = (s.outputs.spindleRun, s.outputs.speedRef)) (hs : P s) :
    P (s.withOutputs o) := by
  simp only [Prod.mk.injEq] at e
  exact h.quiet (by simp [view, e.1, e.2]) hs

theorem setBay_same (h : Kept P r) {x : Bay} {b : BayRec} {s : State} (e : b.state = (bayOf s x).state) (hs : P s) :
    P (setBay x b s) := by
  refine h.quiet ?_ hs
  cases x <;> simp_all [view, setBay, bayOf]

theorem setBay_done (h : Moves P) {x : Bay} {b : BayRec} {s : State} (e : b.state ≠ .active) (hs : P s) :
    P (setBay x b s) := h.bayDone e hs

theorem modRecords_keeps (h : Kept P r) {p : PanelRec → Bool} {f : PanelRec → PanelRec} {s : State}
    (e : ∀ q, (f q).serial = q.serial) (hs : P s) : P (modRecords p f s) := by
  refine h.quiet ?_ hs
  have : (fun q : PanelRec => (if p q = true then f q else q).serial) = (·.serial) := by
    funext q; split
    · exact e q
    · rfl
  simp [view, modRecords, Function.comp_def, this]

theorem tallyCutting_keeps (h : Kept P r) {f : PanelRec → PanelRec} {s : State} (e : ∀ q, (f q).serial = q.serial)
    (hs : P s) : P (tallyCutting f s) := modRecords_keeps h e hs

theorem tallySerial_keeps (h : Kept P r) {n : Serial} {f : PanelRec → PanelRec} {s : State}
    (e : ∀ q, (f q).serial = q.serial) (hs : P s) : P (tallySerial n f s) := modRecords_keeps h e hs

end

theorem raiseNotice_keeps {P : State → Prop} {rz : Raiser} {n : Notice} {payload : List Byte} {s : State} (hk : Kept P rz) (hs : P s) :
    P (raiseNotice n payload s) :=
  hk.masked (by simp [quietParts]) hs

theorem clearNotice_keeps {P : State → Prop} {rz : Raiser} {n : Notice} {s : State} (hk : Kept P rz) (hs : P s) :
    P (clearNotice n s) :=
  hk.masked (by simp [quietParts]) hs

theorem orphanOperation_keeps {P : State → Prop} {rz : Raiser} {s : State} (hk : Kept P rz) (hs : P s) :
    P (orphanOperation s) :=
  hk.masked (by simp [quietParts]) hs

theorem modBoard_keeps {P : State → Prop} {rz : Raiser} {b : Fin 64} {f : BoardRun → BoardRun} {s : State} (hk : Kept P rz) (hs : P s) :
    P (modBoard b f s) :=
  hk.masked (by simp [quietParts]) hs

theorem modTab_keeps {P : State → Prop} {rz : Raiser} {t : Fin 256} {f : TabRun → TabRun} {s : State} (hk : Kept P rz) (hs : P s) :
    P (modTab t f s) :=
  hk.masked (by simp [quietParts]) hs

theorem setTab_keeps {P : State → Prop} {rz : Raiser} {t : Fin 256} {st : TabState} {s : State} (hk : Kept P rz) (hs : P s) :
    P (setTab t st s) :=
  hk.masked (by simp [quietParts]) hs

theorem setBoard_keeps {P : State → Prop} {rz : Raiser} {b : Fin 64} {st : BoardState} {s : State} (hk : Kept P rz) (hs : P s) :
    P (setBoard b st s) :=
  hk.masked (by simp [quietParts]) hs

theorem clearBoardNest_keeps {P : State → Prop} {rz : Raiser} {serial : Serial} {b : Fin 64} {s : State} (hk : Kept P rz) (hs : P s) :
    P (clearBoardNest serial b s) :=
  hk.masked (by simp [quietParts]) hs

theorem releaseReservation_keeps {P : State → Prop} {rz : Raiser} {b : Fin 64} {s : State} (hk : Kept P rz) (hs : P s) :
    P (releaseReservation b s) := by
  unfold releaseReservation
  dsimp only
  repeat' first
    | with_reducible exact hs
    | exact rfl
    | exact fun _ => rfl
    | with_reducible apply modBoard_keeps hk
    | with_reducible apply hk.fewer

theorem boardFailed_keeps {P : State → Prop} {rz : Raiser} {b : Fin 64} {s : State} (hk : Kept P rz) (hs : P s) :
    P (boardFailed b s) := by
  unfold boardFailed
  try dsimp only
  repeat' first
    | with_reducible exact hs
    | exact rfl
    | exact fun _ => rfl
    | with_reducible apply setBoard_keeps hk
    | with_reducible refine tallyCutting_keeps hk ?_ ?_

theorem boardAbandoned_keeps {P : State → Prop} {rz : Raiser} {b : Fin 64} {s : State} (hk : Kept P rz) (hs : P s) :
    P (boardAbandoned b s) := by
  unfold boardAbandoned
  try dsimp only
  repeat' first
    | with_reducible exact hs
    | exact rfl
    | exact fun _ => rfl
    | with_reducible apply setBoard_keeps hk
    | with_reducible refine tallyCutting_keeps hk ?_ ?_

theorem boardLostEarly_keeps {P : State → Prop} {rz : Raiser} {b : Fin 64} {s : State} (hk : Kept P rz) (hs : P s) :
    P (boardLostEarly b s) := by
  unfold boardLostEarly
  try dsimp only
  repeat' first
    | with_reducible exact hs
    | exact rfl
    | exact fun _ => rfl
    | with_reducible apply setBoard_keeps hk
    | with_reducible refine tallyCutting_keeps hk ?_ ?_
    | with_reducible apply releaseReservation_keeps hk

theorem bypassTab_keeps {P : State → Prop} {rz : Raiser} {s : State} {t : Fin 256} (hk : Kept P rz) (hs : P s) :
    P (bypassTab s t) :=
  hk.masked (by simp [quietParts]) hs

theorem bypassTabs_keeps {P : State → Prop} {rz : Raiser} {b : Fin 64} {s : State} (hk : Kept P rz) (hs : P s) :
    P (bypassTabs b s) :=
  hk.masked (by simp [quietParts]) hs

theorem reportOutcome_keeps {P : State → Prop} {rz : Raiser} {serial : Serial} {b : Fin 64} {tally : PanelRec → PanelRec} {f : BoardRun → BoardRun} {s : State} (hk : Kept P rz) (e : ∀ q, (tally q).serial = q.serial) (hs : P s) :
    P (reportOutcome serial b tally f s) := by
  unfold reportOutcome
  dsimp only
  split
  · exact modBoard_keeps hk (tallySerial_keeps hk (fun _ => e _) hs)
  · exact tallySerial_keeps hk (fun _ => e _) hs

theorem reportLost_keeps {P : State → Prop} {rz : Raiser} {serial : Serial} {b : Fin 64} {s : State} (hk : Kept P rz) (hs : P s) :
    P (reportLost serial b s) := by
  unfold reportLost
  try dsimp only
  repeat' first
    | with_reducible exact hs
    | exact rfl
    | exact fun _ => rfl
    | with_reducible refine reportOutcome_keeps hk ?_ ?_

theorem reportChuted_keeps {P : State → Prop} {rz : Raiser} {serial : Serial} {b : Fin 64} {s : State} (hk : Kept P rz) (hs : P s) :
    P (reportChuted serial b s) := by
  unfold reportChuted
  try dsimp only
  repeat' first
    | with_reducible exact hs
    | exact rfl
    | exact fun _ => rfl
    | with_reducible refine reportOutcome_keeps hk ?_ ?_

theorem reportStacked_keeps {P : State → Prop} {rz : Raiser} {serial : Serial} {b : Fin 64} {x : Bay} {slot : Nat} {s : State} (hk : Kept P rz) (hs : P s) :
    P (reportStacked serial b x slot s) := by
  unfold reportStacked
  try dsimp only
  repeat' first
    | with_reducible exact hs
    | exact rfl
    | exact fun _ => rfl
    | with_reducible refine reportOutcome_keeps hk ?_ ?_

theorem removeComplete_keeps {P : State → Prop} {s : State} (hk : Moves P) (hs : P s) :
    P (removeComplete s) := by
  unfold removeComplete
  exact hk.recordsFewer rfl (foldl_keeps (fun _ _ hs => raiseNotice_keeps hk.toKept hs) hs)

theorem leaveCuttingMode_keeps {P : State → Prop} {s : State} (hk : Moves P) (hs : P s) :
    P (leaveCuttingMode s) := by
  unfold leaveCuttingMode
  try dsimp only
  repeat' first
    | with_reducible exact hs
    | exact rfl
    | exact fun _ => rfl
    | with_reducible apply hk.entered _
    | with_reducible refine withCell_keeps hk.toKept ?_ ?_
    | split

theorem recordTest_keeps {P : State → Prop} {s : State} (hk : Moves P) (hs : P s) :
    P (recordTest s) := by
  unfold recordTest
  dsimp only
  repeat' first
    | with_reducible exact hs
    | exact rfl
    | exact fun _ => rfl
    | with_reducible apply raiseNotice_keeps hk.toKept
    | with_reducible refine modRecords_keeps hk.toKept ?_ ?_
    | with_reducible apply removeComplete_keeps hk
    | with_reducible apply leaveCuttingMode_keeps hk
    | split

theorem addWear_keeps {P : State → Prop} {raise : Raiser} {dw : Nat} {s : State} (hk : Kept P raise) (hs : P s) :
    P (addWear raise dw s) := by
  unfold addWear
  dsimp only
  repeat' first
    | with_reducible exact hs
    | exact rfl
    | exact fun _ => rfl
    | with_reducible apply raiseNotice_keeps hk
    | with_reducible apply hk.raised
    | with_reducible apply withRouter_keeps hk
    | split

theorem presentMove_keeps {P : State → Prop} {rz : Raiser} {s : State} (hk : Kept P rz) (hs : P s) :
    P (presentMove s) :=
  hk.masked (by simp [quietParts]) hs

theorem dueMove_keeps {P : State → Prop} {rz : Raiser} {s : State} (hk : Kept P rz) (hs : P s) :
    P (dueMove s) :=
  hk.masked (by simp [quietParts]) hs

theorem enterReturning_keeps {P : State → Prop} {rz : Raiser} {s : State} (hk : Kept P rz) (hs : P s) :
    P (enterReturning s) :=
  hk.masked (by simp [quietParts]) hs

theorem setVacuum_keeps {P : State → Prop} {rz : Raiser} {on : Bool} {s : State} (hk : Kept P rz) (hs : P s) :
    P (setVacuum on s) :=
  hk.masked (by simp [quietParts]) hs

theorem letGo_keeps {P : State → Prop} {rz : Raiser} {b : Fin 64} {s : State} (hk : Kept P rz) (hs : P s) :
    P (letGo b s) := by
  unfold letGo
  dsimp only
  repeat' first
    | with_reducible exact hs
    | exact rfl
    | exact fun _ => rfl
    | with_reducible apply releaseReservation_keeps hk
    | with_reducible apply enterReturning_keeps hk
    | with_reducible apply setVacuum_keeps hk
    | with_reducible apply withPicker_keeps hk
    | split

theorem completeBay_keeps {P : State → Prop} {x : Bay} {s : State} (hk : Moves P) (hs : P s) :
    P (completeBay x s) := by
  unfold completeBay
  dsimp only
  repeat' first
    | with_reducible exact hs
    | exact rfl
    | exact fun _ => rfl
    | with_reducible apply raiseNotice_keeps hk.toKept
    | (with_reducible refine setBay_done hk ?_ ?_; exact (by simp))

theorem setSlot_keeps {P : State → Prop} {x : Bay} {slot : Nat} {v : SlotState} {s : State} (hk : Moves P) (hs : P s) :
    P (setSlot x slot v s) := by
  unfold setSlot
  dsimp only
  repeat' first
    | with_reducible exact hs
    | exact rfl
    | exact fun _ => rfl
    | (with_reducible refine setBay_same hk.toKept ?_ ?_; exact rfl)

theorem advance_keeps {P : State → Prop} {x : Bay} {s : State} (hk : Moves P) (hs : P s) :
    P (advance x s) := by
  unfold advance
  dsimp only
  repeat' first
    | with_reducible exact hs
    | exact rfl
    | exact fun _ => rfl
    | (with_reducible refine setBay_same hk.toKept ?_ ?_; exact rfl)
    | with_reducible apply completeBay_keeps hk
    | split

theorem presentRouter_keeps {P : State → Prop} {rz : Raiser} {o : Order} {s : State} (hk : Kept P rz) (hs : P s) :
    P (presentRouter o s) :=
  hk.masked (by simp [quietParts]) hs

theorem stopRouterPort_keeps {P : State → Prop} {rz : Raiser} {s : State} (hk : Kept P rz) (hs : P s) :
    P (stopRouterPort s) :=
  hk.masked (by simp [quietParts]) hs

theorem presentMoveClear_keeps {P : State → Prop} {rz : Raiser} {s : State} (hk : Kept P rz) (hs : P s) :
    P (presentMoveClear s) :=
  hk.masked (by simp [quietParts]) hs

theorem presentCut_keeps {P : State → Prop} {rz : Raiser} {op : Operation} {s : State} (hk : Kept P rz) (hs : P s) :
    P (presentCut op s) :=
  hk.masked (by simp [quietParts]) hs

theorem presentOrHoldCut_keeps {P : State → Prop} {rz : Raiser} {op : Operation} {s : State} (hk : Kept P rz) (hs : P s) :
    P (presentOrHoldCut op s) :=
  hk.masked (by simp [quietParts]) hs

theorem startCut_keeps {P : State → Prop} {rz : Raiser} {op : Operation} {s : State} (hk : Kept P rz) (hs : P s) :
    P (startCut op s) :=
  hk.masked (by simp [quietParts]) hs

theorem verifySetup_keeps {P : State → Prop} {rz : Raiser} {op : Operation} {s : State} (hk : Kept P rz) (hs : P s) :
    P (verifySetup op s) :=
  hk.masked (by simp [quietParts]) hs

theorem presentProbeMove_keeps {P : State → Prop} {rz : Raiser} {w : Verify} {s : State} (hk : Kept P rz) (hs : P s) :
    P (presentProbeMove w s) :=
  hk.masked (by simp [quietParts]) hs

theorem dropRouter_keeps {P : State → Prop} {rz : Raiser} {s : State} (hk : Kept P rz) (hs : P s) :
    P (dropRouter s) :=
  hk.masked (by simp [quietParts]) hs

theorem giveUp_keeps {P : State → Prop} {raise : Raiser} {t : Fin 256} {s : State} (hk : Kept P raise) (hs : P s) :
    P (giveUp raise t s) := by
  unfold giveUp
  dsimp only
  repeat' first
    | with_reducible exact hs
    | exact rfl
    | exact fun _ => rfl
    | with_reducible apply setTab_keeps hk
    | (with_reducible apply foldl_keeps (fun _ _ hs => boardFailed_keeps hk hs))
    | with_reducible apply boardFailed_keeps hk
    | (with_reducible apply foldl_keeps (fun _ _ hs => bypassTabs_keeps hk hs))
    | with_reducible apply bypassTabs_keeps hk
    | (with_reducible apply foldl_keeps (fun _ _ hs => letGo_keeps hk hs))
    | with_reducible apply letGo_keeps hk
    | with_reducible apply hk.raised
    | split

theorem endHeldUnderStop_keeps {P : State → Prop} {rz : Raiser} {op : Operation} {s : State} (hk : Kept P rz) (hs : P s) :
    P (endHeldUnderStop op s) := by
  unfold endHeldUnderStop
  try dsimp only
  repeat' first
    | with_reducible exact hs
    | exact rfl
    | exact fun _ => rfl
    | with_reducible apply setTab_keeps hk
    | with_reducible apply boardAbandoned_keeps hk
    | with_reducible apply bypassTabs_keeps hk
    | with_reducible apply letGo_keeps hk

theorem tabInterrupted_keeps {P : State → Prop} {raise : Raiser} {cut : Bool} {op : Operation} {s : State} (hk : Kept P raise) (hs : P s) :
    P (tabInterrupted raise cut op s) := by
  unfold tabInterrupted
  try dsimp only
  repeat' first
    | with_reducible exact hs
    | exact rfl
    | exact fun _ => rfl
    | with_reducible apply setTab_keeps hk
    | with_reducible apply giveUp_keeps hk
    | with_reducible apply endHeldUnderStop_keeps hk
    | with_reducible apply hk.raised
    | split

theorem interruptRouter_keeps {P : State → Prop} {raise : Raiser} {timeout : Bool} {s : State} (hk : Kept P raise) (hs : P s) :
    P (interruptRouter raise timeout s) := by
  unfold interruptRouter
  dsimp only
  repeat' first
    | with_reducible exact hs
    | exact rfl
    | exact fun _ => rfl
    | with_reducible apply addWear_keeps hk
    | with_reducible apply dropRouter_keeps hk
    | with_reducible apply tabInterrupted_keeps hk
    | with_reducible apply hk.raised
    | split

theorem lowerCounts_keeps {P : State → Prop} {rz : Raiser} {d : TabDef} {s : State} (hk : Kept P rz) (hs : P s) :
    P (lowerCounts d s) :=
  hk.masked (by simp [quietParts]) hs

theorem freeBoard_keeps {P : State → Prop} {rz : Raiser} {b : Fin 64} {s : State} (hk : Kept P rz) (hs : P s) :
    P (freeBoard b s) :=
  hk.masked (by simp [quietParts]) hs

theorem handleVerdict_keeps {P : State → Prop} {raise : Raiser} {op : Operation} {v : Verdict} {s : State} (hk : Kept P raise) (hs : P s) :
    P (handleVerdict raise op v s) := by
  unfold handleVerdict
  dsimp only
  repeat' first
    | with_reducible exact hs
    | exact rfl
    | exact fun _ => rfl
    | with_reducible apply setTab_keeps hk
    | with_reducible apply giveUp_keeps hk
    | with_reducible apply endHeldUnderStop_keeps hk
    | with_reducible apply lowerCounts_keeps hk
    | with_reducible apply freeBoard_keeps hk
    | with_reducible apply hk.raised
    | split

theorem giveVerdict_keeps {P : State → Prop} {raise : Raiser} {w : Verify} {ne hits misses : Nat} {v : Verdict} {s : State} (hk : Kept P raise) (hs : P s) :
    P (giveVerdict raise w ne hits misses v s) := by
  unfold giveVerdict
  dsimp only
  repeat' first
    | with_reducible exact hs
    | exact rfl
    | exact fun _ => rfl
    | with_reducible apply handleVerdict_keeps hk
    | with_reducible apply hk.raised
    | with_reducible apply withRouter_keeps hk
    | with_reducible apply withProbe_keeps hk

theorem verifyGo_keeps {P : State → Prop} {raise : Raiser} {s : State} (hk : Kept P raise) (hs : P s) :
    P (verifyGo raise s) := by
  unfold verifyGo
  try dsimp only
  repeat' first
    | with_reducible exact hs
    | exact rfl
    | exact fun _ => rfl
    | with_reducible apply presentMoveClear_keeps hk
    | with_reducible apply presentProbeMove_keeps hk
    | with_reducible apply giveVerdict_keeps hk
    | with_reducible apply hk.raised
    | split

theorem checkPoint_keeps {P : State → Prop} {raise : Raiser} {s : State} (hk : Kept P raise) (hs : P s) :
    P (checkPoint raise s) := by
  unfold checkPoint
  dsimp only
  repeat' first
    | with_reducible exact hs
    | exact rfl
    | exact fun _ => rfl
    | with_reducible apply presentProbeMove_keeps hk
    | with_reducible apply giveVerdict_keeps hk
    | with_reducible apply hk.raised
    | with_reducible apply withProbe_keeps hk
    | split

theorem completeCut_keeps {P : State → Prop} {raise : Raiser} {op : Operation} {s : State} (hk : Kept P raise) (hs : P s) :
    P (completeCut raise op s) := by
  unfold completeCut
  dsimp only
  repeat' first
    | with_reducible exact hs
    | exact rfl
    | exact fun _ => rfl
    | with_reducible apply setTab_keeps hk
    | with_reducible apply addWear_keeps hk
    | with_reducible apply verifySetup_keeps hk
    | with_reducible apply verifyGo_keeps hk
    | with_reducible apply hk.raised
    | with_reducible apply withPorts_keeps hk
    | split

theorem completeMoveClear_keeps {P : State → Prop} {rz : Raiser} {s : State} (hk : Kept P rz) (hs : P s) :
    P (completeMoveClear s) :=
  hk.masked (by simp [quietParts]) hs

theorem completeProbeMove_keeps {P : State → Prop} {rz : Raiser} {s : State} (hk : Kept P rz) (hs : P s) :
    P (completeProbeMove s) :=
  hk.masked (by simp [quietParts]) hs

theorem startTab_keeps {P : State → Prop} {raise : Raiser} {t : Fin 256} {s : State} (hk : Kept P raise) (hs : P s) :
    P (startTab raise t s) := by
  unfold startTab
  dsimp only
  repeat' first
    | with_reducible exact hs
    | exact rfl
    | exact fun _ => rfl
    | with_reducible apply modTab_keeps hk
    | with_reducible apply setTab_keeps hk
    | with_reducible apply startCut_keeps hk
    | with_reducible apply verifySetup_keeps hk
    | with_reducible apply verifyGo_keeps hk
    | with_reducible apply hk.raised
    | split

theorem chooseCut_keeps {P : State → Prop} {raise : Raiser} {s : State} (hk : Kept P raise) (hs : P s) :
    P (chooseCut raise s) := by
  unfold chooseCut
  try dsimp only
  repeat' first
    | with_reducible exact hs
    | exact rfl
    | exact fun _ => rfl
    | with_reducible apply startTab_keeps hk
    | with_reducible apply hk.raised
    | split

theorem presentHeldCut_keeps {P : State → Prop} {rz : Raiser} {s : State} (hk : Kept P rz) (hs : P s) :
    P (presentHeldCut s) :=
  hk.masked (by simp [quietParts]) hs

theorem holdEnds_keeps {P : State → Prop} {raise : Raiser} {b : Fin 64} {s : State} (hk : Kept P raise) (hs : P s) :
    P (holdEnds raise b s) := by
  unfold holdEnds
  dsimp only
  repeat' first
    | with_reducible exact hs
    | exact rfl
    | exact fun _ => rfl
    | with_reducible apply setBoard_keeps hk
    | with_reducible apply interruptRouter_keeps hk
    | with_reducible apply hk.raised
    | split

theorem grantBoard_keeps {P : State → Prop} {b : Fin 64} {n : Fin 3} {d : BoardDef} {p : PanelRec} {r : BoardRun} {s : State} (hk : Moves P) (h1 : canReserve s = true) (h2 : freeNest s = some n) (hs : P s) :
    P (grantBoard b n d p r s) := by
  unfold grantBoard
  exact dueMove_keeps hk.toKept (withPicker_keeps hk.toKept (modBoard_keeps hk.toKept (hk.granted h1 h2 hs)))

theorem grant_keeps {P : State → Prop} {s : State} (hk : Moves P) (hs : P s) :
    P (grant s) := by
  unfold grant
  split
  · next hg =>
    split
    · exact hs
    · split
      · next hn _ _ =>
        split
        · simp only [grantable, Bool.and_eq_true] at hg
          exact grantBoard_keeps hk hg.2 hn hs
        · exact hs
      · exact hs
  · exact hs

theorem presentStalled_keeps {P : State → Prop} {rz : Raiser} {s : State} (hk : Kept P rz) (hs : P s) :
    P (presentStalled s) :=
  hk.masked (by simp [quietParts]) hs

theorem gripped_keeps {P : State → Prop} {rz : Raiser} {s : State} (hk : Kept P rz) (hs : P s) :
    P (gripped s) :=
  hk.masked (by simp [quietParts]) hs

theorem startGrip_keeps {P : State → Prop} {rz : Raiser} {s : State} (hk : Kept P rz) (hs : P s) :
    P (startGrip s) :=
  hk.masked (by simp [quietParts]) hs

theorem enterGrip_keeps {P : State → Prop} {rz : Raiser} {s : State} (hk : Kept P rz) (hs : P s) :
    P (enterGrip s) :=
  hk.masked (by simp [quietParts]) hs

theorem vacuumPause_keeps {P : State → Prop} {rz : Raiser} {retry : Bool} {s : State} (hk : Kept P rz) (hs : P s) :
    P (vacuumPause retry s) :=
  hk.masked (by simp [quietParts]) hs

theorem gripFails_keeps {P : State → Prop} {raise : Raiser} {s : State} (hk : Kept P raise) (hs : P s) :
    P (gripFails raise s) := by
  unfold gripFails
  dsimp only
  repeat' first
    | with_reducible exact hs
    | exact rfl
    | exact fun _ => rfl
    | with_reducible apply releaseReservation_keeps hk
    | with_reducible apply enterReturning_keeps hk
    | with_reducible apply setVacuum_keeps hk
    | with_reducible apply hk.raised
    | with_reducible apply withPicker_keeps hk
    | split

theorem holdLost_keeps {P : State → Prop} {raise : Raiser} {b : Fin 64} {s : State} (hk : Kept P raise) (hs : P s) :
    P (holdLost raise b s) := by
  unfold holdLost
  dsimp only
  repeat' first
    | with_reducible exact hs
    | exact rfl
    | exact fun _ => rfl
    | with_reducible apply modBoard_keeps hk
    | with_reducible apply holdEnds_keeps hk
    | with_reducible apply vacuumPause_keeps hk
    | with_reducible apply gripFails_keeps hk
    | with_reducible apply hk.raised
    | split

theorem boardDropped_keeps {P : State → Prop} {raise : Raiser} {b : Fin 64} {s : State} (hk : Kept P raise) (hs : P s) :
    P (boardDropped raise b s) := by
  unfold boardDropped
  dsimp only
  repeat' first
    | with_reducible exact hs
    | exact rfl
    | exact fun _ => rfl
    | with_reducible apply boardLostEarly_keeps hk
    | with_reducible apply setVacuum_keeps hk
    | with_reducible apply hk.raised
    | with_reducible apply withPicker_keeps hk
    | split

theorem placementConfirmed_keeps {P : State → Prop} {b : Fin 64} {n : Fin 3} {s : State} (hk : Moves P) (hs : P s) :
    P (placementConfirmed b n s) := by
  unfold placementConfirmed
  exact enterReturning_keeps hk.toKept
    (tallyCutting_keeps hk.toKept (fun _ => rfl) (setBoard_keeps hk.toKept (hk.placed hs)))

theorem placementRefused_keeps {P : State → Prop} {raise : Raiser} {b : Fin 64} {n : Fin 3} {s : State} (hk : Kept P raise) (hs : P s) :
    P (placementRefused raise b n s) := by
  unfold placementRefused
  dsimp only
  repeat' first
    | with_reducible exact hs
    | exact rfl
    | exact fun _ => rfl
    | with_reducible apply boardLostEarly_keeps hk
    | with_reducible apply enterReturning_keeps hk
    | with_reducible apply hk.raised
    | with_reducible apply withPicker_keeps hk

theorem stallMove_keeps {P : State → Prop} {rz : Raiser} {s : State} (hk : Kept P rz) (hs : P s) :
    P (stallMove s) :=
  hk.masked (by simp [quietParts]) hs

theorem completeMove_keeps {P : State → Prop} {rz : Raiser} {s : State} (hk : Kept P rz) (hs : P s) :
    P (completeMove s) :=
  hk.masked (by simp [quietParts]) hs

theorem dueTransfer_keeps {P : State → Prop} {rz : Raiser} {o : Order} {s : State} (hk : Kept P rz) (hs : P s) :
    P (dueTransfer o s) :=
  hk.masked (by simp [quietParts]) hs

theorem dueElevate_keeps {P : State → Prop} {rz : Raiser} {o : Order} {s : State} (hk : Kept P rz) (hs : P s) :
    P (dueElevate o s) :=
  hk.masked (by simp [quietParts]) hs

theorem elevateFor_keeps {P : State → Prop} {rz : Raiser} {x : Bay} {s : State} (hk : Kept P rz) (hs : P s) :
    P (elevateFor x s) :=
  hk.masked (by simp [quietParts]) hs

theorem stopElevate_keeps {P : State → Prop} {rz : Raiser} {s : State} (hk : Kept P rz) (hs : P s) :
    P (stopElevate s) :=
  hk.masked (by simp [quietParts]) hs

theorem stackerIdle_keeps {P : State → Prop} {rz : Raiser} {s : State} (hk : Kept P rz) (hs : P s) :
    P (stackerIdle s) :=
  hk.masked (by simp [quietParts]) hs

theorem setPush_keeps {P : State → Prop} {rz : Raiser} {on : Bool} {s : State} (hk : Kept P rz) (hs : P s) :
    P (setPush on s) :=
  hk.masked (by simp [quietParts]) hs

theorem takeBay_keeps {P : State → Prop} {x : Bay} {s : State} (hk : Moves P) (e : bayChoice s = some x) (hs : P s) :
    P (takeBay x s) := by
  unfold takeBay
  exact withStacker_keeps hk.toKept (hk.bayTaken e hs)

theorem loseTarget_keeps {P : State → Prop} {rz : Raiser} {s : State} (hk : Kept P rz) (hs : P s) :
    P (loseTarget s) :=
  hk.masked (by simp [quietParts]) hs

theorem retarget_keeps {P : State → Prop} {s : State} (hk : Moves P) (hs : P s) :
    P (retarget s) := by
  unfold retarget
  split
  · split
    · next x hx =>
      dsimp only
      have := elevateFor_keeps hk.toKept (x := x) (takeBay_keeps hk hx hs)
      split
      · exact this
      · exact withStacker_keeps hk.toKept this
    · exact hs
  · exact hs

theorem awaitBay_keeps {P : State → Prop} {rz : Raiser} {s : State} (hk : Kept P rz) (hs : P s) :
    P (awaitBay s) :=
  hk.masked (by simp [quietParts]) hs

theorem startCycle_keeps {P : State → Prop} {s : State} (hk : Moves P) (hs : P s) :
    P (startCycle s) := by
  unfold startCycle
  split
  · split
    · exact hs
    · split
      · dsimp only
        have h2 := fun o x => dueTransfer_keeps (o := o) hk.toKept (withStacker_keeps (x := x) hk.toKept hs)
        split
        · split
          · next x hx => exact elevateFor_keeps hk.toKept (takeBay_keeps hk hx (h2 _ _))
          · exact h2 _ _
        · exact h2 _ _
      · exact hs
  · exact hs

theorem checkSlot_keeps {P : State → Prop} {x : Bay} {slot : Nat} {s : State} (hk : Moves P) (hs : P s) :
    P (checkSlot x slot s) := by
  unfold checkSlot
  dsimp only
  repeat' first
    | with_reducible exact hs
    | exact rfl
    | exact fun _ => rfl
    | with_reducible apply setSlot_keeps hk
    | with_reducible apply advance_keeps hk
    | with_reducible apply dueTransfer_keeps hk.toKept
    | with_reducible apply elevateFor_keeps hk.toKept
    | with_reducible apply loseTarget_keeps hk.toKept
    | with_reducible apply withStacker_keeps hk.toKept
    | split

theorem tryCheck_keeps {P : State → Prop} {s : State} (hk : Moves P) (hs : P s) :
    P (tryCheck s) := by
  unfold tryCheck
  try dsimp only
  repeat' first
    | with_reducible exact hs
    | exact rfl
    | exact fun _ => rfl
    | with_reducible apply checkSlot_keeps hk
    | split

theorem fetchEnds_keeps {P : State → Prop} {h : Hand} {s : State} (hk : Moves P) (hs : P s) :
    P (fetchEnds h s) := by
  unfold fetchEnds
  dsimp only
  repeat' first
    | with_reducible exact hs
    | exact rfl
    | exact fun _ => rfl
    | with_reducible apply clearBoardNest_keeps hk.toKept
    | with_reducible apply dueTransfer_keeps hk.toKept
    | with_reducible apply tryCheck_keeps hk
    | with_reducible apply withStacker_keeps hk.toKept
    | with_reducible apply hk.toKept.fewer
    | split

theorem completeFromNest_keeps {P : State → Prop} {s : State} (hk : Moves P) (hs : P s) :
    P (completeFromNest s) := by
  unfold completeFromNest
  try dsimp only
  repeat' first
    | with_reducible exact hs
    | exact rfl
    | exact fun _ => rfl
    | with_reducible apply fetchEnds_keeps hk
    | with_reducible apply withStacker_keeps hk.toKept
    | split

theorem startLeave_keeps {P : State → Prop} {rz : Raiser} {s : State} (hk : Kept P rz) (hs : P s) :
    P (startLeave s) :=
  hk.masked (by simp [quietParts]) hs

theorem startStroke_keeps {P : State → Prop} {rz : Raiser} {s : State} (hk : Kept P rz) (hs : P s) :
    P (startStroke s) :=
  hk.masked (by simp [quietParts]) hs

theorem enterPush_keeps {P : State → Prop} {rz : Raiser} {s : State} (hk : Kept P rz) (hs : P s) :
    P (enterPush s) :=
  hk.masked (by simp [quietParts]) hs

theorem pushFails_keeps {P : State → Prop} {s : State} (hk : Moves P) (hs : P s) :
    P (pushFails raise s) := by
  unfold pushFails
  dsimp only
  repeat' first
    | with_reducible exact hs
    | exact rfl
    | exact fun _ => rfl
    | with_reducible apply reportLost_keeps hk.toKept
    | with_reducible apply setSlot_keeps hk
    | with_reducible apply advance_keeps hk
    | with_reducible apply stackerIdle_keeps hk.toKept
    | with_reducible apply setPush_keeps hk.toKept
    | with_reducible apply hk.toKept.raised
    | split

theorem slotFilled_keeps {P : State → Prop} {h : Hand} {x : Bay} {slot : Nat} {s : State} (hk : Moves P) (hs : P s) :
    P (slotFilled h x slot s) := by
  unfold slotFilled
  dsimp only
  repeat' first
    | with_reducible exact hs
    | exact rfl
    | exact fun _ => rfl
    | with_reducible apply reportStacked_keeps hk.toKept
    | (with_reducible refine setBay_same hk.toKept ?_ ?_; exact rfl)
    | with_reducible apply setSlot_keeps hk
    | with_reducible apply advance_keeps hk
    | with_reducible apply stackerIdle_keeps hk.toKept

theorem confirm_keeps {P : State → Prop} {s : State} (hk : Moves P) (hs : P s) :
    P (confirm raise s) := by
  unfold confirm
  dsimp only
  repeat' first
    | with_reducible exact hs
    | exact rfl
    | exact fun _ => rfl
    | with_reducible apply reportLost_keeps hk.toKept
    | with_reducible apply setSlot_keeps hk
    | with_reducible apply advance_keeps hk
    | with_reducible apply stackerIdle_keeps hk.toKept
    | with_reducible apply slotFilled_keeps hk
    | with_reducible apply hk.toKept.raised
    | with_reducible apply withStacker_keeps hk.toKept
    | split

theorem recoverPush_keeps {P : State → Prop} {s : State} (hk : Moves P) (hs : P s) :
    P (recoverPush s) := by
  unfold recoverPush
  dsimp only
  repeat' first
    | with_reducible exact hs
    | exact rfl
    | exact fun _ => rfl
    | with_reducible apply startLeave_keeps hk.toKept
    | with_reducible apply slotFilled_keeps hk
    | with_reducible apply withStacker_keeps hk.toKept
    | split

theorem pusherHome_keeps {P : State → Prop} {s : State} (hk : Moves P) (hs : P s) :
    P (pusherHome raise s) := by
  unfold pusherHome
  try dsimp only
  repeat' first
    | with_reducible exact hs
    | exact rfl
    | exact fun _ => rfl
    | with_reducible apply setPush_keeps hk.toKept
    | with_reducible apply startLeave_keeps hk.toKept
    | with_reducible apply confirm_keeps hk
    | with_reducible apply recoverPush_keeps hk
    | with_reducible apply hk.toKept.raised
    | with_reducible apply withStacker_keeps hk.toKept
    | split

theorem pusherLeaves_keeps {P : State → Prop} {rz : Raiser} {s : State} (hk : Kept P rz) (hs : P s) :
    P (pusherLeaves s) :=
  hk.masked (by simp [quietParts]) hs

theorem completeToMouth_keeps {P : State → Prop} {s : State} (hk : Moves P) (hs : P s) :
    P (completeToMouth s) := by
  unfold completeToMouth
  try dsimp only
  repeat' first
    | with_reducible exact hs
    | exact rfl
    | exact fun _ => rfl
    | with_reducible apply tryCheck_keeps hk
    | with_reducible apply enterPush_keeps hk.toKept
    | split

theorem completeToChute_keeps {P : State → Prop} {rz : Raiser} {s : State} (hk : Kept P rz) (hs : P s) :
    P (completeToChute s) :=
  hk.masked (by simp [quietParts]) hs

theorem completeTransfer_keeps {P : State → Prop} {s : State} (hk : Moves P) (hs : P s) :
    P (completeTransfer s) := by
  unfold completeTransfer
  dsimp only
  repeat' first
    | with_reducible exact hs
    | exact rfl
    | exact fun _ => rfl
    | with_reducible apply completeFromNest_keeps hk
    | with_reducible apply completeToMouth_keeps hk
    | with_reducible apply completeToChute_keeps hk.toKept
    | with_reducible apply withStacker_keeps hk.toKept
    | with_reducible apply withPorts_keeps hk.toKept
    | split

theorem completeElevate_keeps {P : State → Prop} {s : State} (hk : Moves P) (hs : P s) :
    P (completeElevate s) := by
  unfold completeElevate
  dsimp only
  repeat' first
    | with_reducible exact hs
    | exact rfl
    | exact fun _ => rfl
    | with_reducible apply tryCheck_keeps hk
    | with_reducible apply withStacker_keeps hk.toKept
    | with_reducible apply withPorts_keeps hk.toKept

theorem endDivert_keeps {P : State → Prop} {rz : Raiser} {s : State} (hk : Kept P rz) (hs : P s) :
    P (endDivert s) :=
  hk.masked (by simp [quietParts]) hs

theorem chutePassed_keeps {P : State → Prop} {rz : Raiser} {s : State} (hk : Kept P rz) (hs : P s) :
    P (chutePassed s) := by
  unfold chutePassed
  try dsimp only
  repeat' first
    | with_reducible exact hs
    | exact rfl
    | exact fun _ => rfl
    | with_reducible apply reportChuted_keeps hk
    | with_reducible apply endDivert_keeps hk
    | split

theorem chuteMissed_keeps {P : State → Prop} {raise : Raiser} {s : State} (hk : Kept P raise) (hs : P s) :
    P (chuteMissed raise s) := by
  unfold chuteMissed
  dsimp only
  repeat' first
    | with_reducible exact hs
    | exact rfl
    | exact fun _ => rfl
    | with_reducible apply reportLost_keeps hk
    | with_reducible apply endDivert_keeps hk
    | with_reducible apply hk.raised
    | with_reducible apply withStacker_keeps hk
    | split

theorem fetchFails_keeps {P : State → Prop} {raise : Raiser} {h : Hand} {s : State} (hk : Kept P raise) (hs : P s) :
    P (fetchFails raise h s) := by
  unfold fetchFails
  dsimp only
  repeat' first
    | with_reducible exact hs
    | exact rfl
    | exact fun _ => rfl
    | with_reducible apply stopElevate_keeps hk
    | with_reducible apply stackerIdle_keeps hk
    | with_reducible apply hk.raised
    | with_reducible apply withStacker_keeps hk

theorem resumePush_keeps {P : State → Prop} {s : State} (hk : Moves P) (hs : P s) :
    P (resumePush s) := by
  unfold resumePush
  dsimp only
  repeat' first
    | with_reducible exact hs
    | exact rfl
    | exact fun _ => rfl
    | with_reducible apply startStroke_keeps hk.toKept
    | with_reducible apply recoverPush_keeps hk
    | with_reducible apply withStacker_keeps hk.toKept
    | split

theorem presentHeldBack_keeps {P : State → Prop} {rz : Raiser} {s : State} (hk : Kept P rz) (hs : P s) :
    P (presentHeldBack s) :=
  hk.masked (by simp [quietParts]) hs

theorem haltStacker_keeps {P : State → Prop} {rz : Raiser} {s : State} (hk : Kept P rz) (hs : P s) :
    P (haltStacker s) :=
  hk.masked (by simp [quietParts]) hs

theorem transferTimesOut_keeps {P : State → Prop} {raise : Raiser} {s : State} (hk : Kept P raise) (hs : P s) :
    P (transferTimesOut raise s) := by
  unfold transferTimesOut
  dsimp only
  repeat' first
    | with_reducible exact hs
    | exact rfl
    | exact fun _ => rfl
    | with_reducible apply hk.raised
    | with_reducible apply withStacker_keeps hk
    | with_reducible apply withPorts_keeps hk
    | split

theorem elevatorTimesOut_keeps {P : State → Prop} {raise : Raiser} {s : State} (hk : Kept P raise) (hs : P s) :
    P (elevatorTimesOut raise s) := by
  unfold elevatorTimesOut
  dsimp only
  repeat' first
    | with_reducible exact hs
    | exact rfl
    | exact fun _ => rfl
    | with_reducible apply hk.raised
    | with_reducible apply withStacker_keeps hk
    | with_reducible apply withPorts_keeps hk
    | split

theorem bayChanged_keeps {P : State → Prop} {rz : Raiser} {x : Bay} {s : State} (hk : Kept P rz) (hs : P s) :
    P (bayChanged x s) :=
  hk.masked (by simp [quietParts]) hs

theorem bayInserted_keeps {P : State → Prop} {x : Bay} {s : State} (hk : Moves P) (hs : P s) :
    P (bayInserted x s) := by
  unfold bayInserted
  try dsimp only
  repeat' first
    | with_reducible exact hs
    | exact rfl
    | exact fun _ => rfl
    | (with_reducible refine setBay_done hk ?_ ?_; exact (by simp))
    | with_reducible apply bayChanged_keeps hk.toKept
    | split

theorem targetWithdrawn_keeps {P : State → Prop} {rz : Raiser} {x : Bay} {s : State} (hk : Kept P rz) (hs : P s) :
    P (targetWithdrawn x s) := by
  unfold targetWithdrawn
  try dsimp only
  repeat' first
    | with_reducible exact hs
    | exact rfl
    | exact fun _ => rfl
    | with_reducible apply reportLost_keeps hk
    | with_reducible apply stackerIdle_keeps hk
    | with_reducible apply setPush_keeps hk
    | with_reducible apply loseTarget_keeps hk
    | split

theorem bayWithdrawn_keeps {P : State → Prop} {x : Bay} {s : State} (hk : Moves P) (hs : P s) :
    P (bayWithdrawn raise x s) := by
  have h1 : P (setBay x BayRec.reset s) := hk.bayDone (by simp [BayRec.reset]) hs
  unfold bayWithdrawn
  split
  · exact hs
  · exact bayChanged_keeps hk.toKept h1
  · exact bayChanged_keeps hk.toKept h1
  · exact hk.raised h1
  · exact targetWithdrawn_keeps hk.toKept (hk.raised h1)

theorem loadBay_keeps {P : State → Prop} {x : Bay} {i : Fin 4} {p : Profile} {s : State} (hk : Moves P) (hs : P s) :
    P (loadBay x i p s) := by
  unfold loadBay
  dsimp only
  repeat' first
    | with_reducible exact hs
    | exact rfl
    | exact fun _ => rfl
    | (with_reducible refine setBay_done hk ?_ ?_; exact (by simp))

theorem retireNow_keeps {P : State → Prop} {x : Bay} {s : State} (hk : Moves P) (hs : P s) :
    P (retireNow x s) := by
  unfold retireNow
  dsimp only
  repeat' first
    | with_reducible exact hs
    | exact rfl
    | exact fun _ => rfl
    | with_reducible apply completeBay_keeps hk
    | with_reducible apply loseTarget_keeps hk.toKept
    | split

theorem raiseParked_keeps {P : State → Prop} {rz : Raiser} {s : State} (hk : Kept P rz) (hs : P s) :
    P (raiseParked s) :=
  hk.masked (by simp [quietParts]) hs

theorem parkCell_keeps {P : State → Prop} {s : State} (hk : Moves P) (hs : P s) :
    P (parkCell s) := by
  unfold parkCell
  have h1 := hk.stopped (hk.parked (c := { s.cell with ret := some s.cell.mode, idleTimer := none, mode := .parked }) rfl hs)
  dsimp only
  split
  · exact raiseParked_keeps hk.toKept h1
  · exact h1

theorem setAux_keeps {P : State → Prop} {rz : Raiser} {n : Fin 4} {a : AuxLine} {s : State} (hk : Kept P rz) (hs : P s) :
    P (setAux n a s) :=
  hk.masked (by simp [quietParts]) hs

theorem takeHold_keeps {P : State → Prop} {s : State} (hk : Moves P) (hs : P s) :
    P (takeHold s) := by
  unfold takeHold
  dsimp only
  repeat' first
    | with_reducible exact hs
    | exact rfl
    | exact fun _ => rfl
    | with_reducible apply hk.entered _
    | with_reducible refine withCell_keeps hk.toKept ?_ ?_
    | split

theorem boundary_keeps {P : State → Prop} {s : State} (hk : Moves P) (hs : P s) :
    P (boundary s) := by
  unfold boundary
  try dsimp only
  repeat' first
    | with_reducible exact hs
    | exact rfl
    | exact fun _ => rfl
    | with_reducible apply hk.entered _
    | split

theorem auxHold_keeps {P : State → Prop} {n : Fin 4} {s : State} (hk : Moves P) (hs : P s) :
    P (auxHold n s) := by
  unfold auxHold
  dsimp only
  repeat' first
    | with_reducible exact hs
    | exact rfl
    | exact fun _ => rfl
    | with_reducible apply setAux_keeps hk.toKept
    | with_reducible apply takeHold_keeps hk
    | split

theorem auxRole_keeps {P : State → Prop} {s : State} {n : Fin 4} (hk : Moves P) (hs : P s) :
    P (auxRole s n) := by
  unfold auxRole
  dsimp only
  split
  · exact hs
  · split
    · split
      · exact raiseNotice_keeps hk.toKept hs
      · exact hs
    · exact auxHold_keeps hk hs
    · split
      · exact hk.raised (setAux_keeps hk.toKept hs)
      · exact hs
    · split
      · next h =>
        simp only [Bool.and_eq_true, decide_eq_true_eq] at h
        exact hk.woken h.2 hs
      · exact hs

theorem auxRoles_keeps {P : State → Prop} {s : State} (hk : Moves P) (hs : P s) :
    P (auxRoles s) := by
  unfold auxRoles
  try dsimp only
  repeat' first
    | with_reducible exact hs
    | exact rfl
    | exact fun _ => rfl
    | (with_reducible apply foldl_keeps (fun _ _ hs => auxRole_keeps hk hs))

theorem idleTimer_keeps {P : State → Prop} {rz : Raiser} {s : State} (hk : Kept P rz) (hs : P s) :
    P (idleTimer s) :=
  hk.masked (by simp [quietParts]) hs

theorem settlePass_keeps {P : State → Prop} {s : State} (hk : Moves P) (hs : P s) :
    P (settlePass s) := by
  unfold settlePass
  exact idleTimer_keeps hk.toKept (startCycle_keeps hk (awaitBay_keeps hk.toKept (retarget_keeps hk (resumePush_keeps hk
    (presentHeldBack_keeps hk.toKept (grant_keeps hk (boundary_keeps hk (chooseCut_keeps hk.toKept (presentHeldCut_keeps hk.toKept
      (presentStalled_keeps hk.toKept (auxRoles_keeps hk (recordTest_keeps hk hs))))))))))))

theorem settle_keeps {P : State → Prop} {s : State} (hk : Moves P) (hs : P s) :
    P (settle s) := by
  exact settlePass_keeps hk (settlePass_keeps hk hs)

theorem linkKick_keeps {P : State → Prop} {rz : Raiser} {s : State} (hk : Kept P rz) (hs : P s) :
    P (linkKick s) :=
  hk.masked (by simp [quietParts]) hs

theorem finish_keeps {P : State → Prop} {s : State} (hk : Moves P) (hs : P s) :
    P (finish s) := by
  exact linkKick_keeps hk.toKept (settle_keeps hk hs)

theorem setDed_keeps {P : State → Prop} {rz : Raiser} {l : Fin 16} {d : DedLine} {s : State} (hk : Kept P rz) (hs : P s) :
    P (setDed l d s) :=
  hk.masked (by simp [quietParts]) hs

theorem vacuumAsserted_keeps {P : State → Prop} {rz : Raiser} {s : State} (hk : Kept P rz) (hs : P s) :
    P (vacuumAsserted s) :=
  hk.masked (by simp [quietParts]) hs

theorem vacuumDeasserted_keeps {P : State → Prop} {s : State} (hk : Moves P) (hs : P s) :
    P (vacuumDeasserted s) := by
  unfold vacuumDeasserted
  try dsimp only
  repeat' first
    | with_reducible exact hs
    | exact rfl
    | exact fun _ => rfl
    | with_reducible apply holdLost_keeps hk.toKept
    | with_reducible apply boardDropped_keeps hk.toKept
    | with_reducible apply hk.toKept.raised
    | split

theorem nestAsserted_keeps {P : State → Prop} {n : Fin 3} {s : State} (hk : Moves P) (hs : P s) :
    P (nestAsserted n s) := by
  unfold nestAsserted
  try dsimp only
  repeat' first
    | with_reducible exact hs
    | exact rfl
    | exact fun _ => rfl
    | with_reducible apply placementConfirmed_keeps hk
    | with_reducible apply hk.toKept.raised
    | split

theorem nestTaken_keeps {P : State → Prop} {rz : Raiser} {e : NestEntry} {s : State} (hk : Kept P rz) (hs : P s) :
    P (nestTaken e s) := by
  unfold nestTaken
  dsimp only
  repeat' first
    | with_reducible exact hs
    | exact rfl
    | exact fun _ => rfl
    | with_reducible apply clearBoardNest_keeps hk
    | with_reducible apply reportLost_keeps hk
    | with_reducible apply hk.fewer

theorem nestDeasserted_keeps {P : State → Prop} {n : Fin 3} {s : State} (hk : Moves P) (hs : P s) :
    P (nestDeasserted n s) := by
  unfold nestDeasserted
  dsimp only
  repeat' first
    | with_reducible exact hs
    | exact rfl
    | exact fun _ => rfl
    | with_reducible apply fetchEnds_keeps hk
    | with_reducible apply nestTaken_keeps hk.toKept
    | with_reducible apply hk.toKept.raised
    | split

theorem levelChange_keeps {P : State → Prop} {l : Fin 16} {now : Bool} {s : State} (hk : Moves P) (hs : P s) :
    P (levelChange l now s) := by
  unfold levelChange
  try dsimp only
  repeat' first
    | with_reducible exact hs
    | exact rfl
    | exact fun _ => rfl
    | with_reducible apply pusherHome_keeps hk
    | with_reducible apply pusherLeaves_keeps hk.toKept
    | with_reducible apply bayInserted_keeps hk
    | with_reducible apply bayWithdrawn_keeps hk
    | with_reducible apply vacuumAsserted_keeps hk.toKept
    | with_reducible apply vacuumDeasserted_keeps hk
    | with_reducible apply nestAsserted_keeps hk
    | with_reducible apply nestDeasserted_keeps hk
    | with_reducible apply hk.toKept.raised
    | split

theorem handOver_keeps {P : State → Prop} {l : Fin 16} {before : Option Bool} {now : Bool} {s : State} (hk : Moves P) (hs : P s) :
    P (handOver l before now s) := by
  unfold handOver
  try dsimp only
  repeat' first
    | with_reducible exact hs
    | exact rfl
    | exact fun _ => rfl
    | with_reducible apply levelChange_keeps hk
    | split

theorem routerDone_keeps {P : State → Prop} {s : State} (hk : Moves P) (hs : P s) :
    P (routerDone s) := by
  unfold routerDone
  try dsimp only
  repeat' first
    | with_reducible exact hs
    | exact rfl
    | exact fun _ => rfl
    | with_reducible apply completeCut_keeps hk.toKept
    | with_reducible apply completeMoveClear_keeps hk.toKept
    | with_reducible apply completeProbeMove_keeps hk.toKept
    | with_reducible apply hk.toKept.raised
    | split

theorem pickerDone_keeps {P : State → Prop} {rz : Raiser} {s : State} (hk : Kept P rz) (hs : P s) :
    P (pickerDone s) :=
  hk.masked (by simp [quietParts]) hs

theorem elevatorDone_keeps {P : State → Prop} {s : State} (hk : Moves P) (hs : P s) :
    P (elevatorDone s) := by
  unfold elevatorDone
  try dsimp only
  repeat' first
    | with_reducible exact hs
    | exact rfl
    | exact fun _ => rfl
    | with_reducible apply completeElevate_keeps hk
    | split

theorem edge_keeps {P : State → Prop} {l : Fin 16} {s : State} (hk : Moves P) (hs : P s) :
    P (edge l s) := by
  unfold edge
  try dsimp only
  repeat' first
    | with_reducible exact hs
    | exact rfl
    | exact fun _ => rfl
    | with_reducible apply completeTransfer_keeps hk
    | with_reducible apply chutePassed_keeps hk.toKept
    | with_reducible apply routerDone_keeps hk
    | with_reducible apply pickerDone_keeps hk.toKept
    | with_reducible apply elevatorDone_keeps hk
    | split

theorem acceptLine_keeps {P : State → Prop} {l : Fin 16} {v : Bool} {s : State} (hk : Moves P) (hs : P s) :
    P (acceptLine l v s) := by
  unfold acceptLine
  dsimp only
  repeat' first
    | with_reducible exact hs
    | exact rfl
    | exact fun _ => rfl
    | with_reducible apply setDed_keeps hk.toKept
    | with_reducible apply handOver_keeps hk
    | with_reducible apply edge_keeps hk
    | split

theorem acceptAux_keeps {P : State → Prop} {rz : Raiser} {n : Fin 4} {high : Bool} {s : State} (hk : Kept P rz) (hs : P s) :
    P (acceptAux n high s) :=
  hk.masked (by simp [quietParts]) hs

theorem restartAux_keeps {P : State → Prop} {rz : Raiser} {n : Fin 4} {mode : DetectMode} {role : AuxRole} {period : SamplePeriod} {enable : Bool} {s : State} (hk : Kept P rz) (hs : P s) :
    P (restartAux n mode role period enable s) :=
  hk.masked (by simp [quietParts]) hs

theorem acceptStop_keeps {P : State → Prop} {isOpen : Bool} {s : State} (hk : Moves P) (hs : P s) :
    P (acceptStop isOpen s) := by
  unfold acceptStop
  dsimp only
  repeat' first
    | with_reducible exact hs
    | exact rfl
    | exact fun _ => rfl
    | with_reducible apply hk.toKept.raised
    | with_reducible apply withLines_keeps hk.toKept
    | split

theorem unconfigure_keeps {P : State → Prop} {s : State} (hk : Moves P) (hs : P s) :
    P (unconfigure s) := by
  unfold unconfigure
  split
  · exact hk.unconfigured rfl hs
  · exact hk.unconfigured rfl hs
  all_goals first
    | exact hs
    | exact withCell_keeps hk.toKept rfl hs

theorem discardRuntime_keeps {P : State → Prop} {rz : Raiser} {s : State} (hk : Kept P rz) (hs : P s) :
    P (discardRuntime s) :=
  hk.masked (by simp [quietParts]) hs

theorem configure_keeps {P : State → Prop} {s : State} (hk : Moves P) (hs : P s) :
    P (configure s) := by
  unfold configure
  try dsimp only
  repeat' first
    | with_reducible exact hs
    | exact rfl
    | exact fun _ => rfl
    | with_reducible apply hk.entered _
    | with_reducible refine withCell_keeps hk.toKept ?_ ?_
    | split

theorem buildRuntime_keeps {P : State → Prop} {rz : Raiser} {serial : Serial} {marks : List (Fin 64 × Disposition)} {s : State} (hk : Kept P rz) (hs : P s) :
    P (buildRuntime serial marks s) :=
  hk.masked (by simp [quietParts]) hs

theorem holdLines_keeps {P : State → Prop} {s : State} (hk : Moves P) (hs : P s) :
    P (holdLines s) := by
  unfold holdLines
  exact foldl_keeps (fun _ _ hs => auxHold_keeps hk hs) hs

theorem startPanel_keeps {P : State → Prop} {serial : Serial} {dx dy : Int} {marks : List (Fin 64 × Disposition)} {s : State} (hk : Moves P) (h1 : s.cell.mode = .idle) (h2 : s.seq.records.length < 2)
    (h3 : ∀ y ∈ s.seq.records, y.serial ≠ serial) (hs : P s) :
    P (startPanel serial dx dy marks s) := by
  unfold startPanel
  dsimp only
  have e1 : (buildRuntime serial marks (clearNotice Notice.panelCutDone s)).seq.records = s.seq.records := rfl
  refine recordTest_keeps hk (holdLines_keeps hk (hk.entered _ (withCell_keeps hk.toKept rfl (hk.started ?_ ?_))))
  · exact h1
  · refine hk.recordAdded rfl ?_ ?_ (buildRuntime_keeps hk.toKept (clearNotice_keeps hk.toKept hs))
    · rw [e1]; exact h2
    · rw [e1]; exact h3

theorem stopMode_keeps {P : State → Prop} {s : State} (hk : Moves P) (hs : P s) :
    P (stopMode s) := by
  unfold stopMode
  try dsimp only
  repeat' first
    | with_reducible exact hs
    | exact rfl
    | exact fun _ => rfl
    | with_reducible apply hk.entered _
    | with_reducible refine withCell_keeps hk.toKept ?_ ?_
    | split

theorem stopPanel_keeps {P : State → Prop} {s : State} (hk : Moves P) (hs : P s) :
    P (stopPanel s) := by
  unfold stopPanel
  dsimp only
  repeat' first
    | with_reducible exact hs
    | exact rfl
    | exact fun _ => rfl
    | with_reducible refine modRecords_keeps hk.toKept ?_ ?_
    | (with_reducible apply foldl_keeps (fun _ _ hs => boardAbandoned_keeps hk.toKept hs))
    | with_reducible apply boardAbandoned_keeps hk.toKept
    | (with_reducible apply foldl_keeps (fun _ _ hs => bypassTab_keeps hk.toKept hs))
    | with_reducible apply bypassTab_keeps hk.toKept
    | with_reducible apply recordTest_keeps hk
    | (with_reducible apply foldl_keeps (fun _ _ hs => letGo_keeps hk.toKept hs))
    | with_reducible apply letGo_keeps hk.toKept
    | with_reducible apply stopMode_keeps hk
    | with_reducible refine withCell_keeps hk.toKept ?_ ?_

theorem clearRouter_keeps {P : State → Prop} {s : State} (hk : Moves P) (hs : P s) :
    P (clearRouter s) := by
  unfold clearRouter
  dsimp only
  repeat' first
    | with_reducible exact hs
    | exact rfl
    | exact fun _ => rfl
    | with_reducible apply dropRouter_keeps hk.toKept
    | with_reducible apply interruptRouter_keeps hk.toKept
    | with_reducible apply hk.toKept.raised
    | with_reducible apply withRouter_keeps hk.toKept
    | split

theorem clearPicker_keeps {P : State → Prop} {s : State} (hk : Moves P) (hs : P s) :
    P (clearPicker s) := by
  unfold clearPicker
  dsimp only
  repeat' first
    | with_reducible exact hs
    | exact rfl
    | exact fun _ => rfl
    | with_reducible apply releaseReservation_keeps hk.toKept
    | with_reducible apply boardLostEarly_keeps hk.toKept
    | with_reducible apply holdEnds_keeps hk.toKept
    | with_reducible apply hk.toKept.raised
    | with_reducible apply withPicker_keeps hk.toKept
    | with_reducible refine withOutputs_keeps hk.toKept ?_ ?_
    | with_reducible apply withPorts_keeps hk.toKept
    | split

theorem loseHand_keeps {P : State → Prop} {rz : Raiser} {h : Hand} {s : State} (hk : Kept P rz) (hs : P s) :
    P (loseHand h s) := by
  unfold loseHand
  try dsimp only
  repeat' first
    | with_reducible exact hs
    | exact rfl
    | exact fun _ => rfl
    | with_reducible apply reportLost_keeps hk

theorem settleHand_keeps {P : State → Prop} {k : Stacker} {s : State} (hk : Moves P) (hs : P s) :
    P (settleHand k s) := by
  unfold settleHand
  dsimp only
  repeat' first
    | with_reducible exact hs
    | exact rfl
    | exact fun _ => rfl
    | with_reducible apply clearBoardNest_keeps hk.toKept
    | with_reducible apply setSlot_keeps hk
    | with_reducible apply advance_keeps hk
    | with_reducible apply loseHand_keeps hk.toKept
    | with_reducible apply hk.toKept.fewer
    | split

theorem clearStacker_keeps {P : State → Prop} {s : State} (hk : Moves P) (hs : P s) :
    P (clearStacker s) := by
  unfold clearStacker
  dsimp only
  repeat' first
    | with_reducible exact hs
    | exact rfl
    | exact fun _ => rfl
    | with_reducible apply stackerIdle_keeps hk.toKept
    | with_reducible apply settleHand_keeps hk
    | with_reducible refine withOutputs_keeps hk.toKept ?_ ?_
    | with_reducible apply withPorts_keeps hk.toKept

theorem clearAuxLatch_keeps {P : State → Prop} {rz : Raiser} {n : Notice} {s : State} (hk : Kept P rz) (hs : P s) :
    P (clearAuxLatch n s) :=
  hk.masked (by simp [quietParts]) hs

theorem resetNotices_keeps {P : State → Prop} {rz : Raiser} {s : State} (hk : Kept P rz) (hs : P s) :
    P (resetNotices s) :=
  hk.masked (by simp [quietParts]) hs

theorem resetWear_keeps {P : State → Prop} {rz : Raiser} {s : State} (hk : Kept P rz) (hs : P s) :
    P (resetWear s) :=
  hk.masked (by simp [quietParts]) hs

theorem resetBay_keeps {P : State → Prop} {x : Bay} {push : Option Nat} {s : State} (hk : Moves P) (hs : P s) :
    P (resetBay x push s) := by
  unfold resetBay
  have key : ∀ {t : State}, P t →
      P (setBay x { bayOf t x with state := if (bayOf t x).state = .active then .ready else (bayOf t x).state, retire := false } t) := by
    intro t ht
    refine setBay_done hk ?_ ht
    dsimp only
    split
    · simp
    · assumption
  cases push with
  | none => exact key hs
  | some slot => exact key (advance_keeps hk (setSlot_keeps hk hs))

theorem restartDed_keeps {P : State → Prop} {rz : Raiser} {l : Fin 16} {sense : Sense} {period : SamplePeriod} {s : State}
    (hk : Kept P rz) (hs : P s) : P (restartDed l sense period s).2 := by
  unfold restartDed presentInput
  dsimp only
  split
  · exact setDed_keeps hk hs
  · exact setDed_keeps hk (withFree_keeps hk hs)

theorem resetLine_keeps {P : State → Prop} {s : State} {l : Fin 16} (hk : Moves P) (hs : P s) :
    P (resetLine s l) := by
  unfold resetLine
  dsimp only
  split
  · exact restartDed_keeps hk.toKept hs
  · exact handOver_keeps hk (restartDed_keeps hk.toKept hs)

theorem resetAux_keeps {P : State → Prop} {rz : Raiser} {s : State} {n : Fin 4} (hk : Kept P rz) (hs : P s) :
    P (resetAux s n) :=
  hk.masked (by simp [quietParts]) hs

theorem raiseStanding_keeps {P : State → Prop} {src : Source} {d : Detail} {s : State} (hk : Moves P) (hs : P s) :
    P (raiseStanding src d s) := by
  unfold raiseStanding
  try dsimp only
  repeat' first
    | with_reducible exact hs
    | exact rfl
    | exact fun _ => rfl
    | with_reducible apply hk.toKept.raised
    | split

theorem setRx_keeps {P : State → Prop} {rz : Raiser} {r : Receiver} {s : State} (hk : Kept P rz) (hs : P s) :
    P (setRx r s) :=
  hk.masked (by simp [quietParts]) hs

theorem linkGarbled_keeps {P : State → Prop} {rz : Raiser} {cause : Byte} {s : State} (hk : Kept P rz) (hs : P s) :
    P (linkGarbled cause s) :=
  hk.masked (by simp [quietParts]) hs

theorem frameEnds_keeps {P : State → Prop} {rz : Raiser} {s : State} (hk : Kept P rz) (hs : P s) :
    P (frameEnds s) :=
  hk.masked (by simp [quietParts]) hs

theorem wakeComplete_keeps {P : State → Prop} {s : State} (hk : Moves P) (hs : P s) :
    P (wakeComplete s) := by
  unfold wakeComplete
  dsimp only
  repeat' first
    | with_reducible exact hs
    | exact rfl
    | exact fun _ => rfl
    | with_reducible apply raiseNotice_keeps hk.toKept
    | with_reducible apply hk.entered _
    | with_reducible refine withCell_keeps hk.toKept ?_ ?_
    | split

theorem reachSpeed_keeps {P : State → Prop} {s : State} (hk : Moves P) (e : s.spindle.state = .spinup) (hs : P s) :
    P (reachSpeed s) := by
  unfold reachSpeed
  exact wakeComplete_keeps hk (hk.qualified e rfl rfl hs)

theorem qualifyPeriod_keeps {P : State → Prop} {counted : Bool} {rpm : Nat} {s : State} (hk : Moves P) (hs : P s) :
    P (qualifyPeriod counted rpm s) := by
  have key : s.spindle.state = .spinup → ∀ n, P (if 3 ≤ n then
      reachSpeed (s.withSpindle { s.spindle with qualify := n }) else s.withSpindle { s.spindle with qualify := n }) := by
    intro h n
    split
    · exact reachSpeed_keeps hk h (withSpindle_keeps hk.toKept rfl hs)
    · exact withSpindle_keeps hk.toKept rfl hs
  unfold qualifyPeriod
  split
  · next h =>
    simp only [Bool.and_eq_true, decide_eq_true_eq] at h
    exact key h.1.1 _
  · exact hs

theorem sagPeriod_keeps {P : State → Prop} {rpm : Nat} {s : State} (hk : Moves P) (hs : P s) :
    P (sagPeriod rpm s) := by
  unfold sagPeriod
  dsimp only
  repeat' first
    | with_reducible exact hs
    | exact rfl
    | exact fun _ => rfl
    | with_reducible apply hk.toKept.raised
    | with_reducible apply withRouter_keeps hk.toKept
    | split

theorem measurePeriod_keeps {P : State → Prop} {counted : Bool} {c : Nat} {s : State} (hk : Moves P) (hs : P s) :
    P (measurePeriod counted c s) := by
  unfold measurePeriod periodRpm
  dsimp only
  refine sagPeriod_keeps hk (qualifyPeriod_keeps hk (withSpindle_keeps hk.toKept rfl ?_))
  split
  · exact withFree_keeps hk.toKept hs
  · exact hs

theorem noteEdge_keeps {P : State → Prop} {rz : Raiser} {time : Nat} {s : State} (hk : Kept P rz) (hs : P s) :
    P (noteEdge time s) := by
  unfold noteEdge
  dsimp only
  repeat' first
    | with_reducible exact hs
    | exact rfl
    | exact fun _ => rfl
    | with_reducible refine withSpindle_keeps hk ?_ ?_

theorem tachRises_keeps {P : State → Prop} {time : Nat} {s : State} (hk : Moves P) (hs : P s) :
    P (tachRises time s) := by
  unfold tachRises
  dsimp only
  repeat' first
    | with_reducible exact hs
    | exact rfl
    | exact fun _ => rfl
    | with_reducible apply measurePeriod_keeps hk
    | with_reducible apply noteEdge_keeps hk.toKept
    | split

theorem tachSilent_keeps {P : State → Prop} {s : State} (hk : Moves P) (hs : P s) :
    P (tachSilent s) := by
  unfold tachSilent
  apply hk.toKept.raised
  split
  · next h => exact hk.respun h hs
  · exact withSpindle_keeps hk.toKept rfl hs

theorem blowEnds_keeps {P : State → Prop} {s : State} (hk : Moves P) (hs : P s) :
    P (blowEnds s) := by
  unfold blowEnds
  dsimp only
  repeat' first
    | with_reducible exact hs
    | exact rfl
    | exact fun _ => rfl
    | with_reducible apply placementConfirmed_keeps hk
    | with_reducible apply withPicker_keeps hk.toKept
    | with_reducible refine withOutputs_keeps hk.toKept ?_ ?_
    | split

theorem windowEnds_keeps {P : State → Prop} {s : State} (hk : Moves P) (hs : P s) :
    P (windowEnds s) := by
  unfold windowEnds
  try dsimp only
  repeat' first
    | with_reducible exact hs
    | exact rfl
    | exact fun _ => rfl
    | with_reducible apply placementRefused_keeps hk.toKept
    | with_reducible apply hk.toKept.raised
    | split

section
variable {P : State → Prop}

/-- A raise keeps what raiseRecord keeps, where turning the spindle off for a new ALL_STOP keeps it as well. -/
theorem Kept.raise (h : Kept P raiseRecord) (hh : ∀ {s : State}, P s → P (haltSpindle s)) {src : Source} {d : Detail}
    {s : State} (hs : P s) : P (Machine.raise src d s) := by
  unfold Machine.raise
  dsimp only
  split
  · exact interruptRouter_keeps h (haltStacker_keeps h (stallMove_keeps h (hh (h.raised hs))))
  · exact h.raised hs

/-- Any move that leaves the view as it was may be made under any raiser that keeps the property. -/
theorem Kept.withRaiser {r r' : Raiser} (h : Kept P r) (hr : ∀ {src d s}, P s → P (r' src d s)) : Kept P r' :=
  { quiet := h.quiet, raised := hr, fewer := h.fewer }

theorem resetAll_keeps {s : State} (hk : Moves P) (hs : P s) : P (resetAll s) := by
  have h0 : P (resetWear (resetNotices s)) := by
    have h := resetNotices_keeps hk.toKept hs
    unfold resetWear
    split
    · split
      · exact addWear_keeps hk.toKept.noRaise h
      · exact h
    · exact h
  have h1 : P (resetBay .b (pushedSlot s .b) (resetBay .a (pushedSlot s .a)
      (resetCell (resetUnits (resetWear (resetNotices s)))))) :=
    resetBay_keeps hk (resetBay_keeps hk (hk.cleared h0))
  unfold resetAll
  exact raiseStanding_keeps hk (raiseStanding_keeps hk (raiseStanding_keeps hk
    (foldl_keeps (fun _ _ hs => resetAux_keeps hk.toKept hs) (foldl_keeps (fun _ _ hs => resetLine_keeps hk hs) h1))))

/-! ### Requests -/

theorem refuseField_keeps {f : FieldFail} {s : State} (hs : P s) : P (refuseField f s).1 := by
  cases f <;> exact hs

theorem takeRequest_keeps (hk : Moves P) {kind : Byte} {ok : Bool} {h : Handler} {tag : Byte} {body : List Byte}
    {s : State} (hh : P (h body s).1) (hs : P s) : P (takeRequest kind ok h tag body s) := by
  unfold takeRequest answerTo fillSlot
  split
  · dsimp only
    split
    · exact withLink_keeps hk.toKept hh
    · exact withLink_keeps hk.toKept hs
  · split
    · exact withLink_keeps hk.toKept hs
    · exact raiseNotice_keeps hk.toKept hs

theorem statusQuery_keeps {body : List Byte} {s : State} (hk : Moves P) (hs : P s) : P (statusQuery body s).1 :=
  hk.toKept.masked (statusQuery_mask body s) hs

theorem tableRead_keeps {body : List Byte} {s : State} (hk : Moves P) (hs : P s) : P (tableRead body s).1 :=
  hk.toKept.masked (tableRead_mask body s rfl) hs

theorem boardDefine_keeps {body : List Byte} {s : State} (hk : Moves P) (hs : P s) : P (boardDefine body s).1 :=
  hk.toKept.masked (boardDefine_mask body s rfl) hs

theorem tabDefine_keeps {body : List Byte} {s : State} (hk : Moves P) (hs : P s) : P (tabDefine body s).1 :=
  hk.toKept.masked (tabDefine_mask body s rfl) hs

theorem profileDefine_keeps {body : List Byte} {s : State} (hk : Moves P) (hs : P s) : P (profileDefine body s).1 :=
  hk.toKept.masked (profileDefine_mask body s rfl) hs

theorem bitSet_keeps {body : List Byte} {s : State} (hk : Moves P) (hs : P s) : P (bitSet body s).1 :=
  hk.toKept.masked (bitSet_mask body s rfl rfl) hs

theorem feedOverride_keeps {body : List Byte} {s : State} (hk : Moves P) (hs : P s) : P (feedOverride body s).1 :=
  hk.toKept.masked (feedOverride_mask body s rfl) hs

theorem probeSettings_keeps {body : List Byte} {s : State} (hk : Moves P) (hs : P s) : P (probeSettings body s).1 :=
  hk.toKept.masked (probeSettings_mask body s rfl) hs

theorem spindleTiming_keeps {body : List Byte} {s : State} (hk : Moves P) (hs : P s) : P (spindleTiming body s).1 :=
  hk.toKept.masked (spindleTiming_mask body s rfl) hs

theorem pickerTiming_keeps {body : List Byte} {s : State} (hk : Moves P) (hs : P s) : P (pickerTiming body s).1 :=
  hk.toKept.masked (pickerTiming_mask body s rfl) hs

theorem auxConfigure_keeps {body : List Byte} {s : State} (hk : Moves P) (hs : P s) : P (auxConfigure body s).1 :=
  hk.toKept.masked (auxConfigure_mask body s rfl rfl rfl) hs

theorem noticeEnable_keeps {body : List Byte} {s : State} (hk : Moves P) (hs : P s) : P (noticeEnable body s).1 :=
  hk.toKept.masked (noticeEnable_mask body s rfl) hs

theorem noticeClear_keeps {body : List Byte} {s : State} (hk : Moves P) (hs : P s) : P (noticeClear body s).1 :=
  hk.toKept.masked (noticeClear_mask body s rfl rfl rfl rfl) hs

theorem recipeBegin_keeps {body : List Byte} {s : State} (hk : Moves P) (hs : P s) : P (recipeBegin body s).1 := by
  unfold recipeBegin
  split
  · exact hs
  · exact unconfigure_keeps hk (discardRuntime_keeps hk.toKept (withRecipe_keeps hk.toKept hs))

theorem recipeClose_keeps {body : List Byte} {s : State} (hk : Moves P) (hs : P s) : P (recipeClose body s).1 := by
  unfold recipeClose
  dsimp only
  repeat' split
  all_goals first
    | exact hs
    | exact configure_keeps hk (withRecipe_keeps hk.toKept hs)

theorem panelStart_keeps {body : List Byte} {s : State} (hk : Moves P) (hs : P s) : P (panelStart body s).1 := by
  unfold panelStart
  dsimp only
  split
  · exact hs
  · next h1 =>
    split
    · exact hs
    · split
      · exact hs
      · next h2 =>
        split
        · exact hs
        · next h3 =>
          split
          · exact hs
          · split
            · exact hs
            · split
              · exact hs
              · dsimp only [done]
                exact startPanel_keeps hk (Decidable.not_not.mp h1) (Nat.lt_of_not_le h2)
                  (fun y hy e => h3 (List.any_eq_true.mpr ⟨y, hy, decide_eq_true e⟩)) hs

theorem holdAtBoundary_keeps {body : List Byte} {s : State} (hk : Moves P) (hs : P s) :
    P (holdAtBoundary body s).1 := by
  unfold holdAtBoundary
  split
  · dsimp only [done]
    split
    · exact takeHold_keeps hk hs
    · exact takeHold_keeps hk hs
    · exact hs
  · exact hs

theorem resumeCell_keeps {body : List Byte} {s : State} (hk : Moves P) (hs : P s) : P (resumeCell body s).1 := by
  unfold resumeCell
  split
  · exact hk.entered _ (clearNotice_keeps hk.toKept (withCell_keeps hk.toKept rfl hs))
  · exact hk.entered _ (clearNotice_keeps hk.toKept (withCell_keeps hk.toKept rfl hs))
  · split
    · exact hs
    · exact hk.resumed hs
  all_goals exact hs

theorem panelStop_keeps {body : List Byte} {s : State} (hk : Moves P) (hs : P s) : P (panelStop body s).1 := by
  unfold panelStop
  split
  · split
    · exact hs
    · exact stopPanel_keeps hk hs
  · exact hs

theorem parkRequest_keeps {body : List Byte} {s : State} (hk : Moves P) (hs : P s) : P (parkRequest body s).1 := by
  unfold parkRequest
  split
  · exact parkCell_keeps hk hs
  · exact parkCell_keeps hk hs
  all_goals exact hs

theorem wakeRequest_keeps {body : List Byte} {s : State} (hk : Moves P) (hs : P s) : P (wakeRequest body s).1 := by
  unfold wakeRequest
  split
  · next h => exact hk.woken h hs
  · exact hs

theorem bayLoad_keeps {body : List Byte} {s : State} (hk : Moves P) (hs : P s) : P (bayLoad body s).1 := by
  unfold bayLoad
  split
  · exact hs
  · split
    · exact hs
    · exact hs
    · exact hs
    all_goals
      split
      · exact hs
      · split
        · exact hs
        · exact clearNotice_keeps hk.toKept (clearNotice_keeps hk.toKept (loadBay_keeps hk hs))

theorem bayRetire_keeps {body : List Byte} {s : State} (hk : Moves P) (hs : P s) : P (bayRetire body s).1 := by
  unfold bayRetire
  split
  · exact hs
  · dsimp only
    split
    · exact completeBay_keeps hk hs
    · split
      · exact setBay_same hk.toKept rfl hs
      · exact retireNow_keeps hk hs
    all_goals exact hs

theorem lineConfigure_keeps {body : List Byte} {s : State} (hk : Moves P) (hs : P s) :
    P (lineConfigure body s).1 := by
  unfold lineConfigure
  split
  all_goals first
    | exact hs
    | exact handOver_keeps hk (restartDed_keeps hk.toKept hs)

theorem faultLevelSet_keeps {body : List Byte} {s : State} (hk : Moves P) (hs : P s) :
    P (faultLevelSet body s).1 := by
  unfold faultLevelSet
  split
  · exact hs
  · split
    · exact hs
    · split
      · exact hs
      · exact hk.levelled (by omega) hs

theorem faultAcknowledge_keeps {body : List Byte} {s : State} (hk : Moves P) (hs : P s) :
    P (faultAcknowledge body s).1 := by
  unfold faultAcknowledge
  split
  · exact hs
  · split
    · exact hs
    · next h =>
      split
      · exact hs
      · split
        · exact hs
        · exact hk.acknowledged h hs

theorem cellResetRequest_keeps {body : List Byte} {s : State} (hk : Moves P) (hs : P s) :
    P (cellResetRequest body s).1 := by
  dsimp only [cellResetRequest, done]
  exact resetAll_keeps hk hs

theorem unitClear_keeps {body : List Byte} {s : State} (hk : Moves P) (hs : P s) : P (unitClear body s).1 := by
  unfold unitClear
  split
  · exact hs
  · split
    · exact hs
    · next lo hi clear h =>
      dsimp only [done]
      unfold unitOf at h
      split at h <;> simp only [Option.some.injEq, Prod.mk.injEq, reduceCtorEq] at h
      all_goals
        obtain ⟨rfl, rfl, rfl⟩ := h
      · exact clearRouter_keeps hk (hk.pruned hs)
      · exact clearPicker_keeps hk (hk.pruned hs)
      · exact clearStacker_keeps hk (hk.pruned hs)

theorem takeStatusQuery_keeps {tag : Byte} {body : List Byte} {s : State} (hk : Moves P) (hs : P s) :
    P (takeStatusQuery tag body s) :=
  takeRequest_keeps hk (statusQuery_keeps hk hs) hs

theorem takeTableRead_keeps {tag : Byte} {body : List Byte} {s : State} (hk : Moves P) (hs : P s) :
    P (takeTableRead tag body s) :=
  takeRequest_keeps hk (tableRead_keeps hk hs) hs

theorem takeCellReset_keeps {tag : Byte} {body : List Byte} {s : State} (hk : Moves P) (hs : P s) :
    P (takeCellReset tag body s) :=
  takeRequest_keeps hk (cellResetRequest_keeps hk hs) hs

theorem takeRecipeBegin_keeps {tag : Byte} {body : List Byte} {s : State} (hk : Moves P) (hs : P s) :
    P (takeRecipeBegin tag body s) :=
  takeRequest_keeps hk (recipeBegin_keeps hk hs) hs

theorem takeBoardDefine_keeps {tag : Byte} {body : List Byte} {s : State} (hk : Moves P) (hs : P s) :
    P (takeBoardDefine tag body s) :=
  takeRequest_keeps hk (boardDefine_keeps hk hs) hs

theorem takeTabDefine_keeps {tag : Byte} {body : List Byte} {s : State} (hk : Moves P) (hs : P s) :
    P (takeTabDefine tag body s) :=
  takeRequest_keeps hk (tabDefine_keeps hk hs) hs

theorem takeRecipeClose_keeps {tag : Byte} {body : List Byte} {s : State} (hk : Moves P) (hs : P s) :
    P (takeRecipeClose tag body s) :=
  takeRequest_keeps hk (recipeClose_keeps hk hs) hs

theorem takeProfileDefine_keeps {tag : Byte} {body : List Byte} {s : State} (hk : Moves P) (hs : P s) :
    P (takeProfileDefine tag body s) :=
  takeRequest_keeps hk (profileDefine_keeps hk hs) hs

theorem takePanelStart_keeps {tag : Byte} {body : List Byte} {s : State} (hk : Moves P) (hs : P s) :
    P (takePanelStart tag body s) :=
  takeRequest_keeps hk (panelStart_keeps hk hs) hs

theorem takeHoldAtBoundary_keeps {tag : Byte} {body : List Byte} {s : State} (hk : Moves P) (hs : P s) :
    P (takeHoldAtBoundary tag body s) :=
  takeRequest_keeps hk (holdAtBoundary_keeps hk hs) hs

theorem takeResume_keeps {tag : Byte} {body : List Byte} {s : State} (hk : Moves P) (hs : P s) :
    P (takeResume tag body s) :=
  takeRequest_keeps hk (resumeCell_keeps hk hs) hs

theorem takePanelStop_keeps {tag : Byte} {body : List Byte} {s : State} (hk : Moves P) (hs : P s) :
    P (takePanelStop tag body s) :=
  takeRequest_keeps hk (panelStop_keeps hk hs) hs

theorem takePark_keeps {tag : Byte} {body : List Byte} {s : State} (hk : Moves P) (hs : P s) :
    P (takePark tag body s) :=
  takeRequest_keeps hk (parkRequest_keeps hk hs) hs

theorem takeWake_keeps {tag : Byte} {body : List Byte} {s : State} (hk : Moves P) (hs : P s) :
    P (takeWake tag body s) :=
  takeRequest_keeps hk (wakeRequest_keeps hk hs) hs

theorem takeBitSet_keeps {tag : Byte} {body : List Byte} {s : State} (hk : Moves P) (hs : P s) :
    P (takeBitSet tag body s) :=
  takeRequest_keeps hk (bitSet_keeps hk hs) hs

theorem takeSpindleSpeed_keeps {tag : Byte} {body : List Byte} {s : State} (hk : Moves P) (hs : P s) :
    P (takeSpindleSpeed tag body s) :=
  takeRequest_keeps hk (hk.speed hs) hs

theorem takeFeedOverride_keeps {tag : Byte} {body : List Byte} {s : State} (hk : Moves P) (hs : P s) :
    P (takeFeedOverride tag body s) :=
  takeRequest_keeps hk (feedOverride_keeps hk hs) hs

theorem takeProbeSettings_keeps {tag : Byte} {body : List Byte} {s : State} (hk : Moves P) (hs : P s) :
    P (takeProbeSettings tag body s) :=
  takeRequest_keeps hk (probeSettings_keeps hk hs) hs

theorem takeSpindleTiming_keeps {tag : Byte} {body : List Byte} {s : State} (hk : Moves P) (hs : P s) :
    P (takeSpindleTiming tag body s) :=
  takeRequest_keeps hk (spindleTiming_keeps hk hs) hs

theorem takePickerTiming_keeps {tag : Byte} {body : List Byte} {s : State} (hk : Moves P) (hs : P s) :
    P (takePickerTiming tag body s) :=
  takeRequest_keeps hk (pickerTiming_keeps hk hs) hs

theorem takeBayLoad_keeps {tag : Byte} {body : List Byte} {s : State} (hk : Moves P) (hs : P s) :
    P (takeBayLoad tag body s) :=
  takeRequest_keeps hk (bayLoad_keeps hk hs) hs

theorem takeBayRetire_keeps {tag : Byte} {body : List Byte} {s : State} (hk : Moves P) (hs : P s) :
    P (takeBayRetire tag body s) :=
  takeRequest_keeps hk (bayRetire_keeps hk hs) hs

theorem takeLineConfigure_keeps {tag : Byte} {body : List Byte} {s : State} (hk : Moves P) (hs : P s) :
    P (takeLineConfigure tag body s) :=
  takeRequest_keeps hk (lineConfigure_keeps hk hs) hs

theorem takeAuxConfigure_keeps {tag : Byte} {body : List Byte} {s : State} (hk : Moves P) (hs : P s) :
    P (takeAuxConfigure tag body s) :=
  takeRequest_keeps hk (auxConfigure_keeps hk hs) hs

theorem takeFaultLevelSet_keeps {tag : Byte} {body : List Byte} {s : State} (hk : Moves P) (hs : P s) :
    P (takeFaultLevelSet tag body s) :=
  takeRequest_keeps hk (faultLevelSet_keeps hk hs) hs

theorem takeFaultAcknowledge_keeps {tag : Byte} {body : List Byte} {s : State} (hk : Moves P) (hs : P s) :
    P (takeFaultAcknowledge tag body s) :=
  takeRequest_keeps hk (faultAcknowledge_keeps hk hs) hs

theorem takeUnitClear_keeps {tag : Byte} {body : List Byte} {s : State} (hk : Moves P) (hs : P s) :
    P (takeUnitClear tag body s) :=
  takeRequest_keeps hk (unitClear_keeps hk hs) hs

theorem takeNoticeEnable_keeps {tag : Byte} {body : List Byte} {s : State} (hk : Moves P) (hs : P s) :
    P (takeNoticeEnable tag body s) :=
  takeRequest_keeps hk (noticeEnable_keeps hk hs) hs

theorem takeNoticeClear_keeps {tag : Byte} {body : List Byte} {s : State} (hk : Moves P) (hs : P s) :
    P (takeNoticeClear tag body s) :=
  takeRequest_keeps hk (noticeClear_keeps hk hs) hs

theorem takeBadKind_keeps {kind tag : Byte} {body : List Byte} {s : State} (hk : Moves P) (hs : P s) :
    P (takeBadKind kind tag body s) :=
  takeRequest_keeps hk (h := fun _ s => refuse .badKind s) hs hs

theorem requestCompletes_keeps {kind tag : Byte} {body : List Byte} {s : State} (hk : Moves P) (hs : P s) :
    P (requestCompletes kind tag body s) := by
  unfold requestCompletes
  split
  · exact takeStatusQuery_keeps hk hs
  · exact takeTableRead_keeps hk hs
  · exact takeCellReset_keeps hk hs
  · exact takeRecipeBegin_keeps hk hs
  · exact takeBoardDefine_keeps hk hs
  · exact takeTabDefine_keeps hk hs
  · exact takeRecipeClose_keeps hk hs
  · exact takeProfileDefine_keeps hk hs
  · exact takePanelStart_keeps hk hs
  · exact takeHoldAtBoundary_keeps hk hs
  · exact takeResume_keeps hk hs
  · exact takePanelStop_keeps hk hs
  · exact takePark_keeps hk hs
  · exact takeWake_keeps hk hs
  · exact takeBitSet_keeps hk hs
  · exact takeSpindleSpeed_keeps hk hs
  · exact takeFeedOverride_keeps hk hs
  · exact takeProbeSettings_keeps hk hs
  · exact takeSpindleTiming_keeps hk hs
  · exact takePickerTiming_keeps hk hs
  · exact takeBayLoad_keeps hk hs
  · exact takeBayRetire_keeps hk hs
  · exact takeLineConfigure_keeps hk hs
  · exact takeAuxConfigure_keeps hk hs
  · exact takeFaultLevelSet_keeps hk hs
  · exact takeFaultAcknowledge_keeps hk hs
  · exact takeUnitClear_keeps hk hs
  · exact takeNoticeEnable_keeps hk hs
  · exact takeNoticeClear_keeps hk hs
  · exact takeBadKind_keeps hk hs

/-! ### The line -/

theorem frameComplete_keeps {bytes : List Byte} {s : State} (hk : Moves P) (hs : P s) : P (frameComplete bytes s) := by
  unfold frameComplete
  dsimp only
  split
  · exact requestCompletes_keeps hk (setRx_keeps hk.toKept hs)
  · exact linkGarbled_keeps hk.toKept (setRx_keeps hk.toKept hs)

theorem rxByte_keeps {b : Byte} {ok : Bool} {s : State} (hk : Moves P) (hs : P s) : P (rxByte b ok s) := by
  unfold rxByte
  split
  · split
    · exact setRx_keeps hk.toKept hs
    · exact hs
  · exact hs
  · split
    · unfold assembleByte
      split
      · exact finish_keeps hk (linkGarbled_keeps hk.toKept (setRx_keeps hk.toKept hs))
      · split
        · exact finish_keeps hk (frameComplete_keeps hk hs)
        · exact setRx_keeps hk.toKept hs
    · exact finish_keeps hk (linkGarbled_keeps hk.toKept (setRx_keeps hk.toKept hs))

theorem frameDamage_keeps {d : Damage} {s : State} (hk : Moves P) (hs : P s) : P (frameDamage d s) := by
  unfold frameDamage
  split
  · exact finish_keeps hk (linkGarbled_keeps hk.toKept (setRx_keeps hk.toKept hs))
  all_goals exact hs

theorem acceptEdge_keeps {l : Fin 16} {s : State} (hk : Moves P) (hs : P s) : P (acceptEdge l s) :=
  acceptLine_keeps hk (acceptLine_keeps hk hs)

theorem namedDone_keeps {k : Order → Bool} {port : Port} {l : Fin 16} {s : State} (hk : Moves P) (hs : P s) :
    P (namedDone k port l s) := by
  unfold namedDone
  split
  · split
    · exact acceptEdge_keeps hk hs
    · exact hs
  · exact acceptEdge_keeps hk hs

/-! ### Every command -/

theorem ite_keeps {c : Prop} [Decidable c] {t s : State} (ht : c → P t) (hs : P s) : P (if c then t else s) := by
  split
  · next h => exact ht h
  · exact hs

/-- Every command keeps what the primitive moves keep. -/
theorem exec_keeps (hk : Moves P) {i : Instr} {s t : State} (h : exec i s = .next t) (hs : P s) : P t := by
  have done {u : State} (e : exec i s = .next u) (hu : P u) : P t := by
    rw [e] at h
    exact Host.Outcome.next.inj h ▸ hu
  cases i with
  | powerOn => exact done rfl (hk.quiet (s := State.reset) (t := { State.reset with pending := s.pending, free := s.free }) rfl hk.fresh)
  | frameReceived bytes => exact done rfl (foldl_keeps (fun _ _ hs => rxByte_keeps hk hs) hs)
  | frameDamaged d => exact done rfl (frameDamage_keeps hk hs)
  | byteGapTimeout =>
    refine done rfl ?_
    split
    · exact setRx_keeps hk.toKept hs
    all_goals exact hs
  | resyncQuietTimeout =>
    refine done rfl ?_
    split
    · exact setRx_keeps hk.toKept hs
    all_goals exact hs
  | frameSent => exact done rfl (finish_keeps hk (frameEnds_keeps hk.toKept hs))

  | statusQuery tag body => exact done rfl (finish_keeps hk (takeStatusQuery_keeps hk hs))
  | tableRead tag body => exact done rfl (finish_keeps hk (takeTableRead_keeps hk hs))
  | cellReset tag body => exact done rfl (finish_keeps hk (takeCellReset_keeps hk hs))
  | recipeBegin tag body => exact done rfl (finish_keeps hk (takeRecipeBegin_keeps hk hs))
  | boardDefine tag body => exact done rfl (finish_keeps hk (takeBoardDefine_keeps hk hs))
  | tabDefine tag body => exact done rfl (finish_keeps hk (takeTabDefine_keeps hk hs))
  | recipeClose tag body => exact done rfl (finish_keeps hk (takeRecipeClose_keeps hk hs))
  | profileDefine tag body => exact done rfl (finish_keeps hk (takeProfileDefine_keeps hk hs))
  | panelStart tag body => exact done rfl (finish_keeps hk (takePanelStart_keeps hk hs))
  | holdAtBoundary tag body => exact done rfl (finish_keeps hk (takeHoldAtBoundary_keeps hk hs))
  | resume tag body => exact done rfl (finish_keeps hk (takeResume_keeps hk hs))
  | panelStop tag body => exact done rfl (finish_keeps hk (takePanelStop_keeps hk hs))
  | park tag body => exact done rfl (finish_keeps hk (takePark_keeps hk hs))
  | wake tag body => exact done rfl (finish_keeps hk (takeWake_keeps hk hs))
  | bitSet tag body => exact done rfl (finish_keeps hk (takeBitSet_keeps hk hs))
  | spindleSpeed tag body => exact done rfl (finish_keeps hk (takeSpindleSpeed_keeps hk hs))
  | feedOverride tag body => exact done rfl (finish_keeps hk (takeFeedOverride_keeps hk hs))
  | probeSettings tag body => exact done rfl (finish_keeps hk (takeProbeSettings_keeps hk hs))
  | spindleTiming tag body => exact done rfl (finish_keeps hk (takeSpindleTiming_keeps hk hs))
  | pickerTiming tag body => exact done rfl (finish_keeps hk (takePickerTiming_keeps hk hs))
  | bayLoad tag body => exact done rfl (finish_keeps hk (takeBayLoad_keeps hk hs))
  | bayRetire tag body => exact done rfl (finish_keeps hk (takeBayRetire_keeps hk hs))
  | lineConfigure tag body => exact done rfl (finish_keeps hk (takeLineConfigure_keeps hk hs))
  | auxConfigure tag body => exact done rfl (finish_keeps hk (takeAuxConfigure_keeps hk hs))
  | faultLevelSet tag body => exact done rfl (finish_keeps hk (takeFaultLevelSet_keeps hk hs))
  | faultAcknowledge tag body => exact done rfl (finish_keeps hk (takeFaultAcknowledge_keeps hk hs))
  | unitClear tag body => exact done rfl (finish_keeps hk (takeUnitClear_keeps hk hs))
  | noticeEnable tag body => exact done rfl (finish_keeps hk (takeNoticeEnable_keeps hk hs))
  | noticeClear tag body => exact done rfl (finish_keeps hk (takeNoticeClear_keeps hk hs))
  | idleParkTimeout => exact done rfl (finish_keeps hk (ite_keeps (fun _ => parkCell_keeps hk hs) hs))
  | cutComplete => exact done rfl (finish_keeps hk (namedDone_keeps hk hs))
  | moveClearDone => exact done rfl (finish_keeps hk (namedDone_keeps hk hs))
  | probeMoveDone => exact done rfl (finish_keeps hk (namedDone_keeps hk hs))
  | approachDone => exact done rfl (finish_keeps hk (namedDone_keeps hk hs))
  | carryDone => exact done rfl (finish_keeps hk (namedDone_keeps hk hs))
  | homeDone => exact done rfl (finish_keeps hk (namedDone_keeps hk hs))
  | fromNestDone => exact done rfl (finish_keeps hk (namedDone_keeps hk hs))
  | elevateDone => exact done rfl (finish_keeps hk (namedDone_keeps hk hs))
  | toMouthDone => exact done rfl (finish_keeps hk (namedDone_keeps hk hs))
  | toChuteDone => exact done rfl (finish_keeps hk (namedDone_keeps hk hs))
  | cutTimeout => exact done rfl (finish_keeps hk (ite_keeps (fun _ => interruptRouter_keeps hk.toKept hs) hs))
  | moveClearTimeout => exact done rfl (finish_keeps hk (ite_keeps (fun _ => interruptRouter_keeps hk.toKept hs) hs))
  | probeMoveTimeout => exact done rfl (finish_keeps hk (ite_keeps (fun _ => interruptRouter_keeps hk.toKept hs) hs))
  | tachEdge t => exact done rfl (finish_keeps hk (tachRises_keeps hk hs))
  | stabilisationTimeout => exact done rfl (finish_keeps hk (ite_keeps (fun _ => withSpindle_keeps hk.toKept rfl hs) hs))
  | spinupTimeout => exact done rfl (finish_keeps hk (ite_keeps (fun _ => hk.raised (withSpindle_keeps hk.toKept rfl hs)) hs))
  | tachLost => exact done rfl (finish_keeps hk (ite_keeps (fun _ => tachSilent_keeps hk hs) hs))
  | settleTimeout => exact done rfl (finish_keeps hk (ite_keeps (fun _ => checkPoint_keeps hk.toKept hs) hs))
  | pickerMoveTimeout => exact done rfl (finish_keeps hk (ite_keeps (fun _ => hk.raised (stallMove_keeps hk.toKept hs)) hs))
  | gripTimeout => exact done rfl (finish_keeps hk (ite_keeps (fun _ => ite_keeps (fun _ => gripFails_keeps hk.toKept hs) (vacuumPause_keeps hk.toKept hs)) hs))
  | vacuumOffTimeout => exact done rfl (finish_keeps hk (ite_keeps (fun _ => startGrip_keeps hk.toKept hs) hs))
  | vacuumOkAssert => exact done rfl (finish_keeps hk (acceptLine_keeps hk hs))
  | vacuumOkDeassert => exact done rfl (finish_keeps hk (acceptLine_keeps hk hs))
  | blowOffTimeout => exact done rfl (finish_keeps hk (ite_keeps (fun _ => blowEnds_keeps hk hs) hs))
  | nestWindowTimeout => exact done rfl (finish_keeps hk (ite_keeps (fun _ => windowEnds_keeps hk hs) hs))
  | nestLineAssert n => exact done rfl (finish_keeps hk (acceptLine_keeps hk hs))
  | nestLineDeassert n => exact done rfl (finish_keeps hk (acceptLine_keeps hk hs))
  | transferTimeout => exact done rfl (finish_keeps hk (ite_keeps (fun _ => transferTimesOut_keeps hk.toKept hs) hs))
  | elevatorTimeout => exact done rfl (finish_keeps hk (ite_keeps (fun _ => elevatorTimesOut_keeps hk.toKept hs) hs))
  | pusherHomeAssert => exact done rfl (finish_keeps hk (acceptLine_keeps hk hs))
  | pusherHomeDeassert => exact done rfl (finish_keeps hk (acceptLine_keeps hk hs))
  | homeWaitTimeout => exact done rfl (finish_keeps hk (ite_keeps (fun _ => pushFails_keeps hk hs) hs))
  | leaveTimeout => exact done rfl (finish_keeps hk (ite_keeps (fun _ => pushFails_keeps hk hs) hs))
  | returnTimeout => exact done rfl (finish_keeps hk (ite_keeps (fun _ => pushFails_keeps hk hs) hs))
  | chutePass => exact done rfl (finish_keeps hk (acceptEdge_keeps hk hs))
  | chuteWindowTimeout => exact done rfl (finish_keeps hk (ite_keeps (fun _ => chuteMissed_keeps hk.toKept hs) hs))
  | bayPresentAssert x => exact done rfl (finish_keeps hk (acceptLine_keeps hk hs))
  | bayPresentDeassert x => exact done rfl (finish_keeps hk (acceptLine_keeps hk hs))
  | stopChainOpen => exact done rfl (finish_keeps hk (acceptStop_keeps hk hs))
  | stopChainClosed => exact done rfl (finish_keeps hk (acceptStop_keeps hk hs))
  | driveFaultChange v => exact done rfl (finish_keeps hk (acceptLine_keeps hk hs))
  | doorClosedChange v => exact done rfl (finish_keeps hk (acceptLine_keeps hk hs))
  | auxLineAccept n v => exact done rfl (finish_keeps hk (acceptAux_keeps hk.toKept hs))
  | lineAcceptance l v => exact done rfl (finish_keeps hk (acceptLine_keeps hk hs))
  | byteReceived b ok => exact done rfl (rxByte_keeps hk hs)
  | spindleCoastTimeout =>
    refine done rfl (finish_keeps hk (ite_keeps (fun hc => ?_) hs))
    exact ite_keeps (fun _ => raiseParked_keeps hk.toKept (hk.coasted hc rfl rfl hs)) (hk.coasted hc rfl rfl hs)
  | tachWatchArm =>
    refine done rfl (finish_keeps hk ?_)
    split
    · exact withSpindle_keeps hk.toKept rfl hs
    · exact withSpindle_keeps hk.toKept rfl hs
    all_goals exact hs
  | nestClearWindowTimeout =>
    refine done rfl (finish_keeps hk ?_)
    split
    · exact ite_keeps (fun _ => fetchFails_keeps hk.toKept hs) hs
    · exact hs

/-- Every step keeps what the primitive moves keep. -/
theorem step_keeps (hk : Moves P) {s t : State} (h : step s = .next t) (hs : P s) : P t := by
  unfold step at h
  split at h
  · exact Host.Outcome.next.inj h ▸ hs
  · exact exec_keeps hk h (withPending_keeps hk.toKept hs)

end

end Sys2Proof.Machine
end

