-- ==== Sys2Proof/WellFormed.lean ====
section
/-! DEFINITION. What a command's operands must be for an outside event to carry them. -/

namespace Sys2Proof

/-- A body the envelope can carry: 0 to 512 bytes (R2). -/
def bodyFits (body : List Byte) : Bool := decide (body.length ≤ 512)

/-- A command that can reach the part. The meanings are total: they do not read this check. -/
def wellFormed : Instr → Bool
  | .frameReceived bytes => decide (1 ≤ bytes.length) && decide (bytes.length ≤ 519)
  | .statusQuery _ body | .tableRead _ body | .cellReset _ body | .recipeBegin _ body => bodyFits body
  | .boardDefine _ body | .tabDefine _ body | .recipeClose _ body | .profileDefine _ body => bodyFits body
  | .panelStart _ body | .holdAtBoundary _ body | .resume _ body | .panelStop _ body => bodyFits body
  | .park _ body | .wake _ body | .bitSet _ body | .spindleSpeed _ body => bodyFits body
  | .feedOverride _ body | .probeSettings _ body | .spindleTiming _ body | .pickerTiming _ body => bodyFits body
  | .bayLoad _ body | .bayRetire _ body | .lineConfigure _ body | .auxConfigure _ body => bodyFits body
  | .faultLevelSet _ body | .faultAcknowledge _ body | .unitClear _ body => bodyFits body
  | .noticeEnable _ body | .noticeClear _ body => bodyFits body
  | .powerOn | .frameDamaged _ | .byteGapTimeout | .resyncQuietTimeout | .frameSent => true
  | .idleParkTimeout | .cutComplete | .cutTimeout | .moveClearDone | .moveClearTimeout => true
  | .tachEdge _ | .stabilisationTimeout | .spinupTimeout | .spindleCoastTimeout => true
  | .tachLost | .tachWatchArm | .probeMoveDone | .probeMoveTimeout | .settleTimeout => true
  | .approachDone | .carryDone | .homeDone | .pickerMoveTimeout | .gripTimeout => true
  | .vacuumOffTimeout | .vacuumOkAssert | .vacuumOkDeassert | .blowOffTimeout => true
  | .nestWindowTimeout | .nestLineAssert _ | .nestLineDeassert _ | .fromNestDone => true
  | .nestClearWindowTimeout | .elevateDone | .toMouthDone | .toChuteDone => true
  | .transferTimeout | .elevatorTimeout | .pusherHomeAssert | .pusherHomeDeassert => true
  | .homeWaitTimeout | .leaveTimeout | .returnTimeout | .chutePass | .chuteWindowTimeout => true
  | .bayPresentAssert _ | .bayPresentDeassert _ | .stopChainOpen | .stopChainClosed => true
  | .driveFaultChange _ | .doorClosedChange _ | .auxLineAccept _ _ => true
  | .byteReceived _ _ | .lineAcceptance _ _ => true

end Sys2Proof
end

