-- ==== Sys2Proof/Laws/PerInstr.lean ====
section
/-! SUPPORT. Per command, as syntax: the frame a request command stands for. -/

namespace Sys2Proof.Laws.Request

open Sys2Proof.Machine

/-- A request command stands for a frame of a request code (bit 7 clear, R8), it is well formed exactly where its body
fits the envelope (R2), and every body length its kind accepts fits (R9). -/
def Statement (i : Instr) : Prop :=
  ∀ (kind tag : Byte) (body : List Byte), requestOf i = some (kind, tag, body) →
    kind.toNat < 128 ∧ (wellFormed i = true ↔ body.length ≤ 512) ∧
      (lengthAccepted kind body.length = true → body.length ≤ 512)

/-- No kind accepts a body longer than the envelope carries (R2, R9). -/
theorem lengthAccepted_fits {kind : Byte} {n : Nat} (h : lengthAccepted kind n = true) : n ≤ 512 := by
  unfold lengthAccepted at h
  split at h <;> simp at h <;> omega

theorem of_request {i : Instr} {k t : Byte} {b : List Byte} (h : requestOf i = some (k, t, b)) (hk : k.toNat < 128)
    (hw : wellFormed i = bodyFits b) : Statement i := by
  intro kind tag body e
  rw [h] at e
  simp only [Option.some.injEq, Prod.mk.injEq] at e
  obtain ⟨rfl, rfl, rfl⟩ := e
  exact ⟨hk, by rw [hw, bodyFits, decide_eq_true_iff], lengthAccepted_fits⟩

theorem of_event {i : Instr} (h : requestOf i = none) : Statement i := by
  intro kind tag body e
  rw [h] at e
  exact absurd e (by simp)

theorem powerOn : Statement .powerOn := of_event rfl
theorem frameReceived (bytes : List Byte) : Statement (.frameReceived bytes) := of_event rfl
theorem frameDamaged (cause : Damage) : Statement (.frameDamaged cause) := of_event rfl
theorem byteGapTimeout : Statement .byteGapTimeout := of_event rfl
theorem resyncQuietTimeout : Statement .resyncQuietTimeout := of_event rfl
theorem frameSent : Statement .frameSent := of_event rfl
theorem statusQuery (tag : Byte) (body : List Byte) : Statement (.statusQuery tag body) := of_request rfl (by decide) rfl
theorem tableRead (tag : Byte) (body : List Byte) : Statement (.tableRead tag body) := of_request rfl (by decide) rfl
theorem cellReset (tag : Byte) (body : List Byte) : Statement (.cellReset tag body) := of_request rfl (by decide) rfl
theorem recipeBegin (tag : Byte) (body : List Byte) : Statement (.recipeBegin tag body) := of_request rfl (by decide) rfl
theorem boardDefine (tag : Byte) (body : List Byte) : Statement (.boardDefine tag body) := of_request rfl (by decide) rfl
theorem tabDefine (tag : Byte) (body : List Byte) : Statement (.tabDefine tag body) := of_request rfl (by decide) rfl
theorem recipeClose (tag : Byte) (body : List Byte) : Statement (.recipeClose tag body) := of_request rfl (by decide) rfl
theorem profileDefine (tag : Byte) (body : List Byte) : Statement (.profileDefine tag body) := of_request rfl (by decide) rfl
theorem panelStart (tag : Byte) (body : List Byte) : Statement (.panelStart tag body) := of_request rfl (by decide) rfl
theorem holdAtBoundary (tag : Byte) (body : List Byte) : Statement (.holdAtBoundary tag body) := of_request rfl (by decide) rfl
theorem resume (tag : Byte) (body : List Byte) : Statement (.resume tag body) := of_request rfl (by decide) rfl
theorem panelStop (tag : Byte) (body : List Byte) : Statement (.panelStop tag body) := of_request rfl (by decide) rfl
theorem park (tag : Byte) (body : List Byte) : Statement (.park tag body) := of_request rfl (by decide) rfl
theorem wake (tag : Byte) (body : List Byte) : Statement (.wake tag body) := of_request rfl (by decide) rfl
theorem bitSet (tag : Byte) (body : List Byte) : Statement (.bitSet tag body) := of_request rfl (by decide) rfl
theorem spindleSpeed (tag : Byte) (body : List Byte) : Statement (.spindleSpeed tag body) := of_request rfl (by decide) rfl
theorem feedOverride (tag : Byte) (body : List Byte) : Statement (.feedOverride tag body) := of_request rfl (by decide) rfl
theorem probeSettings (tag : Byte) (body : List Byte) : Statement (.probeSettings tag body) := of_request rfl (by decide) rfl
theorem spindleTiming (tag : Byte) (body : List Byte) : Statement (.spindleTiming tag body) := of_request rfl (by decide) rfl
theorem pickerTiming (tag : Byte) (body : List Byte) : Statement (.pickerTiming tag body) := of_request rfl (by decide) rfl
theorem bayLoad (tag : Byte) (body : List Byte) : Statement (.bayLoad tag body) := of_request rfl (by decide) rfl
theorem bayRetire (tag : Byte) (body : List Byte) : Statement (.bayRetire tag body) := of_request rfl (by decide) rfl
theorem lineConfigure (tag : Byte) (body : List Byte) : Statement (.lineConfigure tag body) := of_request rfl (by decide) rfl
theorem auxConfigure (tag : Byte) (body : List Byte) : Statement (.auxConfigure tag body) := of_request rfl (by decide) rfl
theorem faultLevelSet (tag : Byte) (body : List Byte) : Statement (.faultLevelSet tag body) := of_request rfl (by decide) rfl
theorem faultAcknowledge (tag : Byte) (body : List Byte) : Statement (.faultAcknowledge tag body) := of_request rfl (by decide) rfl
theorem unitClear (tag : Byte) (body : List Byte) : Statement (.unitClear tag body) := of_request rfl (by decide) rfl
theorem noticeEnable (tag : Byte) (body : List Byte) : Statement (.noticeEnable tag body) := of_request rfl (by decide) rfl
theorem noticeClear (tag : Byte) (body : List Byte) : Statement (.noticeClear tag body) := of_request rfl (by decide) rfl
theorem idleParkTimeout : Statement .idleParkTimeout := of_event rfl
theorem cutComplete : Statement .cutComplete := of_event rfl
theorem cutTimeout : Statement .cutTimeout := of_event rfl
theorem moveClearDone : Statement .moveClearDone := of_event rfl
theorem moveClearTimeout : Statement .moveClearTimeout := of_event rfl
theorem tachEdge (time : Nat) : Statement (.tachEdge time) := of_event rfl
theorem stabilisationTimeout : Statement .stabilisationTimeout := of_event rfl
theorem spinupTimeout : Statement .spinupTimeout := of_event rfl
theorem spindleCoastTimeout : Statement .spindleCoastTimeout := of_event rfl
theorem tachLost : Statement .tachLost := of_event rfl
theorem tachWatchArm : Statement .tachWatchArm := of_event rfl
theorem probeMoveDone : Statement .probeMoveDone := of_event rfl
theorem probeMoveTimeout : Statement .probeMoveTimeout := of_event rfl
theorem settleTimeout : Statement .settleTimeout := of_event rfl
theorem approachDone : Statement .approachDone := of_event rfl
theorem carryDone : Statement .carryDone := of_event rfl
theorem homeDone : Statement .homeDone := of_event rfl
theorem pickerMoveTimeout : Statement .pickerMoveTimeout := of_event rfl
theorem gripTimeout : Statement .gripTimeout := of_event rfl
theorem vacuumOffTimeout : Statement .vacuumOffTimeout := of_event rfl
theorem vacuumOkAssert : Statement .vacuumOkAssert := of_event rfl
theorem vacuumOkDeassert : Statement .vacuumOkDeassert := of_event rfl
theorem blowOffTimeout : Statement .blowOffTimeout := of_event rfl
theorem nestWindowTimeout : Statement .nestWindowTimeout := of_event rfl
theorem nestLineAssert (nest : Fin 3) : Statement (.nestLineAssert nest) := of_event rfl
theorem nestLineDeassert (nest : Fin 3) : Statement (.nestLineDeassert nest) := of_event rfl
theorem fromNestDone : Statement .fromNestDone := of_event rfl
theorem nestClearWindowTimeout : Statement .nestClearWindowTimeout := of_event rfl
theorem elevateDone : Statement .elevateDone := of_event rfl
theorem toMouthDone : Statement .toMouthDone := of_event rfl
theorem toChuteDone : Statement .toChuteDone := of_event rfl
theorem transferTimeout : Statement .transferTimeout := of_event rfl
theorem elevatorTimeout : Statement .elevatorTimeout := of_event rfl
theorem pusherHomeAssert : Statement .pusherHomeAssert := of_event rfl
theorem pusherHomeDeassert : Statement .pusherHomeDeassert := of_event rfl
theorem homeWaitTimeout : Statement .homeWaitTimeout := of_event rfl
theorem leaveTimeout : Statement .leaveTimeout := of_event rfl
theorem returnTimeout : Statement .returnTimeout := of_event rfl
theorem chutePass : Statement .chutePass := of_event rfl
theorem chuteWindowTimeout : Statement .chuteWindowTimeout := of_event rfl
theorem bayPresentAssert (bay : Bay) : Statement (.bayPresentAssert bay) := of_event rfl
theorem bayPresentDeassert (bay : Bay) : Statement (.bayPresentDeassert bay) := of_event rfl
theorem stopChainOpen : Statement .stopChainOpen := of_event rfl
theorem stopChainClosed : Statement .stopChainClosed := of_event rfl
theorem driveFaultChange (asserted : Bool) : Statement (.driveFaultChange asserted) := of_event rfl
theorem doorClosedChange (asserted : Bool) : Statement (.doorClosedChange asserted) := of_event rfl
theorem auxLineAccept (line : Fin 4) (high : Bool) : Statement (.auxLineAccept line high) := of_event rfl
theorem byteReceived (byte : Byte) (stopOk : Bool) : Statement (.byteReceived byte stopOk) := of_event rfl
theorem lineAcceptance (line : Fin 16) (asserted : Bool) : Statement (.lineAcceptance line asserted) := of_event rfl

end Sys2Proof.Laws.Request
end

