-- ==== Sys2Proof/Tests/Slice0.lean ====
section
/-! SUPPORT. Tests. First the values the spec's worked cases state. Then one theorem per statement of the
certificate that shows its hypotheses met: it applies the statement's clauses to concrete states and operands,
at boundary values, with every hypothesis discharged by evaluation. -/

open Sys2Proof Sys2Proof.Machine

namespace Sys2Proof.Tests

/-! ### Small states -/


/-- The part after power-on. -/
def z : State := State.reset

/-- A cell mode. -/
def md (m : Mode) (s : State) : State := s.withCell { s.cell with mode := m }

/-- A return mode. -/
def rt (m : Mode) (s : State) : State := s.withCell { s.cell with ret := some m }

/-- A level known on a dedicated line. -/
def lv (l : Fin 16) (v : Bool) (s : State) : State := accepted l v s

/-- An order in flight. -/
def fly (o : Order) : Port := { record := some o, inFlight := true, strobes := 1, stops := 0 }

/-- A port with an order in flight. -/
def onRouter (o : Order) (s : State) : State := s.withPorts { s.ports with router := fly o }
def onPicker (o : Order) (s : State) : State := s.withPorts { s.ports with picker := fly o }
def onTransfer (o : Order) (s : State) : State := s.withPorts { s.ports with transfer := fly o }
def onElevator (o : Order) (s : State) : State := s.withPorts { s.ports with elevator := fly o }

/-- A halt latch. -/
def cutStop (s : State) : State := s.withFaults { s.faults with cutStop := true }
def allStop (s : State) : State := s.withFaults { s.faults with allStop := true }

/-- A record in service, and one pending. -/
def serving (r : FaultRec) (s : State) : State := s.withFaults { s.faults with stack := r :: s.faults.stack }
def waits (r : FaultRec) (s : State) : State := s.withFaults { s.faults with waiting := r :: s.faults.waiting }
def fault (src : Source) (level : Nat) : FaultRec := { source := src, level := level, detail := .none, repeats := 0 }

def tabN : TabDef :=
  { owner := 0, neighbour := some 1, x := 1000, y := 2000, dir := .xPlus, length := 640, material := .standard
    role := .normal }
def tabR (b : Fin 64) : TabDef := { tabN with owner := b, neighbour := none, role := .release }
def opN : Operation := { tab := 7, record := tabN, attempt := 1, dx := 3, dy := -4, orphan := false }
def verN : Verify :=
  { op := opN, settings := { mode := .full, points := 2, allowance := 0, settle := 3 }, ne := 2, ae := 0, index := 0
    hits := 0, misses := 0, timer := none }

/-- A recipe of two boards, a release tab each and a tab between them. -/
def recipe2 : Recipe :=
  { state := .closed
    boards := [(0, { pickX := 500, pickY := 500, height := 0 }), (1, { pickX := 59500, pickY := 44500, height := 3 })]
    tabs := [(5, tabR 0), (6, tabR 1), (7, tabN)]
    lists := [(0, { release := 5, tabs := [5, 7] }), (1, { release := 6, tabs := [6, 7] })]
    depth := 1, profiles := [] }

def panel (serial : Serial) (st : PanelState) : PanelRec :=
  { serial := serial, dx := 3, dy := -4, marks := [], state := st, stop := false, stacked := 0, chuted := 0
    failed := 0, lost := 0, abandoned := 0, outstanding := 1 }
def run (st : BoardState) (n : Nat) : BoardRun :=
  { state := st, disposition := .good, remaining := n, regrip := false, nest := none, bay := none, slot := none }

/-- A panel being cut, its boards in the given states; the spindle is off. -/
def cutting (m : Mode) (a b : BoardState) : State :=
  md m ((z.withRecipe recipe2).withSeq
    { records := [panel 77 .cutting], runOf := some 77, boards := [(0, run a 1), (1, run b 1)]
      tabs := [(5, { state := .uncut, attempts := 0 }), (6, { state := .uncut, attempts := 0 }),
        (7, { state := .uncut, attempts := 0 })]
      order := [0, 1] })

def picker (st : PickerState) (b : Option (Fin 64)) (n : Option (Fin 3)) (s : State) : State :=
  s.withPicker { s.picker with state := st, board := b, serial := some 77, nest := n }
def router (st : RouterState) (op : Option Operation) (p : Bool) (s : State) : State :=
  s.withRouter { s.router with state := st, operation := op, presented := p, clearance := false, timer := some 9 }
def hand1 : Hand := { board := 0, serial := 77, disposition := .good, nest := 0 }
def stacker (st : StackerState) (h : Option Hand) (x : Option Bay) (n : Option Nat) (s : State) : State :=
  s.withStacker { s.stacker with state := st, hand := h, target := x, slot := n }
def profileN : Profile := { slots := 3, pitch := 635, base := 1200, dir := .bottomUp, step := 2, limit := 2 }
def descN : FillDesc := { profile := 0, values := profileN, visit := 0, next := some 0, filled := 0 }
def bayN (st : BayState) : BayRec :=
  { state := st, desc := some descN, map := [.open_, .unused, .open_], retire := false }
def bayA (st : BayState) (s : State) : State := setBay .a (bayN st) s
def spin (p : SpindleState) (s : State) : State :=
  (s.withSpindle { s.spindle with state := p }).withOutputs
    { s.outputs with
      spindleRun := p = .spinup || p = .atSpeed
      speedRef := if p = .spinup || p = .atSpeed then 30000 else 0 }
def entryAt (n : Fin 3) (b : Fin 64) (st : EntryState) : NestEntry :=
  { nest := n, board := b, serial := 77, disposition := .good, state := st }
def auxIs (n : Fin 4) (m : DetectMode) (r : AuxRole) (e : Bool) (v : Bool) (s : State) : State :=
  setAux n { mode := m, role := r, enable := e, period := .p05, filter := { level := some v, count := 0, seen := v }
             pin := some v, latch := .clear } s

def slot1 : Slot := { kind := 1, tag := 1, body := [], replyPending := true, reply := [0], ahead := 0 }
/-- An occupied slot, with `n` OVERRUN answers owed. -/
def full (n : Nat) : State :=
  z.withLink { z.link with slot := some slot1, overrun := List.replicate n { kind := 0x81, tag := 2 } }
def rx (r : Receiver) : State := z.withLink { z.link with rx := r }
def sending (k : TxKind) : State := z.withLink { z.link with tx := some { what := k, bytes := [1] } }
def boardN : BoardDef := { pickX := 59500, pickY := 500, height := 3 }
def editing (s : State) : State := s.withRecipe { s.recipe with state := .editing }
def bitKnown (w l : Nat) (s : State) : State :=
  s.withRouter { s.router with wear := w, life := l, baseFeed := 250, bit := .known }
def idle2 : State := bitKnown 0 10000 (md .idle (z.withRecipe recipe2))
/-- A running cell whose router is busy. -/
def busyRun : State := router .cut (some opN) true (cutting .running .waiting .waiting)
def stopped2 : State :=
  let s := cutting .running .waiting .waiting
  s.withSeq { s.seq with records := [{ panel 77 .cutting with stop := true }] }
def idleFor (n : Nat) : State := (md .idle z).withCell { (md .idle z).cell with idleTimer := some n }
/-- Every line's level known and its input with it, the door closed, the stop chain closed. -/
def settled : State :=
  let d (v : Bool) : DedLine :=
    { sense := .activeHigh, period := .p05, filter := { level := some v, count := 0, seen := v }, pin := some v }
  let s := z.withLines
    { z.lines with
      ded := setAt (Vector.replicate 16 (d false)) 15 (d true)
      aux := Vector.replicate 4
        { mode := .rising, role := .notice, enable := true, period := .p05
          filter := { level := some false, count := 0, seen := false }, pin := some false, latch := .clear }
      stop := { level := some false, count := 0, seen := false } }
  md .halted (serving (fault 3 1) (s.withRecipe recipe2))
def loadable : State :=
  setBay .a { BayRec.reset with state := .present } (z.withRecipe { z.recipe with profiles := [(3, profileN)] })
def verifying (p : ProbeState) (s : State) : State :=
  (s.withRouter { s.router with state := .verify }).withProbe
    { s.probe with state := p, work := some verN, moveTimer := some 7 }
def verT (hits : Nat) : Verify := { verN with hits := hits, index := hits, timer := some 3 }
def settling (hits : Nat) : State :=
  let s := cutting .halted .waiting .waiting
  (s.withRouter { s.router with state := .verify, clearance := false }).withProbe
    { s.probe with state := .settle, work := some (verT hits) }
def verE : Verify := { verN with settings := { mode := .early, points := 2, allowance := 0, settle := 3 } }
def clearing : State := onRouter .moveClear (verifying .move (waits (fault 6 2) (md .halted z)))
def edgeAt (t : Nat) (p : SpindleState) : State := z.withSpindle { z.spindle with state := p, lastEdge := some t }
def qualifying (n : Nat) : State :=
  z.withSpindle
    { z.spindle with
      state := .spinup, lastEdge := some 0, edgeCounts := true, qualify := n, watch := .disarmed }
def timers (p : SpindleState) (w : TachWatch) : State :=
  z.withSpindle { z.spindle with state := p, watch := w, stabilise := some 7, deadline := some 7 }
def sagged (n : Nat) : State :=
  let s := onRouter (.cut 0 0 .xPlus 640 99) (router .cut (some opN) true z)
  s.withRouter { s.router with sag := n }
def withdraw (s : State) : State := s.withPicker { s.picker with withdrawn := true }
def timed (f : Picker → Picker) (s : State) : State :=
  s.withPicker (f
    { s.picker with
      moveTimer := some 7, gripTimer := some 7, vacOffTimer := some 7, blowTimer := some 7, windowTimer := some 7 })
def gripOn (s : State) : State :=
  (s.withPicker { s.picker with gripTimer := some 7 }).withOutputs { s.outputs with vacuumOn := true }
def clearing8 (s : State) : State := s.withStacker { s.stacker with nestClear := some 7 }
def stroke (a b c : Option Nat) (s : State) : State :=
  s.withStacker { s.stacker with homeWait := a, leave := b, return_ := c }
def gate (s : State) : State :=
  (stacker .divert (some hand1) none none (s.withOutputs { s.outputs with chuteGate := true })).withStacker
    { Stacker.reset with state := .divert, hand := some hand1, chuteWindow := some 7 }
def orders (s : State) : State := s.withStacker { s.stacker with transferTimer := some 7, elevateTimer := some 7 }
def lastVisit (s : State) : State :=
  setBay .a { bayN .active with desc := some { descN with visit := 1, next := some 2 } } s
def settingsStart : State := z.withPending [.feedOverride 9 [255]]
def faultRecordsStart : State := (serving (fault 3 2) (waits (fault 4 2) z)).withPending [.faultAcknowledge 9 [3]]
def nestQueueStart : State :=
  ((cutting .running .ready .waiting).withNests [entryAt 0 1 .occupied]).withPending [.frameSent]
def runsAndBaysStart : State := idle2.withPending [.panelStart 9 ([0x89, 0x13, 0, 0, 0, 0, 0, 0])]
def interlockStart : State := (spin .atSpeed (md .idle z)).withPending [.stopChainOpen]
/-- A verify of a tab that starts at the corner of the frame, with the least offsets. -/
def verEdge : Verify :=
  { verN with op := { opN with record := { tabN with x := 500, y := 500 }, dx := -500, dy := -500 }, ne := 25 }
def tr (st : TabState) (n : Nat) : TabRun := { state := st, attempts := n }
/-- A record with nothing left to wait for. -/
def overdue : State := z.withSeq { z.seq with records := [{ panel 77 .stacking with outstanding := 0 }] }
/-- A settled part whose presented cut takes the bit past its half point. -/
def halfWorn : State := router .cut (some opN) true (bitKnown 4900 10000 settled)
/-- A held board whose release tab is being cut. -/
def releasing : State :=
  router .cut (some { opN with tab := 5, record := tabR 0 }) true
    (bitKnown 0 10000 (setTab 5 .cutting (cutting .halted .held .waiting)))
/-- Both boards of tab 7 live, the picker at board 0. -/
def givingUp (st : PickerState) : State :=
  (picker st (some 0) (some 0) (cutting .halted .ready .waiting)).withNests [entryAt 0 0 .reserved]
/-- Cutting is permitted; the head's position is unknown. -/
def permits : State := bitKnown 0 10000 (spin .atSpeed (cutting .running .waiting .waiting))
def clear (s : State) : State := s.withRouter { s.router with clearance := false }
/-- Tab 7 pending a verify. -/
def unverified (s : State) : State := modTab 7 (fun _ => { state := .verifyPending, attempts := 1 }) s
def probesOff (s : State) : State :=
  s.withProbe { s.probe with settings := { s.probe.settings with mode := .off } }
def gateOpen : State := gate z
/-- A board fetched, its panel's runtime records still there. -/
def queued : State :=
  bayA .active ((cutting .halted .queued .waiting).withNests [entryAt 0 0 .occupied, entryAt 1 1 .occupied])
def risen (s : State) : State :=
  let s := stacker .fetch (some hand1) (some .a) (some 0) s
  s.withStacker { s.stacker with elevated := true }
/-- A stalled picker move. -/
def stall (st : PickerState) (n : Option (Fin 3)) : State :=
  let s := picker st (some 0) n z
  s.withPicker { s.picker with stalled := true, target := some { x := 3, y := 4, height := 1 } }
def heldBack : State :=
  z.withStacker { z.stacker with heldTransfer := some .toMouth, heldElevate := some (.elevate .a 9) }
/-- A push held back or cut short. -/
def cutShort (recovery held : Bool) : State :=
  let s := stacker .push (some hand1) (some .a) (some 0) (bayA .active (cutting .halted .queued .waiting))
  s.withStacker { s.stacker with recovery := recovery, heldStroke := held }
theorem none_held : ∀ e ∈ permits.seq.boards, e.2.state = .held →
    ∀ t, releaseTab permits e.1 = some t → tabState permits t ≠ some .uncut := by decide
/-- Board 0 offers its tab 7 alone. -/
theorem only_seven : ∀ t ∈ tabsOf permits 0, ∀ d, (Table.get permits.recipe.tabs t = some d ∧ d.role ≠ .release ∧
    tabState permits t = some .uncut ∧ ∃ b, (b = d.owner ∨ d.neighbour = some b) ∧ boardLive permits b = true) →
    let rank (d : TabDef) : Nat := if d.neighbour.isSome then 0 else if d.role = .relief then 1 else 2
    rank tabN < rank d ∨ (rank tabN = rank d ∧ 7 ≤ t) := by
  intro t m d o
  rcases m with _ | ⟨_, _ | ⟨_, m⟩⟩
  · exact absurd (Option.some.inj o.1.symm) (fun e => o.2.1 (e ▸ rfl))
  · cases o.1
    exact .inr ⟨rfl, by decide⟩
  · cases m
def setLevel (src : Source) (n : Nat) (s : State) : State :=
  s.withFaults { s.faults with levels := setAt s.faults.levels src n }

/-- The input supplied at a dedicated line's pin for the restart to come. -/
def pinAt (l : Fin 16) (v : Bool) (s : State) : State :=
  setDed l { getAt s.lines.ded l with pin := some v } s

def behind (a : Nat) : Slot := { slot1 with ahead := a }
/-- A reply behind `a` OVERRUN answers, and `n` of them still owed. -/
def owing (a n : Nat) : State :=
  z.withLink { (full n).link with slot := some (behind a) }
/-- A bay whose slots are filled, unused, open and blocked. -/
def mapped : State :=
  setBay .b { bayN .active with map := [.filled 63 77, .unused, .open_, .blocked] } z
/-- A recipe of one board with the given tabs; a shared tab whose neighbour is its owner. -/
def recipe1 (tabs : List (Fin 256 × TabDef)) : Recipe :=
  { recipe2 with boards := [(0, boardN)], tabs := tabs, lists := [] }
def noBoards : CloseFail := { code := 0, index := 0xFF }
def own : TabDef := { tabR 0 with neighbour := some 0 }
/-- A held board on nest 0, the other board queued. -/
def holdingOne : State :=
  (picker .holding (some 0) (some 0) (cutting .halted .held .queued)).withNests [entryAt 0 0 .reserved]
def marked (s : State) : State := modBoard 0 (fun r => { r with regrip := true }) s
def regripped : BoardRun := { run .held 1 with regrip := true }
/-- An operation on the release tab, and its second attempt. -/
def opR : Operation := { opN with tab := 5, record := tabR 0 }
def opR2 : Operation := { opR with attempt := 2 }
def lastTry (s : State) : State := router .cut (some opR2) true s
def verR : Verify := { verN with op := opR }
def releaseVerified : State :=
  let s := setTab 5 .verifying (cutting .halted .held .waiting)
  (s.withRouter { s.router with state := .verify }).withProbe { s.probe with state := .move, work := some verR }
/-- Nothing of a recipe of one board and its release tab offends a check. -/
theorem sound (c : Nat) (t : Fin 256) (d : TabDef) (e : Table.get (recipe1 [(5, tabR 0)]).tabs t = some d) :
    ¬ tabOffends (recipe1 [(5, tabR 0)]) c d := by
  have e : d = tabR 0 := by simp [recipe1, Table.get] at e; exact e.2.symm
  subst e
  unfold tabOffends; split <;> simp [recipe1, recipe2, tabR, tabN, Table.get]
theorem ruled (c : Nat) (b : Fin 64) (e : (Table.get (recipe1 [(5, tabR 0)]).boards b).isSome = true) :
    ¬ boardOffends (recipe1 [(5, tabR 0)]) c b := by
  have e : b = 0 := by simp [recipe1, Table.get] at e; exact e.symm
  subst e
  unfold boardOffends; split <;> simp [recipe1, recipe2, tabR, tabN]
theorem early (c : Nat) (l : c < 4) (b : Fin 64) (_ : (Table.get (recipe1 []).boards b).isSome = true) :
    ¬ boardOffends (recipe1 []) c b := by
  unfold boardOffends; split <;> simp <;> omega
theorem held_before (c : Nat) (l : c < 2) :
    (∀ t d, Table.get (recipe1 [(255, own)]).tabs t = some d → ¬ tabOffends (recipe1 [(255, own)]) c d) ∧
      ∀ b, (Table.get (recipe1 [(255, own)]).boards b).isSome = true → ¬ boardOffends (recipe1 [(255, own)]) c b := by
  refine ⟨fun t d e => ?_, fun b e => ?_⟩
  · have e : d = own := by simp [recipe1, Table.get] at e; exact e.2.symm
    subst e
    unfold tabOffends; split <;> simp [recipe1, recipe2, own, tabR, tabN, Table.get] <;> omega
  · unfold boardOffends; split <;> simp <;> omega
theorem only_255 (t : Fin 256) (d : TabDef) (e : Table.get (recipe1 [(255, own)]).tabs t = some d)
    (_ : tabOffends (recipe1 [(255, own)]) 2 d) : (255 : Fin 256) ≤ t := by
  simp [recipe1, Table.get] at e; exact e.1 ▸ Nat.le_refl _
/-- The sequencer of the state that a request gives, and with its recipe the tabs that are needed. -/
def seqAfter : Host.Outcome State Fault Refusal → Sequencer
  | .next s => s.seq
  | _ => z.seq
theorem ended_of {o : Host.Outcome State Fault Refusal} {k t : Byte} {b r : List Byte} {u : State}
    (e : o = .next (rest (replied k t b r u))) : u.seq = seqAfter o := by
  have kick : ∀ s, (linkKick s).seq = s.seq := fun s => by unfold linkKick; (repeat' split) <;> rfl
  have timer : ∀ s, (idleTimer s).seq = s.seq := fun s => by unfold idleTimer; (repeat' split) <;> rfl
  subst e
  exact ((kick _).trans (timer (replied k t b r u))).symm
theorem needed_of {o : Host.Outcome State Fault Refusal} {k n : Byte} {b r : List Byte} {u s : State} (t : Fin 256)
    (e : o = .next (rest (replied k n b r u))) (f : u.recipe = s.recipe) :
    tabNeeded u t = tabNeeded (s.withSeq (seqAfter o)) t := by
  rw [← ended_of e]; unfold tabNeeded; rw [f]; rfl

/-- A frame tab of the worked recipe of section 2.9. -/
def frame29 (o : Fin 64) (x y : Nat) (d : Direction) (n : Nat) (m : Material) (r : TabRole) : TabDef :=
  { owner := o, neighbour := none, x := x, y := y, dir := d, length := n, material := m, role := r }
/-- Tab 8 of the worked recipe, and its board 0. -/
def tab8 : TabDef := frame29 3 21500 8100 .xPlus 640 .standard .normal
def b0 : BoardDef := { pickX := 7000, pickY := 6500, height := 1 }
/-- The worked recipe of section 2.9, with a role for its shared tab 4. -/
def recipe29 (r : TabRole) : Recipe :=
  { z.recipe with
    state := .editing
    boards := [(0, b0), (1, { b0 with pickX := 12000 }), (2, { b0 with pickX := 16500 }),
      (3, { pickX := 22000, pickY := 6500, height := 2 })]
    tabs := [(0, frame29 0 6000 8100 .xPlus 300 .standard .relief),
      (1, frame29 0 4900 6000 .yPlus 400 .standard .normal),
      (2, frame29 0 9100 6000 .yPlus 400 .standard .release), (3, frame29 1 11500 8100 .xPlus 300 .standard .normal),
      (4, { frame29 1 14250 6200 .yPlus 600 .hard r with neighbour := some 2 }),
      (5, frame29 1 11500 4900 .xPlus 300 .standard .release), (6, frame29 2 16000 8100 .xPlus 300 .light .normal),
      (7, frame29 2 16000 4900 .xPlus 300 .standard .release), (8, tab8),
      (9, frame29 3 21500 4900 .xPlus 300 .standard .release)] }

/-! ### Values the spec states (its worked cases), one small theorem each -/

/-- Section 1.2 (R3): the frame check of the digits 1 to 9. -/
theorem test_check_of_digits :
    frameCheck [0x31, 0x32, 0x33, 0x34, 0x35, 0x36, 0x37, 0x38, 0x39] = 0x29B1 := by decide +kernel
/-- No word of bits spells a command, and none is put into the queue. -/
theorem test_no_word : decodeTableWord 8 0 = none ∧ (z.withFetchWord 8 0).pending = [] := by decide
/-- A body above 512 bytes, an empty frame and a frame of 520 bytes are ill formed. -/
theorem test_ill_formed :
    wellFormed (.statusQuery 0 (List.replicate 513 0)) = false ∧ wellFormed (.frameReceived []) = false ∧
      wellFormed (.frameReceived (List.replicate 520 0)) = false := by decide +kernel
/-- The largest body and the largest frame are well formed. -/
theorem test_well_formed :
    wellFormed (.boardDefine 0 (List.replicate 512 0)) = true ∧
      wellFormed (.frameReceived (List.replicate 519 0)) = true := by decide +kernel
/-- Section 6.3: effective points and allowance (R117). -/
theorem test_effective_points :
    [(640, 8, 0), (100, 8, 3), (300, 32, 3), (2000, 32, 3), (100, 2, 3), (1500, 1, 3)].map
        (fun x => (effectivePoints x.2.1 x.1, effectiveAllowance x.2.2 (effectivePoints x.2.1 x.1))) =
      [(8, 0), (4, 3), (12, 3), (32, 3), (2, 1), (1, 0)] := by decide
/-- Section 6.4: points of L = 100, the first and last of L = 2000, the middle of L = 1500 (R118). -/
theorem test_point_distances :
    [0, 1, 2, 3].map (pointDistance 100 4) = [12, 37, 62, 87] ∧ pointDistance 2000 32 0 = 31 ∧
      pointDistance 2000 32 31 = 1968 ∧ pointDistance 1500 1 0 = 750 := by decide
/-- Section 6.4: the first and last point of tab 8 on a panel with offsets +120 and −40. -/
theorem test_points_of_tab_8 :
    let op : Operation := { tab := 8, record := tab8, attempt := 1, dx := 120, dy := -40, orphan := false }
    let w : Verify := { verN with op := op, ne := 8 }
    probePoint w 0 = (21660, 8060) ∧ probePoint w 7 = (22220, 8060) := by decide
/-- Section 5.4: feed of both attempts, cut time and wear (R99 to R101). -/
theorem test_feed_and_wear :
    effectiveFeed 1000000 700000 250 100 1 = 200 ∧ effectiveFeed 1000000 700320 250 100 2 = 99 ∧
      cutTime 640 200 = 320 ∧ cutTime 640 99 = 647 ∧ cutWear tab8 = 320 := by decide
/-- Section 5.4: the limits of the arithmetic. -/
theorem test_feed_limits :
    effectiveFeed 10000 10000 50 25 1 = 20 ∧ effectiveFeed 10000 0 600 150 1 = 600 := by decide
/-- Section 5.5: tolerance and sag at S = 30,000 (R104). -/
theorem test_tolerance :
    [1941, 1942, 2061, 2062, 2222, 2223].map
        (fun c => (inTolerance (60000000 / c) 30000, sagging (60000000 / c) 30000)) =
      [(false, false), (true, false), (true, false), (false, false), (false, false), (false, true)] := by decide
/-- Section 2.7: the top of a stack of 50 slots and its visits by step 2 (R38, R40). -/
theorem test_profile :
    Profile.height { profileN with base := 1200, pitch := 635 } 17 = 11995 ∧
      Profile.visits { profileN with slots := 50, step := 2 } = 25 := by decide

/-- Section 2.9, step 2: the fourth record's pick y is out of range, so nothing is stored. -/
theorem test_board_define_refused :
    boardDefine
        (boardBytes (0, b0) ++ boardBytes (1, b0) ++ boardBytes (2, b0) ++ boardBytes (3, { b0 with pickY := 44600 }))
        (editing z) =
      (editing z, [6, 21, 0]) := by decide +kernel
/-- Section 2.9, step 5: a shared tab with the role RELEASE fails the close with code 3, index 4. -/
theorem test_close_refused : closeFail (recipe29 .release) = some { code := 3, index := 4 } := by decide +kernel
/-- Section 2.9, step 7: the corrected recipe passes, with its tab lists (R37). -/
theorem test_close_passes :
    closeFail (recipe29 .normal) = none ∧
      buildLists (recipe29 .normal) =
        [(0, { release := 2, tabs := [0, 1, 2] }), (1, { release := 5, tabs := [3, 4, 5] })
        , (2, { release := 7, tabs := [4, 6, 7] }), (3, { release := 9, tabs := [8, 9] })] := by decide +kernel
/-- Section 10.5, event 4: a record of the top's own level stays pending. -/
theorem test_equal_level_waits :
    let s := raise 14 (.board 1) (serving (fault 15 2) (cutStop (rt .running (md .halted z))))
    s.faults.stack.map (·.source) = [15] ∧ s.faults.waiting.map (·.source) = [14] := by decide
/-- Section 10.5, event 12: the acknowledgement of ELEVATOR_TIMEOUT takes TRANSFER_TIMEOUT. -/
theorem test_acknowledge_takes_the_next :
    let s := waits (fault 14 2) (serving (fault 15 2) (serving (fault 10 3) (serving (fault 8 5) (md .halted z))))
    let t := faultAcknowledge [15] s
    t.2 = [0, 3, 14] ∧ t.1.faults.stack.map (·.source) = [14, 10, 8] := by decide
/-- Section 1.9, events 5 and 6: a reply formed behind an owed OVERRUN answer waits for it. -/
theorem test_overrun_goes_first :
    let s := z.withLink { z.link with overrun := [{ kind := 0x81, tag := 0x22 }]
                                      tx := some { what := .overrun, bytes := [1] } }
    let t := takeRequest 0x25 true (fun _ s => (s, [0])) 0x23 [] s
    t.link.slot.map (·.ahead) = some 1 := by decide
/-- R26, R101, R102: the wear of a cut that CELL RESET interrupts takes the bit past its half point; the BIT_WEAR_WARN
comes after the notices were cleared, and stays. -/
theorem test_reset_warning_stays : (getAt (resetAll halfWorn).notices Notice.bitWearWarn).raised = true := by
  decide +kernel
/-- R75, R116: in mode OFF the verdict is SEVERED at the completion, though the cut's wear sets ALL_STOP. -/
theorem test_off_severs_under_all_stop :
    let s := setLevel Source.bitExpired 0 (bitKnown 999 1000 (cutting .halted .waiting .waiting))
    let t := completeCut raise opN (probesOff s)
    t.faults.allStop = true ∧ tabState t 7 = some .severed ∧ t.router.state = .idle := by decide +kernel
/-- R87, R134: the regrip mark is set when the loss is reported, though its ALL_STOP fails the board first. -/
theorem test_loss_marks_before_all_stop :
    let s := setLevel Source.vacuumLost 0 (picker .holding (some 0) (some 0) releasing)
    let op : Operation := { opN with tab := 5, record := tabR 0, attempt := 2 }
    let t := holdLost raise 0 (s.withRouter { s.router with operation := some op })
    boardRun t 0 = some { run .failed 1 with regrip := true } ∧ t.picker.state = .returning := by decide +kernel
/-- R166: a restart reads the input present, though the filter has not accepted it: the door is open, and the input is used
up. -/
theorem test_restart_reads_the_moved_input :
    let t := (lineConfigure [15, 0, 2] (pinAt 15 false (lv 15 true (md .idle z)))).1
    t.faults.stack.map (·.source) = [1] ∧ (getAt t.lines.ded 15).filter.level = some false ∧
      (getAt t.lines.ded 15).pin = none := by decide +kernel
/-- R174, R177: a cell reset restarts from the moved input too, and raises DOOR_OPEN after the records were cleared. -/
theorem test_reset_reads_the_moved_input :
    let t := resetAll (pinAt 15 false settled)
    t.faults.stack.map (·.source) = [1] ∧ (getAt t.lines.ded 15).filter.level = some false := by decide +kernel

/-! ### Witnesses: the hypotheses of each statement are met -/

/-- Witnesses of StepRunsTheFrontCommand: front command. -/
theorem witness_step_runs_the_front_command (h : Obligations.StepRunsTheFrontCommand) :
    step (z.withPending [.frameSent]) = exec .frameSent (z.withPending []) :=
  h .frameSent [] (z.withPending [.frameSent]) rfl

/-- Witnesses of NothingDueChangesNothing: nothing due, no record, a board waits, record leaves running, record
leaves halted, none over, record over, boundary reached, boundary not sought, boundary not reached, speed
reached, wake ends. -/
theorem witness_nothing_due_changes_nothing (h : Obligations.NothingDueChangesNothing) :
    finish z = rest z ∧
    recordTest z = removeComplete z ∧
    recordTest (cutting .running .queued .ready) = removeComplete (cutting .running .queued .ready) ∧
    (∃ t, recordTest (cutting .running .queued .skipped) = t) ∧
    (∃ t, recordTest (cutting .halted .queued .skipped) = t) ∧
    removeComplete z = z ∧
    (∃ t, removeComplete overdue = t) ∧
    (∃ t, boundary (md .holding z) = t) ∧
    boundary z = z ∧
    boundary (router .cut (some opN) true (cutting .holding .waiting .waiting)) = (router .cut (some opN) true
        (cutting .holding .waiting .waiting)) ∧
    (∃ t, reachSpeed z = t) ∧
    (∃ t, reachSpeed (rt .held (md .waking z)) = t) :=
  ⟨h.1 z (by decide),
   (h.2.1 z).1 (.inl rfl),
   (h.2.1 (cutting .running .queued .ready)).1 (.inr ⟨(1, run .ready 1), by decide, .inr (.inr (.inl rfl))⟩),
   ⟨_, (h.2.1 (cutting .running .queued .skipped)).2 (panel 77 .cutting) rfl (by decide) (.inr rfl)⟩,
   ⟨_, (h.2.1 (cutting .halted .queued .skipped)).2 (panel 77 .cutting) rfl (by decide) (.inl rfl)⟩,
   (h.2.2.1 z).1 rfl,
   ⟨_, (h.2.2.1 overdue).2 { panel 77 .stacking with outstanding := 0 } [] rfl⟩,
   ⟨_, (h.2.2.2.1 (md .holding z)).1 rfl ⟨rfl, .inl rfl, fun t a => by cases a⟩ rfl⟩,
   (h.2.2.2.1 z).2 (.inl (by decide)),
   (h.2.2.2.1 (router .cut (some opN) true (cutting .holding .waiting .waiting))).2 (.inr fun a => absurd a.1
       (by decide)),
   ⟨_, (h.2.2.2.2 .idle z).1 (by decide)⟩,
   ⟨_, (h.2.2.2.2 .held (rt .held (md .waking z))).2 rfl rfl rfl⟩⟩

/-- Witnesses of RequestFrameIsTheRequest: request frame. -/
theorem witness_request_frame_is_the_request (h : Obligations.RequestFrameIsTheRequest) :
    ∃ t, exec (.frameReceived (encodeFrame 1 9 [])) z = .next t ∧ exec (.statusQuery 9 []) z = .next t :=
  h (.statusQuery 9 []) 1 9 [] z rfl (by decide) rfl

/-- Witnesses of WrongCheckIsGarbled: wrong check. -/
theorem witness_wrong_check_is_garbled (h : Obligations.WrongCheckIsGarbled) :
    ∃ t, exec (.frameReceived (startCode :: (frameCovered 1 9 [] ++ [0, 0]))) z = .next t :=
  ⟨_, h 1 9 [] [0, 0] z (by decide) rfl (by decide +kernel) rfl (by decide)⟩

/-- Witnesses of MalformedRequestsAreAnswered: kind of no request, kind with bit 7, wrong length. -/
theorem witness_malformed_requests_are_answered (h : Obligations.MalformedRequestsAreAnswered) :
    (∃ t, exec (.frameReceived (encodeFrame 0x7F 9 [])) z = .next t) ∧
    (∃ t, exec (.frameReceived (encodeFrame 0x81 9 [])) z = .next t) ∧
    (∃ t, exec (.cellReset 9 [0]) z = .next t) :=
  ⟨⟨_, h.1 0x7F 9 [] z (by intro i; cases i <;> simp [requestOf]) (by decide) rfl rfl (by decide)⟩,
   ⟨_, h.1 0x81 9 [] z (by intro i; cases i <;> simp [requestOf]) (by decide) rfl rfl (by decide)⟩,
   ⟨_, h.2 (.cellReset 9 [0]) 3 9 [0] z rfl (by decide) rfl (by decide)⟩⟩

/-- Witnesses of OccupiedSlotRefuses: slot occupied, list full. -/
theorem witness_occupied_slot_refuses (h : Obligations.OccupiedSlotRefuses) :
    (∃ t, exec (.wake 9 []) (full 3) = .next t) ∧
    (∃ t, exec (.wake 9 []) (full 4) = .next t) :=
  ⟨⟨_, (h (.wake 9 []) 0x25 9 [] slot1 (full 3) rfl rfl).1 (by decide) (by decide)⟩,
   ⟨_, (h (.wake 9 []) 0x25 9 [] slot1 (full 4) rfl rfl).2 (by decide) (by decide)⟩⟩

/-- Witnesses of RefusalsChangeNothing: refusal. -/
theorem witness_refusals_change_nothing (h : Obligations.RefusalsChangeNothing) :
    ∃ (status : Byte) (result : List Byte) (u : State), exec (.wake 9 []) z = .next (finish (replied 0x25 9 []
        (status :: result) u)) ∧ status.toNat ≤ 15 ∧ (2 < status.toNat → u = z) :=
  h (.wake 9 []) 0x25 9 [] z rfl rfl

/-- Witnesses of ReceiverFollowsTheBytes: start code, not a start code, resync ignores, length byte, last but one
byte, gap, quiet line, framing error, damage, length 513. -/
theorem witness_receiver_follows_the_bytes (h : Obligations.ReceiverFollowsTheBytes) :
    (∃ t, exec (.byteReceived 0xC3 true) z = .next t) ∧
    (∃ t, exec (.byteReceived 0xC3 false) z = .next t) ∧
    (∃ t, exec (.byteReceived 0xC3 true) (rx .resync) = .next t) ∧
    (∃ t, exec (.byteReceived 7 true) (rx (.assemble [0xC3])) = .next t) ∧
    (∃ t, exec (.byteReceived 7 true) (rx (.assemble [0xC3, 0, 0, 1, 9])) = .next t) ∧
    (∃ t, exec .byteGapTimeout (rx (.assemble [0xC3])) = .next t) ∧
    (∃ t, exec .resyncQuietTimeout (rx .resync) = .next t) ∧
    (∃ t, exec (.byteReceived 7 false) (rx (.assemble [0xC3])) = .next t) ∧
    (∃ t, exec (.frameDamaged .length) (rx (.assemble [0xC3])) = .next t) ∧
    (∃ t, exec (.byteReceived 2 true) (rx (.assemble [0xC3, 1])) = .next t) :=
  ⟨⟨_, (h.1 0xC3 true [] z).1 rfl rfl rfl⟩,
   ⟨_, (h.1 0xC3 false [] z).2.1 rfl (by decide)⟩,
   ⟨_, (h.1 0xC3 true [] (rx .resync)).2.2.1 rfl⟩,
   ⟨_, (h.1 7 true [0xC3] (rx (.assemble [0xC3]))).2.2.2.1 rfl rfl (by decide)⟩,
   ⟨_, (h.1 7 true [0xC3, 0, 0, 1, 9] (rx (.assemble [0xC3, 0, 0, 1, 9]))).2.2.2.1 rfl rfl (by decide)⟩,
   ⟨_, (h.1 7 true [0xC3] (rx (.assemble [0xC3]))).2.2.2.2.1 rfl⟩,
   ⟨_, (h.1 7 true [] (rx .resync)).2.2.2.2.2 rfl⟩,
   ⟨_, (h.2 7 [0xC3] (rx (.assemble [0xC3])) rfl (by decide)).1⟩,
   ⟨_, (h.2 7 [0xC3] (rx (.assemble [0xC3])) rfl (by decide)).2.2.1⟩,
   ⟨_, (h.2 2 [0xC3, 1] (rx (.assemble [0xC3, 1])) rfl (by decide)).2.2.2 rfl (by decide)⟩⟩

/-- Witnesses of SentFrameIsSettled: sent reply, sent overrun, sent notice. -/
theorem witness_sent_frame_is_settled (h : Obligations.SentFrameIsSettled) :
    (∃ t, exec .frameSent (sending .reply) = .next t) ∧
    (∃ t, exec .frameSent (sending .overrun) = .next t) ∧
    (∃ t, exec .frameSent (sending (.notice 15 true)) = .next t) :=
  ⟨⟨_, (h [1] 15 true (sending .reply) (by decide)).1 rfl⟩,
   ⟨_, (h [1] 15 true (sending .overrun) (by decide)).2.1 rfl⟩,
   ⟨_, (h [1] 15 true (sending (.notice 15 true)) (by decide)).2.2 rfl⟩⟩

/-- Witnesses of MostUrgentNoticeIsSent: urgent notice, line busy, owed reply, owed reply after overruns, owed
answer, raise again, raise new. -/
theorem witness_most_urgent_notice_is_sent (h : Obligations.MostUrgentNoticeIsSent) :
    (∃ t, linkKick (raiseNotice 5 [1] (raiseNotice 2 [2] z)) = t) ∧
    linkKick (sending .reply) = sending .reply ∧
    (∃ t, linkKick (owing 0 2) = t) ∧
    (∃ t, linkKick (owing 3 0) = t) ∧
    (∃ t, linkKick (owing 1 1) = t) ∧
    raiseNotice 5 [2] (raiseNotice 5 [1] z) = raiseNotice 5 [1] z ∧
    (∃ t, raiseNotice 5 [1] z = t) :=
  ⟨⟨_, h.1 5 (raiseNotice 5 [1] (raiseNotice 2 [2] z)) rfl rfl rfl (by decide) (by decide)⟩,
   (h.2.1 (sending .reply)).1 (by decide),
   ⟨_, ((h.2.1 (owing 0 2)).2 rfl).1 (behind 0) rfl (.inl rfl)⟩,
   ⟨_, ((h.2.1 (owing 3 0)).2 rfl).1 (behind 3) rfl (.inr rfl)⟩,
   ⟨_, ((h.2.1 (owing 1 1)).2 rfl).2 _ _ rfl (by intro x e; cases e; decide)⟩,
   (h.2.2 5 [2] (raiseNotice 5 [1] z)).1 (by decide),
   ⟨_, (h.2.2 5 [1] z).2 rfl⟩⟩

/-- Witnesses of ReadsAreAnswered: status, last board entry, largest tab read, slot without descriptor, slot filled,
slot unused, slot open, slot blocked, source pending, source in service, source without record. -/
theorem witness_reads_are_answered (h : Obligations.ReadsAreAnswered) :
    (∃ t, exec (.statusQuery 9 []) z = .next t) ∧
    (∃ t, exec (.tableRead 9 [0, 63, 1]) z = .next t) ∧
    (∃ t, exec (.tableRead 9 [1, 0, 127]) z = .next t) ∧
    (∃ t, tableBytes z 2 7 1 = t) ∧
    (∃ t, tableBytes mapped 3 0 1 = t) ∧
    (∃ t, tableBytes mapped 3 1 1 = t) ∧
    (∃ t, tableBytes mapped 3 2 1 = t) ∧
    (∃ t, tableBytes mapped 3 3 1 = t) ∧
    (∃ t, tableBytes (serving (fault 3 1) (waits (fault 4 2) z)) 5 4 1 = t) ∧
    (∃ t, tableBytes (serving (fault 3 1) (waits (fault 4 2) z)) 5 3 1 = t) ∧
    (∃ t, tableBytes (serving (fault 3 1) (waits (fault 4 2) z)) 5 18 1 = t) :=
  ⟨⟨_, (h.1 9 z rfl (by decide)).1⟩,
   ⟨_, (h.2.1 9 0 63 1 63 9 z rfl (by decide) rfl (by decide) (by decide) (by decide)).1⟩,
   ⟨_, (h.2.1 9 1 0 127 255 4 z rfl (by decide) rfl (by decide) (by decide) (by decide)).1⟩,
   ⟨_, ((h.2.2.2.1 z).2.2.1 .a 7).1 rfl⟩,
   ⟨_, (((h.2.2.2.1 mapped).2.2.1 .b 0).2 (by decide)).1 63 77 rfl⟩,
   ⟨_, (((h.2.2.2.1 mapped).2.2.1 .b 1).2 (by decide)).2.1 rfl⟩,
   ⟨_, (((h.2.2.2.1 mapped).2.2.1 .b 2).2 (by decide)).2.2.1 rfl⟩,
   ⟨_, (((h.2.2.2.1 mapped).2.2.1 .b 3).2 (by decide)).2.2.2 rfl⟩,
   ⟨_, ((h.2.2.2.1 (serving (fault 3 1) (waits (fault 4 2) z))).2.2.2.2.1 4).1 (fault 4 2) rfl⟩,
   ⟨_, (((h.2.2.2.1 (serving (fault 3 1) (waits (fault 4 2) z))).2.2.2.2.1 3).2 (by decide)).1 (fault 3 1) rfl⟩,
   ⟨_, (((h.2.2.2.1 (serving (fault 3 1) (waits (fault 4 2) z))).2.2.2.2.1 18).2 (by decide)).2 (by decide)⟩⟩

/-- Witnesses of DefinedRecordsAreStored: board record, tab record. -/
theorem witness_defined_records_are_stored (h : Obligations.DefinedRecordsAreStored) :
    (∃ t, exec (.boardDefine 9 (boardBytes (63, boardN))) (editing z) = .next t) ∧
    (∃ t, exec (.tabDefine 9 (tabBytes (255, tabN))) (editing z) = .next t) :=
  ⟨⟨_, h.1 9 [(63, boardN)] (editing z) rfl rfl (by decide) (by decide)
       (by intro e he; simp at he; subst he; unfold boardFits; decide) (by decide)⟩,
   ⟨_, h.2 9 [(255, tabN)] (editing z) rfl rfl (by decide) (by decide)
       (by intro e he; simp at he; subst he; unfold tabFits; decide) (by decide)⟩⟩

/-- Witnesses of RecipeBeginEmpties: recipe begin, recipe begin halted. -/
theorem witness_recipe_begin_empties (h : Obligations.RecipeBeginEmpties) :
    (∃ t, exec (.recipeBegin 9 []) z = .next t) ∧
    (∃ t, exec (.recipeBegin 9 []) (md .halted z) = .next t) :=
  ⟨⟨_, h 9 z rfl rfl (by decide)⟩,
   ⟨_, h 9 (md .halted z) rfl rfl (by decide)⟩⟩

/-- Witnesses of RecipeCloseConfigures: recipe close, recipe close latched, close fails, no board, close passes, tab
offends, board offends, board list, no list. -/
theorem witness_recipe_close_configures (h : Obligations.RecipeCloseConfigures) :
    (∃ t, exec (.recipeClose 9 [3]) (z.withRecipe { recipe2 with state := .editing, lists := [] }) = .next t) ∧
    (∃ t, exec (.recipeClose 9 [3]) (cutStop (z.withRecipe { recipe2 with state := .editing, lists := [] })) = .next
        t) ∧
    (∃ t, exec (.recipeClose 9 [3]) (editing z) = .next t) ∧
    (∃ t, closeFail z.recipe = t) ∧
    closeFail (recipe1 [(5, tabR 0)]) = none ∧
    closeFail (recipe1 [(255, own)]) = some { code := 2, index := 255 } ∧
    closeFail (recipe1 []) = some { code := 4, index := 0 } ∧
    (∃ l, Table.get (buildLists recipe2) 1 = some l) ∧
    Table.get (buildLists recipe2) 2 = none :=
  ⟨⟨_, h.1 9 3 (z.withRecipe { recipe2 with state := .editing, lists := [] }) rfl rfl (by decide) (by decide)
       (by decide)⟩,
   ⟨_, h.1 9 3 (cutStop (z.withRecipe { recipe2 with state := .editing, lists := [] })) rfl rfl (by decide)
       (by decide) (by decide)⟩,
   ⟨_, h.2.1 9 3 noBoards (editing z) rfl rfl (by decide) (by decide) (by decide)⟩,
   ⟨_, (h.2.2 z.recipe (by decide) (by decide)).1 rfl⟩,
   (h.2.2 (recipe1 [(5, tabR 0)]) (by decide) (by decide)).2.1 (by decide) (fun c => ⟨sound c, ruled c⟩),
   (h.2.2 (recipe1 [(255, own)]) (by decide) (by decide)).2.2.1 2 255 own (by decide) held_before rfl rfl only_255,
   (h.2.2 (recipe1 []) (by decide) (by decide)).2.2.2.1 4 0 (by decide) (fun c l => ⟨fun t d e => (by cases e), early
       c l⟩) rfl (.inl (by decide)) (fun b _ _ => Fin.zero_le b),
   (let ⟨l, e, _⟩ := ((h.2.2 recipe2 (by decide) (by decide)).2.2.2.2 (by decide +kernel) 1).2 rfl; ⟨l, e⟩),
   ((h.2.2 recipe2 (by decide) (by decide)).2.2.2.2 (by decide +kernel) 2).1 rfl⟩

/-- Witnesses of ProfileDefineStores: profile. -/
theorem witness_profile_define_stores (h : Obligations.ProfileDefineStores) :
    ∃ t, exec (.profileDefine 9 ([b8 3, b8 100] ++ le16 800 ++ le32 800 ++ [1, 2, 100])) z = .next t :=
  ⟨_, h 9 3 { slots := 100, pitch := 800, base := 800, dir := .topDown, step := 2, limit := 100 } z rfl
      (by intro x hx; cases x <;> simp [bayOf, z, State.reset, BayRec.reset] at hx) (by decide) (by decide)
      (by decide) (by decide) (.inr rfl) (by decide) (by decide) (by decide) (by decide)⟩

/-- Witnesses of PanelStartBuildsTheRun: panel start. -/
theorem witness_panel_start_builds_the_run (h : Obligations.PanelStartBuildsTheRun) :
    ∃ (body : List Byte) (t : State), exec (.panelStart 9 body) idle2 = .next t :=
  ⟨_, _, h 9 5001 500 (-500) [(1, .skip)] idle2 rfl rfl rfl (by decide) (by decide) (by decide) (by decide)
      (by decide) (by decide) (by decide) (by decide) (by decide) (by decide) (by decide) (by decide) (by decide)⟩

/-- Witnesses of HoldAndResume: hold running, hold halted, hold taken, hold taken halted, hold refused, hold refused
halted, resume held, resume faults open, resume halted, resume refused. -/
theorem witness_hold_and_resume (h : Obligations.HoldAndResume) :
    (∃ t, exec (.holdAtBoundary 9 []) busyRun = .next t) ∧
    (∃ t, exec (.holdAtBoundary 9 []) (rt .running (md .halted z)) = .next t) ∧
    (∃ t, exec (.holdAtBoundary 9 []) (md .held z) = .next t) ∧
    (∃ t, exec (.holdAtBoundary 9 []) (rt .held (md .halted z)) = .next t) ∧
    (∃ t, exec (.holdAtBoundary 9 []) z = .next t) ∧
    (∃ t, exec (.holdAtBoundary 9 []) (rt .idle (md .halted z)) = .next t) ∧
    (∃ t, exec (.resume 9 []) (md .held z) = .next t) ∧
    (∃ t, exec (.resume 9 []) (serving (fault 3 4) (md .halted z)) = .next t) ∧
    (∃ t, exec (.resume 9 []) (serving (fault 3 5) (cutStop (rt .held (md .halted z)))) = .next t) ∧
    (∃ t, exec (.resume 9 []) z = .next t) :=
  ⟨⟨_, (h.1 9 busyRun rfl).1 rfl rfl (by decide)⟩,
   ⟨_, (h.1 9 (rt .running (md .halted z)) rfl).2.1 rfl rfl (by decide)⟩,
   ⟨_, (h.1 9 (md .held z) rfl).2.2.1 (by decide) (by decide)⟩,
   ⟨_, (h.1 9 (rt .held (md .halted z)) rfl).2.2.1 (by decide) (by decide)⟩,
   ⟨_, (h.1 9 z rfl).2.2.2 (by decide) (by decide)⟩,
   ⟨_, (h.1 9 (rt .idle (md .halted z)) rfl).2.2.2 (by decide) (by decide)⟩,
   ⟨_, (h.2 9 .idle (md .held z) rfl).1 (by decide) rfl (by decide)⟩,
   ⟨_, (h.2 9 .idle (serving (fault 3 4) (md .halted z)) rfl).2.1 rfl (by decide) (by decide)⟩,
   ⟨_, (h.2 9 .held (serving (fault 3 5) (cutStop (rt .held (md .halted z)))) rfl).2.2.1 rfl rfl (by decide)
       (by decide)⟩,
   ⟨_, (h.2 9 .idle z rfl).2.2.2 (by decide) (by decide)⟩⟩

/-- Witnesses of PanelStopAbandons: stop again, panel stop, held board abandoned, board kept, held board let go,
releasing board kept, picker left alone, tab bypassed, tab kept, stopped tally, stopped to idle, stopped goes
on. -/
theorem witness_panel_stop_abandons (h : Obligations.PanelStopAbandons) :
    (∃ t, exec (.panelStop 9 []) stopped2 = .next t) ∧
    (∃ t, exec (.panelStop 9 []) (cutting .running .waiting .waiting) = .next t) ∧
    (∃ u, exec (.panelStop 9 []) holdingOne = .next (rest (replied 0x23 9 [] [1] u)) ∧ boardState u 0 = some
        .abandoned) ∧
    (∃ u, exec (.panelStop 9 []) holdingOne = .next (rest (replied 0x23 9 [] [1] u)) ∧ boardRun u 1 = some (run
        .queued 1)) ∧
    (∃ u, exec (.panelStop 9 []) holdingOne = .next (rest (replied 0x23 9 [] [1] u)) ∧ u.ports = { holdingOne.ports
        with picker := strobed .home holdingOne.ports.picker }) ∧
    (∃ u, exec (.panelStop 9 []) (picker .holding (some 0) (some 0) releasing) = .next (rest (replied 0x23 9 [] [1]
        u)) ∧ boardRun u 0 = some (run .held 1)) ∧
    (∃ u, exec (.panelStop 9 []) (cutting .running .waiting .waiting) = .next (rest (replied 0x23 9 [] [1] u)) ∧
        u.picker = (cutting .running .waiting .waiting).picker) ∧
    (∃ u, exec (.panelStop 9 []) (cutting .running .waiting .waiting) = .next (rest (replied 0x23 9 [] [1] u)) ∧
        tabRun u 7 = some (tr .bypassed 0)) ∧
    (∃ u, exec (.panelStop 9 []) (picker .holding (some 0) (some 0) releasing) = .next (rest (replied 0x23 9 [] [1]
        u)) ∧ tabRun u 5 = some (tr .cutting 0)) ∧
    (∃ u, exec (.panelStop 9 []) (cutting .running .waiting .waiting) = .next (rest (replied 0x23 9 [] [1] u)) ∧
        u.seq.boards.map Prod.fst = [0, 1]) ∧
    (∃ u, exec (.panelStop 9 []) (cutting .running .waiting .waiting) = .next (rest (replied 0x23 9 [] [1] u)) ∧
        u.cell.mode = .idle) ∧
    (∃ u, exec (.panelStop 9 []) (picker .holding (some 0) (some 0) releasing) = .next (rest (replied 0x23 9 [] [1]
        u)) ∧ u.cell.ret = none) :=
  ⟨⟨_, (h 9 { panel 77 .cutting with stop := true } stopped2 rfl rfl (by decide)).1 rfl (by decide)⟩,
   (let ⟨u, e, _⟩ := (h 9 (panel 77 .cutting) (cutting .running .waiting .waiting) rfl rfl (by decide)).2 rfl
       (by decide); ⟨_, e⟩),
   (let ⟨u, e, _, _, b, _⟩ := (h 9 (panel 77 .cutting) holdingOne rfl rfl (by decide)).2 rfl (by decide); ⟨u, e, (b 0
       (run .held 1) rfl).2.1 rfl (by rintro ⟨t, a, o⟩; cases a; revert o; decide)⟩),
   (let ⟨u, e, _, _, b, _⟩ := (h 9 (panel 77 .cutting) holdingOne rfl rfl (by decide)).2 rfl (by decide); ⟨u, e, (b 1
       (run .queued 1) rfl).2.2.2 (by decide) (by decide) (by decide) (by decide)⟩),
   (let ⟨u, e, _, _, _, g, _⟩ := (h 9 (panel 77 .cutting) holdingOne rfl rfl (by decide)).2 rfl (by decide); ⟨u, e,
       (g 0 (run .held 1) rfl rfl rfl (by rintro ⟨t, a, o⟩; cases a; revert o; decide) rfl).2.2.2.1 rfl⟩),
   (let ⟨u, e, _, _, b, _⟩ := (h 9 (panel 77 .cutting) (picker .holding (some 0) (some 0) releasing) rfl rfl
       (by decide)).2 rfl (by decide); ⟨u, e, (b 0 (run .held 1) rfl).2.2.1 rfl ⟨5, rfl, .inl rfl⟩⟩),
   (let ⟨u, e, _, _, _, _, k, _⟩ := (h 9 (panel 77 .cutting) (cutting .running .waiting .waiting) rfl rfl
       (by decide)).2 rfl (by decide); ⟨u, e, (k (fun b a => by cases a)).1⟩),
   (let ⟨u, e, _, _, _, _, _, t, _, _, f, _⟩ := (h 9 (panel 77 .cutting) (cutting .running .waiting .waiting) rfl rfl
       (by decide)).2 rfl (by decide); ⟨u, e, (t 7 (tr .uncut 0) rfl).1 ⟨(needed_of 7 e f).trans (by decide +kernel),
       .inl rfl⟩⟩),
   (let ⟨u, e, _, _, _, _, _, t, _⟩ := (h 9 (panel 77 .cutting) (picker .holding (some 0) (some 0) releasing) rfl rfl
       (by decide)).2 rfl (by decide); ⟨u, e, (t 5 (tr .cutting 0) rfl).2 (fun a => absurd a.2 (by decide))⟩),
   (let ⟨u, e, _, _, _, _, _, _, n, _⟩ := (h 9 (panel 77 .cutting) (cutting .running .waiting .waiting) rfl rfl
       (by decide)).2 rfl (by decide); ⟨u, e, (n (by decide)).1⟩),
   (let ⟨u, e, _, _, _, _, _, _, _, m, _⟩ := (h 9 (panel 77 .cutting) (cutting .running .waiting .waiting) rfl rfl
       (by decide)).2 rfl (by decide); ⟨u, e, ((m (.inr rfl)).2 (by simp only [ended_of e]; decide +kernel)).1⟩),
   (let ⟨u, e, _, _, _, _, _, _, _, m, _⟩ := (h 9 (panel 77 .cutting) (picker .holding (some 0) (some 0) releasing)
       rfl rfl (by decide)).2 rfl (by decide); ⟨u, e, ((m (.inl rfl)).1
       (by simp only [ended_of e]; decide +kernel)).2⟩)⟩

/-- Witnesses of ParkAndWake: park idle, park held spinning, park refused, idle timer, wake, wake all stop, wake cut
stop, wake refused. -/
theorem witness_park_and_wake (h : Obligations.ParkAndWake) :
    (∃ t, exec (.park 9 []) (md .idle z) = .next t) ∧
    (∃ t, exec (.park 9 []) (spin .atSpeed (md .held z)) = .next t) ∧
    (∃ t, exec (.park 9 []) z = .next t) ∧
    (∃ t, exec .idleParkTimeout (idleFor 10) = .next t) ∧
    (∃ t, exec (.wake 9 []) (rt .idle (md .parked z)) = .next t) ∧
    (∃ t, exec (.wake 9 []) (allStop (rt .idle (md .parked z))) = .next t) ∧
    (∃ t, exec (.wake 9 []) (cutStop (rt .idle (md .parked z))) = .next t) ∧
    (∃ t, exec (.wake 9 []) z = .next t) :=
  ⟨⟨_, (h.1 9 (md .idle z) rfl).1 (by decide) (by decide)⟩,
   ⟨_, (h.1 9 (spin .atSpeed (md .held z)) rfl).1 (by decide) (by decide)⟩,
   ⟨_, (h.1 9 z rfl).2 (by decide) (by decide) (by decide)⟩,
   ⟨_, h.2.1 10 (idleFor 10) rfl rfl (by decide)⟩,
   ⟨_, (h.2.2 9 (rt .idle (md .parked z)) rfl).1 rfl (by decide) (by decide)⟩,
   ⟨_, (h.2.2 9 (allStop (rt .idle (md .parked z))) rfl).1 rfl (by decide) (by decide)⟩,
   ⟨_, (h.2.2 9 (cutStop (rt .idle (md .parked z))) rfl).1 rfl (by decide) (by decide)⟩,
   ⟨_, (h.2.2 9 z rfl).2 (by decide) (by decide)⟩⟩

/-- Witnesses of CellResetClears: cell reset, cell reset warns. -/
theorem witness_cell_reset_clears (h : Obligations.CellResetClears) :
    (∃ t, exec (.cellReset 9 []) settled = .next t) ∧
    (∃ u, exec (.cellReset 9 []) halfWorn = .next (rest (replied 0x03 9 [] [0] u)) ∧ u.router.wear = 5060) :=
  ⟨(let ⟨_, e, _⟩ := h 9 settled rfl (by intro l; revert l; unfold lineSteady; decide) (by decide) rfl (by decide)
       (by decide) (by decide +kernel); ⟨_, e⟩),
   (let ⟨u, e, _, _, _, _, _, _, _, _, _, _, _, _, _, _, _, _, _, _, _, _, _, _, _, _, _, _, q, _⟩ := h 9 halfWorn
       rfl (by intro l; revert l; unfold lineSteady; decide) (by decide) rfl (by decide) (by decide)
       (by decide +kernel); ⟨u, e, (q.1 opN rfl rfl rfl).1⟩)⟩

/-- Witnesses of SettingsAreClamped: override, spindle timing, picker timing, probe settings, probe mode 3. -/
theorem witness_settings_are_clamped (h : Obligations.SettingsAreClamped) :
    (∃ t, exec (.feedOverride 9 [151]) z = .next t) ∧
    (∃ t, exec (.spindleTiming 9 [4, 61]) z = .next t) ∧
    (∃ t, exec (.pickerTiming 9 [49, 0, 201]) z = .next t) ∧
    (∃ t, exec (.probeSettings 9 [2, 33, 4, 21]) z = .next t) ∧
    (∃ t, exec (.probeSettings 9 [3, 1, 1, 1]) z = .next t) :=
  ⟨⟨_, (h 9 151 0 0 0 z rfl (by decide)).1⟩,
   ⟨_, (h 9 4 61 0 0 z rfl (by decide)).2.1⟩,
   ⟨_, (h 9 49 0 201 0 z rfl (by decide)).2.2.1⟩,
   ⟨_, (h 9 2 33 4 21 z rfl (by decide)).2.2.2.1 .early rfl⟩,
   ⟨_, (h 9 3 1 1 1 z rfl (by decide)).2.2.2.2 (by decide)⟩⟩

/-- Witnesses of BitAndSpeedAreSet: speed stopped, speed running, bit set, bit set refused. -/
theorem witness_bit_and_speed_are_set (h : Obligations.BitAndSpeedAreSet) :
    (∃ t, exec (.spindleSpeed 9 [0, 0]) z = .next t) ∧
    (∃ t, exec (.spindleSpeed 9 [0, 0]) (spin .atSpeed z) = .next t) ∧
    (∃ t, exec (.bitSet 9 (le32 10000 ++ le32 9999 ++ le16 600)) z = .next t) ∧
    (∃ t, exec (.bitSet 9 (le32 10000 ++ le32 9999 ++ le16 600)) (router .verify none false z) = .next t) :=
  ⟨⟨_, (h.1 9 0 0 z rfl).1 (by decide) (by decide)⟩,
   ⟨_, (h.1 9 0 0 (spin .atSpeed z) rfl).2 (by decide) (by decide)⟩,
   ⟨_, (h.2 9 10000 9999 600 z rfl (by decide) (by decide) (by decide) (by decide) (by decide)).1 rfl (by decide)⟩,
   ⟨_, (h.2 9 10000 9999 600 (router .verify none false z) rfl (by decide) (by decide) (by decide) (by decide)
       (by decide)).2 (by decide) (by decide)⟩⟩

/-- Witnesses of BayLoadAndRetire: bay load, retire ready, retire active, retire pending, retire refused, retire
target. -/
theorem witness_bay_load_and_retire (h : Obligations.BayLoadAndRetire) :
    (∃ t, exec (.bayLoad 9 [0, 3]) loadable = .next t) ∧
    (∃ t, exec (.bayRetire 9 [0]) (bayA .ready z) = .next t) ∧
    (∃ t, exec (.bayRetire 9 [0]) (bayA .active z) = .next t) ∧
    (∃ t, exec (.bayRetire 9 [0]) (stacker .push (some hand1) (some .a) (some 0) (bayA .active z)) = .next t) ∧
    (∃ t, exec (.bayRetire 9 [0]) z = .next t) ∧
    (∃ t, exec (.bayRetire 9 [0]) (stacker .fetch (some hand1) (some .a) (some 0) (bayA .active z)) = .next t) :=
  ⟨(let ⟨_, _, _, e, _⟩ := h.1 9 .a 3 profileN loadable rfl (by decide) rfl (by decide); ⟨_, e⟩),
   ⟨_, (h.2 9 .a descN (bayA .ready z) rfl).1 rfl rfl (by decide)⟩,
   ⟨_, (h.2 9 .a descN (bayA .active z) rfl).2.1 rfl rfl (by decide) (by decide)⟩,
   ⟨_, (h.2 9 .a descN (stacker .push (some hand1) (some .a) (some 0) (bayA .active z)) rfl).2.2.2.1 rfl rfl
       (by decide) (by decide)⟩,
   ⟨_, (h.2 9 .a descN z rfl).2.2.2.2 (by decide) (by decide)⟩,
   ⟨_, (h.2 9 .a descN (stacker .fetch (some hand1) (some .a) (some 0) (bayA .active z)) rfl).2.2.1 rfl rfl rfl (.inl
       rfl)⟩⟩

/-- Witnesses of LinesAreConfigured: line same, line changed, line input moved, line first asserted, door first
open, line first deasserted, aux configure, unsupplied input. -/
theorem witness_lines_are_configured (h : Obligations.LinesAreConfigured) :
    (∃ t, exec (.lineConfigure 9 [15, 0, 2]) (pinAt 15 true (lv 15 true z)) = .next t) ∧
    (∃ t, exec (.lineConfigure 9 [4, 1, 0]) (pinAt 4 true (lv 4 true z)) = .next t) ∧
    (∃ t, exec (.lineConfigure 9 [15, 0, 2]) (pinAt 15 false (lv 15 true z)) = .next t) ∧
    (∃ t, exec (.lineConfigure 9 [4, 0, 2]) (pinAt 4 true z) = .next t) ∧
    (∃ t, exec (.lineConfigure 9 [15, 1, 2]) (pinAt 15 true z) = .next t) ∧
    (∃ t, exec (.lineConfigure 9 [0, 0, 2]) (pinAt 0 false z) = .next t) ∧
    (∃ t, exec (.auxConfigure 9 [3, 1, 2, 2, 0]) (auxIs 3 .rising .notice true true z) = .next t) ∧
    (∃ t, exec (.auxConfigure 9 [3, 1, 2, 2, 0]) z = t) :=
  ⟨⟨_, (h.1 9 15 .activeHigh .p20 true (pinAt 15 true (lv 15 true z)) (pinAt 15 true (lv 15 true z)) rfl (.inl ⟨rfl,
       rfl⟩)).1 rfl (by decide)⟩,
   ⟨_, (h.1 9 4 .activeLow .p01 true (pinAt 4 true (lv 4 true z)) (pinAt 4 true (lv 4 true z)) rfl (.inl ⟨rfl,
       rfl⟩)).2.1 rfl (by decide)⟩,
   ⟨_, (h.1 9 15 .activeHigh .p20 false (pinAt 15 false (lv 15 true z)) (pinAt 15 false (lv 15 true z)) rfl (.inl
       ⟨rfl, rfl⟩)).2.1 rfl (by decide)⟩,
   ⟨_, (h.1 9 4 .activeHigh .p20 true (pinAt 4 true z) (pinAt 4 true z) rfl (.inl ⟨rfl, rfl⟩)).2.2 rfl |>.1 (.inl
       rfl) (by decide)⟩,
   ⟨_, (h.1 9 15 .activeLow .p20 true (pinAt 15 true z) (pinAt 15 true z) rfl (.inl ⟨rfl, rfl⟩)).2.2 rfl |>.1 (.inr
       rfl) (by decide)⟩,
   ⟨_, (h.1 9 0 .activeHigh .p20 false (pinAt 0 false z) (pinAt 0 false z) rfl (.inl ⟨rfl, rfl⟩)).2.2 rfl |>.2 rfl
       (by decide) (by decide)⟩,
   ⟨_, h.2 9 3 .highLevel .fault .p20 false true (auxIs 3 .rising .notice true true z) (auxIs 3 .rising .notice true
       true z) rfl (.inl ⟨rfl, rfl⟩) (by decide)⟩,
   ⟨_, h.2 9 3 .highLevel .fault .p20 false (Config.freePin 0) z (z.withFree 1) rfl (.inr ⟨rfl, rfl, rfl⟩)
       (by generalize Config.freePin 0 = v; revert v; decide)⟩⟩

/-- Witnesses of FaultRequests: level set, level fixed, acknowledge, condition stands, wrong fault, nothing pending,
nothing more urgent, most urgent taken. -/
theorem witness_fault_requests (h : Obligations.FaultRequests) :
    (∃ t, exec (.faultLevelSet 9 [2, 7]) z = .next t) ∧
    (∃ t, exec (.faultLevelSet 9 [1, 7]) z = .next t) ∧
    (∃ t, exec (.faultAcknowledge 9 [3]) (serving (fault 3 1) (waits (fault 4 2) z)) = .next t) ∧
    (∃ t, exec (.faultAcknowledge 9 [2]) (serving (fault 2 1) (lv 4 true z)) = .next t) ∧
    (∃ t, exec (.faultAcknowledge 9 [4]) (serving (fault 3 1) (waits (fault 4 2) z)) = .next t) ∧
    takeRule z = z ∧
    takeRule (serving (fault 3 2) (waits (fault 4 2) z)) = (serving (fault 3 2) (waits (fault 4 2) z)) ∧
    (∃ t, takeRule (waits (fault 5 2) (waits (fault 4 2) (serving (fault 3 3) z))) = t) :=
  ⟨⟨_, (h.1 9 2 7 z rfl (by decide) (by decide)).1 (by decide)⟩,
   ⟨_, (h.1 9 1 7 z rfl (by decide) (by decide)).2 (by decide)⟩,
   ⟨_, (h.2.1 9 3 (fault 3 1) [] (serving (fault 3 1) (waits (fault 4 2) z)) rfl rfl).1 rfl (by decide) (by decide)⟩,
   ⟨_, (h.2.1 9 2 (fault 2 1) [] (serving (fault 2 1) (lv 4 true z)) rfl rfl).2.1 rfl (by decide) (by decide)⟩,
   ⟨_, (h.2.1 9 4 (fault 3 1) [] (serving (fault 3 1) (waits (fault 4 2) z)) rfl rfl).2.2 (by decide) (by decide)⟩,
   (h.2.2.1 (fault 3 1) z).1 (.inl rfl),
   (h.2.2.1 (fault 4 2) (serving (fault 3 2) (waits (fault 4 2) z))).1 (.inr ⟨fault 3 2, [], rfl, by decide⟩),
   ⟨_, (h.2.2.1 (fault 4 2) (waits (fault 5 2) (waits (fault 4 2) (serving (fault 3 3) z)))).2 (by decide)
       (by decide) (by intro t b e; cases e; decide)⟩⟩

/-- Witnesses of UnitClearClears: clear refused, clear router idle, clear router waiting, clear router cut, clear
router verify, clear picker empty, clear picker gripping, clear picker approach, clear picker withdrawn, clear
picker holding, clear picker releasing, clear picker placing, clear stacker empty, clear stacker divert, clear
stacker push, clear stacker fetch, clear stacker fetched, clear stacker no entry. -/
theorem witness_unit_clear_clears (h : Obligations.UnitClearClears) :
    (∃ t, exec (.unitClear 9 [0]) z = .next t) ∧
    (∃ t, exec (.unitClear 9 [b8 0]) (md .halted z) = .next t) ∧
    (∃ t, exec (.unitClear 9 [b8 0]) (onRouter .moveClear (router .cut (some opN) false (cutting .halted .waiting
        .waiting))) = .next t) ∧
    (∃ t, exec (.unitClear 9 [b8 0]) (onRouter (.cut 0 0 .xPlus 640 99) (router .cut (some opN) true (bitKnown 0
        10000 (cutting .halted .waiting .waiting)))) = .next t) ∧
    (∃ t, exec (.unitClear 9 [b8 0]) clearing = .next t) ∧
    (∃ t, exec (.unitClear 9 [b8 1]) (md .halted z) = .next t) ∧
    (∃ t, exec (.unitClear 9 [b8 1]) (picker .gripping (some 0) (some 0) (md .halted z)) = .next t) ∧
    (∃ t, exec (.unitClear 9 [b8 1]) (picker .approach (some 0) (some 0) (md .halted z)) = .next t) ∧
    (∃ t, exec (.unitClear 9 [b8 1]) (withdraw (picker .approach (some 0) (some 0) (md .halted z))) = .next t) ∧
    (∃ t, exec (.unitClear 9 [b8 1]) (picker .holding (some 0) (some 0) (cutting .halted .held .waiting)) = .next t) ∧
    (∃ t, exec (.unitClear 9 [b8 1]) (picker .holding (some 0) (some 0) releasing) = .next t) ∧
    (∃ t, exec (.unitClear 9 [b8 1]) (picker .placing (some 0) (some 0) (cutting .halted .freed .waiting)) = .next t) ∧
    (∃ t, exec (.unitClear 9 [b8 2]) (md .halted z) = .next t) ∧
    (∃ t, exec (.unitClear 9 [b8 2]) (stacker .divert (some hand1) none none (md .halted z)) = .next t) ∧
    (∃ t, exec (.unitClear 9 [b8 2]) (stacker .push (some hand1) (some .a) (some 0) (bayA .active (md .halted z))) =
        .next t) ∧
    (∃ t, exec (.unitClear 9 [b8 2]) (stacker .fetch (some hand1) none none (serving (fault 13 2) (lv 11 true ((md
        .halted z).withNests [entryAt 0 0 .occupied])))) = .next t) ∧
    (∃ t, exec (.unitClear 9 [b8 2]) (stacker .fetch (some hand1) none none ((md .halted z).withNests [entryAt 0 0
        .occupied])) = .next t) ∧
    (∃ t, exec (.unitClear 9 [b8 2]) (stacker .fetch (some hand1) none none (lv 11 true (md .halted z))) = .next t) :=
  ⟨⟨_, (h 9 z rfl).1 (by decide) (by decide) 0⟩,
   ⟨_, ((h 9 (md .halted z) rfl).2 rfl).1.1 (.inl rfl) (by decide)⟩,
   ⟨_, ((h 9 (onRouter .moveClear (router .cut (some opN) false (cutting .halted .waiting .waiting))) rfl).2
       rfl).1.2.1 opN rfl rfl rfl (by decide)⟩,
   ⟨_, ((h 9 (onRouter (.cut 0 0 .xPlus 640 99) (router .cut (some opN) true (bitKnown 0 10000 (cutting .halted
       .waiting .waiting)))) rfl).2 rfl).1.2.2.1 opN rfl rfl rfl (by decide)⟩,
   ⟨_, ((h 9 clearing rfl).2 rfl).1.2.2.2 verN rfl rfl (by decide)⟩,
   ⟨_, ((h 9 (md .halted z) rfl).2 rfl).2.1.1 rfl (by decide)⟩,
   ⟨_, ((((h 9 (picker .gripping (some 0) (some 0) (md .halted z)) rfl).2 rfl).2.1.2 0 rfl).1 (by decide)
       (by decide))⟩,
   ⟨_, ((((h 9 (picker .approach (some 0) (some 0) (md .halted z)) rfl).2 rfl).2.1.2 0 rfl).1 (by decide)
       (by decide))⟩,
   ⟨_, ((((h 9 (withdraw (picker .approach (some 0) (some 0) (md .halted z))) rfl).2 rfl).2.1.2 0 rfl).2.1 rfl rfl
       (by decide))⟩,
   ⟨_, ((((h 9 (picker .holding (some 0) (some 0) (cutting .halted .held .waiting)) rfl).2 rfl).2.1.2 0 rfl).2.2.1
       rfl rfl (by intro t ht; cases ht; decide) (by decide))⟩,
   ⟨_, ((((h 9 (picker .holding (some 0) (some 0) releasing) rfl).2 rfl).2.1.2 0 rfl).2.2.2.1 rfl (by decide))⟩,
   ⟨_, ((((h 9 (picker .placing (some 0) (some 0) (cutting .halted .freed .waiting)) rfl).2 rfl).2.1.2 0 rfl).2.2.2.2
       (by decide) (by decide))⟩,
   ⟨_, ((h 9 (md .halted z) rfl).2 rfl).2.2.1 rfl (by decide)⟩,
   ⟨_, ((((h 9 (stacker .divert (some hand1) none none (md .halted z)) rfl).2 rfl).2.2.2 hand1 rfl).1 (by decide)
       (by decide))⟩,
   ⟨_, ((((h 9 (stacker .push (some hand1) (some .a) (some 0) (bayA .active (md .halted z))) rfl).2 rfl).2.2.2 hand1
       rfl).2.1 .a 0 rfl rfl rfl (by decide))⟩,
   ⟨_, ((((h 9 (stacker .fetch (some hand1) none none (serving (fault 13 2) (lv 11 true ((md .halted z).withNests
       [entryAt 0 0 .occupied])))) rfl).2 rfl).2.2.2 hand1 rfl).2.2.1 rfl (by decide) rfl (by decide))⟩,
   ⟨_, ((((h 9 (stacker .fetch (some hand1) none none ((md .halted z).withNests [entryAt 0 0 .occupied])) rfl).2
       rfl).2.2.2 hand1 rfl).2.2.2 rfl (.inr (by decide)) (by decide))⟩,
   ⟨_, ((((h 9 (stacker .fetch (some hand1) none none (lv 11 true (md .halted z))) rfl).2 rfl).2.2.2 hand1 rfl).2.2.2
       rfl (.inl (by decide)) (by decide))⟩⟩

/-- Witnesses of NoticeRequests: notice enable, notice clear, notice clear aux other, notice clear aux edge, notice
clear aux level. -/
theorem witness_notice_requests (h : Obligations.NoticeRequests) :
    (∃ t, exec (.noticeEnable 9 [15, 0]) z = .next t) ∧
    (∃ t, exec (.noticeClear 9 [15]) (sending (.notice 15 false)) = .next t) ∧
    (∃ t, exec (.noticeClear 9 [14]) (auxIs 3 .rising .fault true true z) = .next t) ∧
    (∃ t, exec (.noticeClear 9 [11]) (auxIs 0 .rising .notice true true z) = .next t) ∧
    (∃ t, exec (.noticeClear 9 [11]) (auxIs 0 .lowLevel .notice true false z) = .next t) :=
  ⟨⟨_, (h 9 15 false z rfl (by decide)).1⟩,
   ⟨_, (h 9 15 false (sending (.notice 15 false)) rfl (by decide)).2.1 (by decide)⟩,
   ⟨_, ((h 9 14 false (auxIs 3 .rising .fault true true z) rfl (by decide)).2.2 3 _ rfl rfl).1 (by decide)
       (by decide)⟩,
   ⟨_, ((h 9 11 false (auxIs 0 .rising .notice true true z) rfl (by decide)).2.2 0 _ rfl rfl).2.1 rfl (by decide)
       (by decide)⟩,
   ⟨_, ((h 9 11 false (auxIs 0 .lowLevel .notice true false z) rfl (by decide)).2.2 0 _ rfl rfl).2.2 rfl (by decide)
       rfl (by decide)⟩⟩

/-- Witnesses of CutCompletes: cut completes. -/
theorem witness_cut_completes (h : Obligations.CutCompletes) :
    ∃ t, exec .cutComplete (onRouter (.cut 1003 1996 .xPlus 640 99) (router .cut (some opN) true (lv 0 false
        (bitKnown 700000 1000000 z)))) = .next t :=
  ⟨_, h opN 1003 1996 .xPlus 640 99 (onRouter (.cut 1003 1996 .xPlus 640 99) (router .cut (some opN) true (lv 0 false
      (bitKnown 700000 1000000 z)))) rfl rfl rfl rfl (by decide) rfl (.inr (by decide)) (by decide) (by decide)⟩

/-- Witnesses of RouterMovesComplete: clear then cut, clear then wait, clear then probe, probe move. -/
theorem witness_router_moves_complete (h : Obligations.RouterMovesComplete) :
    (∃ t, exec .moveClearDone (onRouter .moveClear (router .cut (some opN) false (lv 0 false (bitKnown 0 10000 (spin
        .atSpeed z))))) = .next t) ∧
    (∃ t, exec .moveClearDone (onRouter .moveClear (router .cut (some opN) false (lv 0 false (bitKnown 0 10000 z))))
        = .next t) ∧
    (∃ t, exec .moveClearDone (onRouter .moveClear (verifying .move (lv 0 false z))) = .next t) ∧
    (∃ t, exec .probeMoveDone (onRouter (.probeMove 1163 1996) (verifying .move (lv 0 false z))) = .next t) :=
  ⟨⟨_, (h.1 opN verN (onRouter .moveClear (router .cut (some opN) false (lv 0 false (bitKnown 0 10000 (spin .atSpeed
       z))))) rfl rfl).1 rfl rfl rfl rfl rfl (by decide)⟩,
   ⟨_, (h.1 opN verN (onRouter .moveClear (router .cut (some opN) false (lv 0 false (bitKnown 0 10000 z)))) rfl
       rfl).2.1 rfl rfl (by decide) (by decide)⟩,
   ⟨_, (h.1 opN verN (onRouter .moveClear (verifying .move (lv 0 false z))) rfl rfl).2.2 rfl rfl (by decide)⟩,
   ⟨_, h.2 1163 1996 verN (onRouter (.probeMove 1163 1996) (verifying .move (lv 0 false z))) rfl rfl rfl (by decide)⟩⟩

/-- Witnesses of SettledPointIsRead: point undecided, point decides. -/
theorem witness_settled_point_is_read (h : Obligations.SettledPointIsRead) :
    (∃ t, exec .settleTimeout (lv 6 true (settling 0)) = .next t) ∧
    (∃ t, exec .settleTimeout (settling 1) = .next t) :=
  ⟨⟨_, (h (verT 0) 3 (lv 6 true (settling 0)) rfl rfl rfl (by decide)).1 (by decide) (by decide)⟩,
   ⟨_, (h (verT 1) 3 (settling 1) rfl rfl rfl (by decide)).2 (by decide) (by decide)⟩⟩

/-- Witnesses of VerdictIsHandled: severed, severed release, uncut first, uncut second, give up fails boards, give
up spares board, give up faults tab, give up bypasses, give up spares tab, give up lets go, give up withdraws,
give up of no picked, no choice, no tab chosen, tab chosen, pending tab, pending release waits, held release,
window tab, no window in holding, start clears first, start cuts, start verify clears first, start verify
probes, verify off, cut completes off. -/
theorem witness_verdict_is_handled (h : Obligations.VerdictIsHandled) :
    (∃ t, handleVerdict raise opN .severed (cutting .halted .waiting .waiting) = t) ∧
    (∃ t, handleVerdict raise { opN with tab := 5, record := tabR 0 } .severed (picker .holding (some 0) (some 0)
        (cutting .halted .held .waiting)) = t) ∧
    (∃ t, handleVerdict raise opN .uncut (cutting .halted .waiting .waiting) = t) ∧
    (∃ t, handleVerdict raise { opN with attempt := 2 } .uncut (cutting .halted .waiting .waiting) = t) ∧
    ((∃ r, boardRun (giveUp raise 7 (givingUp .holding)) 1 = some r ∧ r.state = .failed ∧ r.remaining = 1)) ∧
    boardRun (giveUp raise 5 (givingUp .holding)) 1 = some (run .waiting 1) ∧
    tabRun (giveUp raise 7 (givingUp .holding)) 7 = some (tr .faulted 0) ∧
    tabRun (giveUp raise 7 (givingUp .holding)) 6 = some (tr .bypassed 0) ∧
    tabRun (giveUp raise 5 (givingUp .holding)) 7 = some (tr .uncut 0) ∧
    (giveUp raise 7 (givingUp .holding)).picker.state = .returning ∧
    (giveUp raise 7 (givingUp .approach)).picker.withdrawn = true ∧
    (giveUp raise 7 (cutting .halted .waiting .waiting)).nests = [] ∧
    chooseCut raise z = z ∧
    chooseCut raise (setTab 7 .severed permits) = setTab 7 .severed permits ∧
    chooseCut raise permits = startTab raise 7 permits ∧
    chosenTab (setTab 7 .recutPending permits) = some 7 ∧
    chosenTab (setTab 5 .verifyPending permits) = none ∧
    chosenTab (cutting .running .held .waiting) = some 5 ∧
    chosenTab permits = some 7 ∧
    chosenTab (md .holding permits) = none ∧
    (∃ t, startTab raise 7 permits = t) ∧
    (∃ t, startTab raise 7 (clear permits) = t) ∧
    (∃ t, startTab raise 7 (unverified permits) = t) ∧
    (∃ t, startTab raise 7 (clear (unverified permits)) = t) ∧
    (∃ t, startTab raise 7 (probesOff (unverified permits)) = t) ∧
    (∃ t, completeCut raise opN (probesOff permits) = t) :=
  ⟨⟨_, (h.1 opN tabN (cutting .halted .waiting .waiting) rfl (by decide) rfl).1 (by decide)⟩,
   (let ⟨u, e, _⟩ := (h.1 { opN with tab := 5, record := tabR 0 } (tabR 0) (picker .holding (some 0) (some 0)
       (cutting .halted .held .waiting)) rfl (by decide) rfl).2.1 rfl rfl rfl rfl rfl; ⟨u, e⟩),
   ⟨_, (h.1 opN tabN (cutting .halted .waiting .waiting) rfl (by decide) rfl).2.2.1 rfl rfl⟩,
   ⟨_, (h.1 { opN with attempt := 2 } tabN (cutting .halted .waiting .waiting) rfl (by decide) rfl).2.2.2 rfl
       (by decide)⟩,
   ((h.2.1 7 tabN (givingUp .holding) rfl (by decide) rfl).1 1 (run .waiting 1) rfl).1 ⟨.inr rfl, rfl⟩,
   ((h.2.1 5 (tabR 0) (givingUp .holding) rfl (by decide) rfl).1 1 (run .waiting 1) rfl).2 (by decide),
   (h.2.1 7 tabN (givingUp .holding) rfl (by decide) rfl).2.1 (tr .uncut 0) rfl,
   ((h.2.1 7 tabN (givingUp .holding) rfl (by decide) rfl).2.2.1 6 (tr .uncut 0) (by decide) rfl).1 ⟨⟨1, ⟨.inr rfl,
       rfl⟩, by decide⟩, by decide +kernel, .inl rfl⟩,
   ((h.2.1 5 (tabR 0) (givingUp .holding) rfl (by decide) rfl).2.2.1 7 (tr .uncut 0) (by decide) rfl).2 (fun a =>
       absurd a.2.1 (by decide +kernel)),
   ((h.2.1 7 tabN (givingUp .holding) rfl (by decide) rfl).2.2.2.2.2.2.1 0 ⟨.inl rfl, rfl⟩ rfl).1 (.inr rfl) |>.1,
   (((h.2.1 7 tabN (givingUp .approach) rfl (by decide) rfl).2.2.2.2.2.2.1 0 ⟨.inl rfl, rfl⟩ rfl).2 rfl rfl rfl).1 ▸
       rfl,
   ((h.2.1 7 tabN (cutting .halted .waiting .waiting) rfl (by decide) rfl).2.2.2.2.2.2.2 (fun _ _ a => by cases a)).2,
   (h.2.2.1 z).1 (.inr (fun a => absurd a.1 (by decide))),
   ((h.2.2.1 (setTab 7 .severed permits)).2 rfl ⟨.inl rfl, rfl, rfl, rfl, rfl, by decide⟩).1 rfl,
   ((h.2.2.1 permits).2 rfl ⟨.inl rfl, rfl, rfl, rfl, rfl, by decide⟩).2 7 rfl,
   ((h.2.2.2.1 (setTab 7 .recutPending permits)).1 7 tabN (tr .recutPending 0) [(5, (tr .uncut 0)), (6, (tr .uncut
       0))] [] rfl (by decide) (.inl rfl) rfl).2 (.inl (by decide)),
   ((h.2.2.2.1 (setTab 5 .verifyPending permits)).1 5 (tabR 0) (tr .verifyPending 0) [] [(6, (tr .uncut 0)), (7, (tr
       .uncut 0))] rfl (by decide) (.inr rfl) rfl).1 rfl (by decide),
   ((h.2.2.2.1 (cutting .running .held .waiting)).2 (by decide)).1 0 (run .held 1) 5 [] [(1, run .waiting 1)] rfl
       (by decide) rfl rfl rfl,
   ((h.2.2.2.1 permits).2 (by decide)).2 none_held |>.2.2 0 7 tabN [] [1] rfl rfl (fun _ a => by cases a) (by decide)
       ⟨rfl, by decide, rfl, 0, .inl rfl, rfl⟩ only_seven,
   (((h.2.2.2.1 (md .holding permits)).2 (by decide)).2 none_held).1 (by decide),
   ⟨_, ((h.2.2.2.2.1 7 tabN (tr .uncut 0) (panel 77 .cutting) permits rfl rfl rfl).1 (.inl rfl)).1 rfl⟩,
   ⟨_, ((h.2.2.2.2.1 7 tabN (tr .uncut 0) (panel 77 .cutting) (clear permits) rfl rfl rfl).1 (.inl rfl)).2 rfl rfl
       rfl⟩,
   ⟨_, ((h.2.2.2.2.1 7 tabN (tr .verifyPending 1) (panel 77 .cutting) (unverified permits) rfl rfl rfl).2 rfl
       (by decide)).1 rfl⟩,
   ⟨_, ((h.2.2.2.2.1 7 tabN (tr .verifyPending 1) (panel 77 .cutting) (clear (unverified permits)) rfl rfl rfl).2 rfl
       (by decide)).2 rfl⟩,
   ⟨_, (h.2.2.2.2.2 opN 7 tabN (tr .verifyPending 1) (panel 77 .cutting) (probesOff (unverified permits)) rfl).1 rfl
       rfl rfl rfl⟩,
   ⟨_, (h.2.2.2.2.2 opN 7 tabN (tr .uncut 0) (panel 77 .cutting) (probesOff permits) rfl).2 rfl⟩⟩

/-- Witnesses of RouterInterruptions: cut times out, clear times out, clear times out verify, probe times out,
interrupted verify, interrupted first cut, interrupted second cut. -/
theorem witness_router_interruptions (h : Obligations.RouterInterruptions) :
    (∃ t, exec .cutTimeout (onRouter (.cut 1003 1996 .xPlus 640 99) (router .cut (some opN) true (bitKnown 0 10000
        (cutting .halted .waiting .waiting)))) = .next t) ∧
    (∃ t, exec .moveClearTimeout (onRouter .moveClear (router .cut (some opN) false (cutting .halted .waiting
        .waiting))) = .next t) ∧
    (∃ t, exec .moveClearTimeout (onRouter .moveClear ((verifying .move (cutting .halted .waiting .waiting)))) =
        .next t) ∧
    (∃ t, exec .probeMoveTimeout (onRouter (.probeMove 1163 1996) (verifying .move (cutting .halted .waiting
        .waiting))) = .next t) ∧
    (∃ t, tabInterrupted raise false opN (cutting .halted .waiting .waiting) = t) ∧
    (∃ t, tabInterrupted raise true opN (cutting .halted .waiting .waiting) = t) ∧
    (∃ t, tabInterrupted raise true { opN with attempt := 2 } (cutting .halted .waiting .waiting) = t) :=
  ⟨⟨_, (h.1 opN verN (.cut 1003 1996 .xPlus 640 99) (onRouter (.cut 1003 1996 .xPlus 640 99) (router .cut (some opN)
       true (bitKnown 0 10000 (cutting .halted .waiting .waiting)))) rfl rfl (by decide)).1 rfl rfl rfl ⟨_, _, _, _,
       _, rfl⟩ (by decide)⟩,
   ⟨_, (h.1 opN verN .moveClear (onRouter .moveClear (router .cut (some opN) false (cutting .halted .waiting
       .waiting))) rfl rfl (by decide)).2.1 rfl rfl rfl rfl (by decide)⟩,
   ⟨_, (h.1 opN verN .moveClear (onRouter .moveClear ((verifying .move (cutting .halted .waiting .waiting)))) rfl rfl
       (by decide)).2.2.1 rfl rfl rfl (by decide)⟩,
   ⟨_, (h.1 opN verN (.probeMove 1163 1996) (onRouter (.probeMove 1163 1996) (verifying .move (cutting .halted
       .waiting .waiting))) rfl rfl (by decide)).2.2.2 rfl rfl ⟨_, _, rfl⟩ (by decide)⟩,
   ⟨_, (h.2 opN (cutting .halted .waiting .waiting) rfl (by decide) rfl).1⟩,
   ⟨_, (h.2 opN (cutting .halted .waiting .waiting) rfl (by decide) rfl).2.1 (by decide)⟩,
   ⟨_, (h.2 { opN with attempt := 2 } (cutting .halted .waiting .waiting) rfl (by decide) rfl).2.2 (by decide)⟩⟩

/-- Witnesses of TachEdges: first edge, late edge, measured edge, third period, first period, off period. -/
theorem witness_tach_edges (h : Obligations.TachEdges) :
    (∃ t, exec (.tachEdge 50001) z = .next t) ∧
    (∃ t, exec (.tachEdge 50001) (edgeAt 0 .atSpeed) = .next t) ∧
    (∃ t, exec (.tachEdge 50000) (edgeAt 0 .atSpeed) = .next t) ∧
    (∃ t, exec (.tachEdge 2061) (qualifying 2) = .next t) ∧
    (∃ t, exec (.tachEdge 1942) (qualifying 0) = .next t) ∧
    (∃ t, exec (.tachEdge 2062) (qualifying 2) = .next t) :=
  ⟨⟨_, (h.1 50001 0 z (by decide)).1 (.inl rfl) (by decide)⟩,
   ⟨_, (h.1 50001 0 (edgeAt 0 .atSpeed) (by decide)).1 (.inr ⟨0, rfl, by decide⟩) (by decide)⟩,
   ⟨_, (h.1 50000 0 (edgeAt 0 .atSpeed) (by decide)).2 rfl (by decide) (by decide) (by decide) (by decide)⟩,
   ⟨_, (h.2 2061 0 (qualifying 2) rfl rfl rfl rfl (by decide) (by decide) (by decide) (by decide)).1 (by decide) rfl
       (by decide)⟩,
   ⟨_, (h.2 1942 0 (qualifying 0) rfl rfl rfl rfl (by decide) (by decide) (by decide) (by decide)).2.1 (by decide)
       (by decide) (by decide)⟩,
   ⟨_, (h.2 2062 0 (qualifying 2) rfl rfl rfl rfl (by decide) (by decide) (by decide) (by decide)).2.2 (by decide)
       (by decide)⟩⟩

/-- Witnesses of SpindleWatches: stabilised, spinup late, stops, stops parked, tach lost at speed, tach lost spinup,
watch arms, sag seventh, sag eighth, sag no sag, sag after, start stopped, stop stopped, start coasting, stop
coasting, start spinup, stop spinup, start at speed, stop at speed. -/
theorem witness_spindle_watches (h : Obligations.SpindleWatches) :
    (∃ t, exec .stabilisationTimeout (timers .spinup .delay) = .next t) ∧
    (∃ t, exec .spinupTimeout (timers .spinup .delay) = .next t) ∧
    (∃ t, exec .spindleCoastTimeout (timers .coasting .off) = .next t) ∧
    (∃ t, exec .spindleCoastTimeout (rt .held (md .parked (timers .coasting .off))) = .next t) ∧
    (∃ t, exec .tachLost (timers .atSpeed .armed) = .next t) ∧
    (∃ t, exec .tachLost (timers .spinup .armed) = .next t) ∧
    (∃ t, exec .tachWatchArm (timers .spinup .delay) = .next t) ∧
    (∃ t, sagPeriod 26999 (sagged 6) = t) ∧
    (∃ t, sagPeriod 26999 (sagged 7) = t) ∧
    (∃ t, sagPeriod 27000 (sagged 7) = t) ∧
    (∃ t, sagPeriod 0 (sagged 8) = t) ∧
    (∃ t, startSpindle z = t) ∧
    stopSpindle z = z ∧
    (∃ t, startSpindle (spin .coasting z) = t) ∧
    stopSpindle (spin .coasting z) = (spin .coasting z) ∧
    startSpindle (spin .spinup z) = (spin .spinup z) ∧
    (∃ t, stopSpindle (spin .spinup z) = t) ∧
    startSpindle (spin .atSpeed z) = (spin .atSpeed z) ∧
    (∃ t, stopSpindle (spin .atSpeed z) = t) :=
  ⟨⟨_, (h.1 7 (timers .spinup .delay)).1 rfl (by decide)⟩,
   ⟨_, (h.1 7 (timers .spinup .delay)).2.1 rfl rfl (by decide)⟩,
   ⟨_, (h.1 7 (timers .coasting .off)).2.2.1 rfl (by decide) (by decide)⟩,
   ⟨_, (h.1 7 (rt .held (md .parked (timers .coasting .off)))).2.2.2.1 .held rfl rfl rfl (by decide)⟩,
   ⟨_, (h.1 7 (timers .atSpeed .armed)).2.2.2.2.1 rfl rfl (by decide)⟩,
   ⟨_, (h.1 7 (timers .spinup .armed)).2.2.2.2.2.1 rfl rfl (by decide)⟩,
   ⟨_, (h.1 7 (timers .spinup .delay)).2.2.2.2.2.2 (by decide) (by decide)⟩,
   ⟨_, (h.2.1 26999 opN (sagged 6) rfl rfl rfl rfl).1 (by decide) (by decide)⟩,
   ⟨_, (h.2.1 26999 opN (sagged 7) rfl rfl rfl rfl).2.1 rfl (by decide)⟩,
   ⟨_, (h.2.1 27000 opN (sagged 7) rfl rfl rfl rfl).2.2.1 (by decide) (by decide)⟩,
   ⟨_, (h.2.1 0 opN (sagged 8) rfl rfl rfl rfl).2.2.2 (by decide)⟩,
   ⟨_, ((h.2.2 z).1 (.inl rfl)).1⟩,
   ((h.2.2 z).1 (.inl rfl)).2,
   ⟨_, ((h.2.2 (spin .coasting z)).1 (.inr rfl)).1⟩,
   ((h.2.2 (spin .coasting z)).1 (.inr rfl)).2,
   ((h.2.2 (spin .spinup z)).2 (.inl rfl)).1,
   ⟨_, ((h.2.2 (spin .spinup z)).2 (.inl rfl)).2⟩,
   ((h.2.2 (spin .atSpeed z)).2 (.inr rfl)).1,
   ⟨_, ((h.2.2 (spin .atSpeed z)).2 (.inr rfl)).2⟩⟩

/-- Witnesses of WearAccrues: wear plain, wear warn, wear ends, wear not both. -/
theorem witness_wear_accrues (h : Obligations.WearAccrues) :
    (∃ t, addWear raise 0 (bitKnown 5000 10000 z) = t) ∧
    (∃ t, addWear raise 1 (bitKnown 5000 10000 z) = t) ∧
    (∃ t, addWear raise 1 (bitKnown 9999 10000 z) = t) ∧
    (¬ (((bitKnown 5000 10000 z).router.wear ≤ 10000 / 2 ∧ 10000 / 2 < min 16777215 (5000 + 1500)) ∧ (bitKnown 5000
        10000 z).router.bit = .known ∧ 10000 ≤ min 16777215 (5000 + 1500))) :=
  ⟨⟨_, (h 0 (bitKnown 5000 10000 z)).1 (by decide) (by decide)⟩,
   ⟨_, (h 1 (bitKnown 5000 10000 z)).2.1 (by decide) (by decide)⟩,
   ⟨_, (h 1 (bitKnown 9999 10000 z)).2.2.1 (by decide) (by decide)⟩,
   (h 1500 (bitKnown 5000 10000 z)).2.2.2 (by decide) (by decide)⟩

/-- Witnesses of PointsAreSpread: points, points of a verify, points inside the frame. -/
theorem witness_points_are_spread (h : Obligations.PointsAreSpread) :
    30 / (2 * 1) ≤ (2 * 0 + 1) * 30 / (2 * 1) ∧
    (25 ≤ 100 / min 32 (max 1 (100 / 25)) ∧ 12 ≤ 100 / (2 * min 32 (max 1 (100 / 25))) ∧ (2 * 3 + 1) * 100 ≤ 126000) ∧
    (0 ≤ (probePoint verEdge 0).1 ∧ (probePoint verEdge 0).1 ≤ 60000 ∧ 0 ≤ (probePoint verEdge 0).2 ∧ (probePoint
        verEdge 0).2 ≤ 45000) :=
  ⟨(h.2.1 30 1 0 (by decide) (by decide) (by decide)).1,
   h.2.2.1 32 100 3 (by decide) (by decide) (by decide) (by decide) (by decide),
   h.2.2.2 verEdge 0 (by decide) (by decide) (by decide) (by decide) (by decide) (by decide) (by decide) rfl
       (by decide) (by decide) (by decide) (by decide)⟩

/-- Witnesses of FullAndEarlyAgree: full and early, full decides, early decides. -/
theorem witness_full_and_early_agree (h : Obligations.FullAndEarlyAgree) :
    (∃ v m, verdictAfter .full 2 0 verN [false, true] = some (v, 2) ∧ verdictAfter .early 2 0 verN [false, true] =
        some (v, m)) ∧
    probeDecision { verN with hits := 2 } = some .severed ∧
    probeDecision { verE with misses := 1 } = some .uncut :=
  ⟨(let ⟨v, m, a, b, _⟩ := h.2 verN 2 0 [false, true] rfl rfl (by decide) rfl; ⟨v, m, a, b⟩),
   (h.1 { verN with hits := 2 }).2.1 rfl rfl (by decide),
   (h.1 { verE with misses := 1 }).2.2.2.1 rfl (by decide)⟩

/-- Witnesses of PickerMovesComplete: approach grips, approach holds, approach withdrawn, carry, carry dropped,
home. -/
theorem witness_picker_moves_complete (h : Obligations.PickerMovesComplete) :
    (∃ t, exec .approachDone (onPicker (.approach 503 496 0) (picker .approach (some 0) (some 0) (lv 1 false (cutting
        .halted .ready .waiting)))) = .next t) ∧
    (∃ t, exec .approachDone (onPicker (.approach 503 496 0) (picker .approach (some 0) (some 0) (lv 1 false (lv 5
        true (cutting .halted .ready .waiting))))) = .next t) ∧
    (∃ t, exec .approachDone (withdraw (onPicker (.approach 503 496 0) (picker .approach (some 0) (some 0) (lv 1
        false z)))) = .next t) ∧
    (∃ t, exec .carryDone (onPicker (.carry 2) (picker .carrying (some 0) (some 2) (lv 1 false z))) = .next t) ∧
    (∃ t, exec .carryDone (onPicker (.carry 2) (picker .carrying none none (lv 1 false z))) = .next t) ∧
    (∃ t, exec .homeDone (onPicker .home (picker .returning none none (lv 1 false z))) = .next t) :=
  ⟨⟨_, (h.1 503 496 0 0 (onPicker (.approach 503 496 0) (picker .approach (some 0) (some 0) (lv 1 false (cutting
       .halted .ready .waiting)))) rfl rfl rfl rfl).1 rfl (by decide) (by decide)⟩,
   ⟨_, (h.1 503 496 0 0 (onPicker (.approach 503 496 0) (picker .approach (some 0) (some 0) (lv 1 false (lv 5 true
       (cutting .halted .ready .waiting))))) rfl rfl rfl rfl).2.1 rfl rfl rfl (by decide)⟩,
   ⟨_, (h.1 503 496 0 0 (withdraw (onPicker (.approach 503 496 0) (picker .approach (some 0) (some 0) (lv 1 false
       z)))) rfl rfl rfl rfl).2.2 rfl (by decide)⟩,
   ⟨_, (h.2.1 2 (onPicker (.carry 2) (picker .carrying (some 0) (some 2) (lv 1 false z))) rfl rfl rfl).1 rfl
       (by decide)⟩,
   ⟨_, (h.2.1 2 (onPicker (.carry 2) (picker .carrying none none (lv 1 false z))) rfl rfl rfl).2 rfl (by decide)⟩,
   ⟨_, h.2.2 (onPicker .home (picker .returning none none (lv 1 false z))) rfl rfl rfl (by decide)⟩⟩

/-- Witnesses of PickerTimers: move times out, grip pauses, grip fails, vacuum pause, blow off, blow off confirmed,
nest window. -/
theorem witness_picker_timers (h : Obligations.PickerTimers) :
    (∃ t, exec .pickerMoveTimeout (onPicker (.carry 0) (timed id (picker .carrying (some 0) (some 0) (cutting .halted
        .freed .waiting)))) = .next t) ∧
    (∃ t, exec .gripTimeout (timed id (picker .gripping (some 0) (some 0) (cutting .halted .freed .waiting))) = .next
        t) ∧
    (∃ t, exec .gripTimeout (timed (fun p => { p with retry := true }) (picker .gripping (some 0) (some 0) (cutting
        .halted .freed .waiting))) = .next t) ∧
    (∃ t, exec .vacuumOffTimeout (timed id (picker .gripping (some 0) (some 0) (cutting .halted .freed .waiting))) =
        .next t) ∧
    (∃ t, exec .blowOffTimeout (timed id (picker .placing (some 0) (some 0) (cutting .halted .freed .waiting))) =
        .next t) ∧
    (∃ t, exec .blowOffTimeout (onTransfer .toMouth (stacker .present (some hand1) (some .a) (some 0) (lv 11 true
        ((timed id (picker .placing (some 0) (some 0) (cutting .halted .freed .waiting))).withNests [entryAt 0 0
        .reserved])))) = .next t) ∧
    (∃ t, exec .nestWindowTimeout (timed id (picker .placing (some 0) (some 0) (cutting .halted .freed .waiting))) =
        .next t) :=
  ⟨⟨_, (h 7 0 0 (onPicker (.carry 0) (timed id (picker .carrying (some 0) (some 0) (cutting .halted .freed
       .waiting)))) rfl).1 rfl rfl (by decide)⟩,
   ⟨_, (h 7 0 0 (timed id (picker .gripping (some 0) (some 0) (cutting .halted .freed .waiting))) rfl).2.1 rfl rfl
       rfl (by decide)⟩,
   ⟨_, (h 7 0 0 (timed (fun p => { p with retry := true }) (picker .gripping (some 0) (some 0) (cutting .halted
       .freed .waiting))) rfl).2.2.1 rfl rfl rfl (by decide)⟩,
   ⟨_, (h 7 0 0 (timed id (picker .gripping (some 0) (some 0) (cutting .halted .freed .waiting))) rfl).2.2.2.1 rfl
       rfl (by decide) (by decide)⟩,
   ⟨_, ((h 7 0 0 (timed id (picker .placing (some 0) (some 0) (cutting .halted .freed .waiting))) rfl).2.2.2.2.1 rfl
       rfl rfl).1 (by decide) (by decide)⟩,
   ⟨_, ((h 7 0 0 (onTransfer .toMouth (stacker .present (some hand1) (some .a) (some 0) (lv 11 true ((timed id
       (picker .placing (some 0) (some 0) (cutting .halted .freed .waiting))).withNests [entryAt 0 0 .reserved]))))
       rfl).2.2.2.2.1 rfl rfl rfl).2 rfl (by decide)⟩,
   ⟨_, (h 7 0 0 (timed id (picker .placing (some 0) (some 0) (cutting .halted .freed .waiting))) rfl).2.2.2.2.2 rfl
       rfl rfl (by decide)⟩⟩

/-- Witnesses of VacuumChanges: vacuum holds, vacuum asserts, vacuum lost, board dropped, vacuum deasserts, vacuum
lost again, release cut lost, release given up, release verify lost. -/
theorem witness_vacuum_changes (h : Obligations.VacuumChanges) :
    (∃ t, exec .vacuumOkAssert (lv 5 false (gripOn (picker .gripping (some 0) (some 0) (cutting .halted .ready
        .waiting)))) = .next t) ∧
    (∃ t, exec .vacuumOkAssert (lv 5 false z) = .next t) ∧
    (∃ t, exec .vacuumOkDeassert (lv 5 true (picker .holding (some 0) (some 0) (cutting .halted .held .waiting))) =
        .next t) ∧
    (∃ t, exec .vacuumOkDeassert (lv 5 true (onPicker (.carry 0) (picker .carrying (some 0) (some 0) (cutting .halted
        .freed .waiting)))) = .next t) ∧
    (∃ t, exec .vacuumOkDeassert (lv 5 true z) = .next t) ∧
    (∃ t, exec .vacuumOkDeassert (lv 5 true (marked holdingOne)) = .next t) ∧
    (∃ t, exec .vacuumOkDeassert (lv 5 true (picker .holding (some 0) (some 0) releasing)) = .next t) ∧
    (∃ t, exec .vacuumOkDeassert (lv 5 true (picker .holding (some 0) (some 0) (lastTry releasing))) = .next t) ∧
    (∃ t, exec .vacuumOkDeassert (lv 5 true (picker .holding (some 0) (some 0) releaseVerified)) = .next t) :=
  ⟨⟨_, (h.1 7 0 (lv 5 false (gripOn (picker .gripping (some 0) (some 0) (cutting .halted .ready .waiting)))) rfl).1
       rfl rfl rfl rfl rfl (by decide)⟩,
   ⟨_, (h.1 7 0 (lv 5 false z) rfl).2 (by decide) (by decide)⟩,
   ⟨_, ((h.2 0 (run .held 1) (lv 5 true (picker .holding (some 0) (some 0) (cutting .halted .held .waiting))) rfl).1
       rfl rfl (by decide) (by decide) (by decide) rfl).1 (by intro t ht; cases ht; decide) (by decide)⟩,
   ⟨_, (h.2 0 (run .held 1) (lv 5 true (onPicker (.carry 0) (picker .carrying (some 0) (some 0) (cutting .halted
       .freed .waiting)))) rfl).2.1 rfl rfl rfl (by decide) (by decide)⟩,
   ⟨_, (h.2 0 (run .held 1) (lv 5 true z) rfl).2.2 (by decide) (by decide) (by decide)⟩,
   ⟨_, ((h.2 0 regripped (lv 5 true (marked holdingOne)) rfl).1 rfl rfl (by decide) (by decide) (by decide) rfl).1
       (by intro t a; cases a; decide) (by decide)⟩,
   ⟨_, (((h.2 0 (run .held 1) (lv 5 true (picker .holding (some 0) (some 0) releasing)) rfl).1 rfl rfl (by decide)
       (by decide) (by decide) rfl).2 5 rfl (.inl (by decide))).1 opR rfl rfl |>.1 (by decide) (by decide)
       (by decide) (by decide)⟩,
   ⟨_, (((h.2 0 (run .held 1) (lv 5 true (picker .holding (some 0) (some 0) (lastTry releasing))) rfl).1 rfl rfl
       (by decide) (by decide) (by decide) rfl).2 5 rfl (.inl (by decide))).1 opR2 rfl rfl |>.2 (by decide)
       (by decide) (by decide)⟩,
   ⟨_, (((h.2 0 (run .held 1) (lv 5 true (picker .holding (some 0) (some 0) releaseVerified)) rfl).1 rfl rfl
       (by decide) (by decide) (by decide) rfl).2 5 rfl (.inr (by decide))).2 verR rfl rfl |>.1 (by decide)
       (by decide) (by decide) (by decide)⟩⟩

/-- Witnesses of GrantReserves: grant, placement, stacker busy, no entry, head reserved, cycle without bay, cycle
with bay, not open, no bay yet, bay taken, bay taken in fetch, bay awaited, bay not awaited, front and window,
front after queued, no front. -/
theorem witness_grant_reserves (h : Obligations.GrantReserves) :
    (∃ t, grant ((cutting .running .ready .waiting).withNests [entryAt 0 1 .occupied]) = t) ∧
    (∃ t, placementConfirmed 0 0 ((picker .placing (some 0) (some 0) (cutting .halted .freed .waiting)).withNests
        [entryAt 0 0 .reserved]) = t) ∧
    startCycle gateOpen = gateOpen ∧
    startCycle z = z ∧
    startCycle (z.withNests [entryAt 0 0 .reserved]) = (z.withNests [entryAt 0 0 .reserved]) ∧
    (∃ t, startCycle (z.withNests [entryAt 0 0 .occupied]) = t) ∧
    (∃ t, startCycle (bayA .ready (z.withNests [entryAt 0 0 .occupied])) = t) ∧
    retarget gateOpen = gateOpen ∧
    retarget (stacker .waitBay (some hand1) none none z) = (stacker .waitBay (some hand1) none none z) ∧
    (∃ t, retarget (stacker .waitBay (some hand1) none none (bayA .ready z)) = t) ∧
    (∃ t, retarget (stacker .fetch (some hand1) none none (bayA .ready (allStop z))) = t) ∧
    (∃ t, awaitBay (stacker .checkSlot (some hand1) none none z) = t) ∧
    awaitBay gateOpen = gateOpen ∧
    (front permits = some 0 ∧ window permits = [0, 1]) ∧
    (front (cutting .running .queued .held) = some 1 ∧ window (cutting .running .queued .held) = [1]) ∧
    (front z = none ∧ window z = []) :=
  ⟨⟨_, h.2.1 0 { pickX := 500, pickY := 500, height := 0 } (panel 77 .cutting) (run .ready 1) 1 ((cutting .running
       .ready .waiting).withNests [entryAt 0 1 .occupied]) rfl rfl rfl (by decide) (by decide) (by decide)
       (by decide) (by decide) (by decide) rfl rfl rfl rfl⟩,
   ⟨_, h.2.2.1 0 0 ((picker .placing (some 0) (some 0) (cutting .halted .freed .waiting)).withNests [entryAt 0 0
       .reserved])⟩,
   (h.2.2.2.1 (entryAt 0 0 .occupied) [] gateOpen).1 (.inl (by decide)),
   (h.2.2.2.1 (entryAt 0 0 .occupied) [] z).2.1 rfl,
   (h.2.2.2.1 (entryAt 0 0 .reserved) [] (z.withNests [entryAt 0 0 .reserved])).2.2.1 rfl rfl,
   ⟨_, ((h.2.2.2.1 (entryAt 0 0 .occupied) [] (z.withNests [entryAt 0 0 .occupied])).2.2.2 rfl rfl rfl ⟨rfl, by
       decide⟩).1 (.inr (fun x => by cases x <;> (unfold mayTake; decide)))⟩,
   ⟨_, ((h.2.2.2.1 (entryAt 0 0 .occupied) [] (bayA .ready (z.withNests [entryAt 0 0 .occupied]))).2.2.2 rfl rfl rfl
       ⟨rfl, by decide⟩).2 .a descN 0 rfl (.inr ⟨rfl, by decide, by decide, by decide⟩) rfl rfl⟩,
   (h.2.2.2.2 hand1 .a descN 0 gateOpen rfl).1 (.inl (fun a => absurd a.2.2 (by decide))),
   (h.2.2.2.2 hand1 .a descN 0 (stacker .waitBay (some hand1) none none z) rfl).1 (.inr (fun x => by cases x <;>
       (unfold mayTake; decide))),
   ⟨_, ((h.2.2.2.2 hand1 .a descN 0 (stacker .waitBay (some hand1) none none (bayA .ready z)) rfl).2.1 ⟨rfl, rfl, by
       decide⟩ (.inr ⟨rfl, by decide, by decide, by decide⟩) rfl rfl).1 ⟨rfl, by decide⟩⟩,
   ⟨_, ((h.2.2.2.2 hand1 .a descN 0 (stacker .fetch (some hand1) none none (bayA .ready (allStop z))) rfl).2.1 ⟨rfl,
       rfl, by decide⟩ (.inr ⟨rfl, by decide, by decide, by decide⟩) rfl rfl).2 (fun a => absurd a.1 (by decide))⟩,
   ⟨_, (h.2.2.2.2 hand1 .a descN 0 (stacker .checkSlot (some hand1) none none z) rfl).2.2.1 ⟨rfl, rfl, by decide⟩
       (by decide) rfl rfl⟩,
   (h.2.2.2.2 hand1 .a descN 0 gateOpen rfl).2.2.2 (.inl (fun a => absurd a.2.2 (by decide))),
   (h.1 permits).1 0 [] [1] rfl (fun _ m => by cases m) (by decide),
   (h.1 (cutting .running .queued .held)).1 1 [0] [] rfl (by decide) (by decide),
   (h.1 z).2 (fun _ m => by cases m)⟩

/-- Witnesses of NestLinesChange: nest asserts, nest deasserts, nest taken, nest confirms, fetch confirms. -/
theorem witness_nest_lines_change (h : Obligations.NestLinesChange) :
    (∃ t, exec (.nestLineAssert 2) (lv 13 false z) = .next t) ∧
    (∃ t, exec (.nestLineDeassert 2) (lv 13 true z) = .next t) ∧
    (∃ t, exec (.nestLineDeassert 2) (serving (fault 13 2) (lv 13 true ((stacker .idle none none none (cutting
        .halted .queued .waiting)).withNests [entryAt 2 0 .occupied]))) = .next t) ∧
    (∃ t, exec (.nestLineAssert 0) (serving (fault 13 2) (lv 11 false (timed id (picker .placing (some 0) (some 0)
        ((cutting .halted .freed .waiting).withNests [entryAt 0 0 .reserved]))))) = .next t) ∧
    (∃ t, exec (.nestLineDeassert 0) (lv 11 true (clearing8 (stacker .fetch (some hand1) (some .a) (some 0) (bayA
        .active ((cutting .halted .queued .waiting).withNests [entryAt 0 0 .occupied]))))) = .next t) :=
  ⟨⟨_, (h.1 2 (entryAt 2 0 .occupied) (lv 13 false z) (by decide) (by decide)).1 rfl (by decide)⟩,
   ⟨_, ((h.1 2 (entryAt 2 0 .occupied) (lv 13 true z) (by decide) (by decide)).2 rfl).1 (by decide) (by decide)⟩,
   ⟨_, ((h.1 2 (entryAt 2 0 .occupied) (serving (fault 13 2) (lv 13 true ((stacker .idle none none none (cutting
       .halted .queued .waiting)).withNests [entryAt 2 0 .occupied]))) (by decide) (by decide)).2 rfl).2 (by decide)
       (by decide)⟩,
   ⟨_, (h.2 0 0 (entryAt 0 0 .occupied) hand1 [] (serving (fault 13 2) (lv 11 false (timed id (picker .placing (some
       0) (some 0) ((cutting .halted .freed .waiting).withNests [entryAt 0 0 .reserved])))))).1 rfl rfl rfl rfl rfl
       (by decide) (by decide)⟩,
   ⟨_, (h.2 0 0 (entryAt 0 0 .occupied) hand1 [] (lv 11 true (clearing8 (stacker .fetch (some hand1) (some .a) (some
       0) (bayA .active ((cutting .halted .queued .waiting).withNests [entryAt 0 0 .occupied])))))).2 rfl (by decide)
       rfl rfl rfl rfl rfl rfl rfl (by decide)⟩⟩

/-- Witnesses of FetchFromTheNest: from nest waits, from nest ends, nest clear window, fetch without bay, fetch with
bay, fetch slot free, fetch slot held back, fetch slot taken, fetch scrap, fetch scrap held back. -/
theorem witness_fetch_from_the_nest (h : Obligations.FetchFromTheNest) :
    (∃ t, exec .fromNestDone (onTransfer (.fromNest 0) (lv 2 false (lv 11 true (stacker .fetch (some hand1) (some .a)
        (some 0) (bayA .active ((cutting .halted .queued .waiting).withNests [entryAt 0 0 .occupied])))))) = .next t) ∧
    (∃ t, exec .fromNestDone (onTransfer (.fromNest 0) (lv 2 false (stacker .fetch (some hand1) (some .a) (some 0)
        (bayA .active ((cutting .halted .queued .waiting).withNests [entryAt 0 0 .occupied]))))) = .next t) ∧
    (∃ t, exec .nestClearWindowTimeout (clearing8 (stacker .fetch (some hand1) (some .a) (some 0) (bayA .active
        ((cutting .halted .queued .waiting).withNests [entryAt 0 0 .occupied])))) = .next t) ∧
    (∃ t, fetchEnds hand1 queued = t) ∧
    (∃ t, fetchEnds hand1 (stacker .fetch (some hand1) (some .a) (some 0) queued) = t) ∧
    (∃ t, fetchEnds hand1 (risen queued) = t) ∧
    (∃ t, fetchEnds hand1 (risen (allStop queued)) = t) ∧
    (∃ t, fetchEnds hand1 (risen (lv 8 true queued)) = t) ∧
    (∃ t, fetchEnds { hand1 with disposition := .scrap } queued = t) ∧
    (∃ t, fetchEnds { hand1 with disposition := .scrap } (allStop queued) = t) :=
  ⟨⟨_, ((h.1 0 hand1 7 (onTransfer (.fromNest 0) (lv 2 false (lv 11 true (stacker .fetch (some hand1) (some .a) (some
       0) (bayA .active ((cutting .halted .queued .waiting).withNests [entryAt 0 0 .occupied])))))) rfl).1 rfl rfl).1
       rfl (by decide)⟩,
   ⟨_, ((h.1 0 hand1 7 (onTransfer (.fromNest 0) (lv 2 false (stacker .fetch (some hand1) (some .a) (some 0) (bayA
       .active ((cutting .halted .queued .waiting).withNests [entryAt 0 0 .occupied]))))) rfl).1 rfl rfl).2
       (by decide) (by decide)⟩,
   ⟨_, (h.1 0 hand1 7 (clearing8 (stacker .fetch (some hand1) (some .a) (some 0) (bayA .active ((cutting .halted
       .queued .waiting).withNests [entryAt 0 0 .occupied])))) rfl).2 rfl (by decide)⟩,
   ⟨_, (h.2 hand1 queued).1 rfl rfl⟩,
   ⟨_, ((h.2 hand1 (stacker .fetch (some hand1) (some .a) (some 0) queued)).2.1 .a rfl rfl).1 (.inl rfl)⟩,
   ⟨_, (((h.2 hand1 (risen queued)).2.1 .a rfl rfl).2 0 rfl rfl rfl rfl).1 (by decide) ⟨rfl, by decide⟩⟩,
   ⟨_, (((h.2 hand1 (risen (allStop queued))).2.1 .a rfl rfl).2 0 rfl rfl rfl rfl).2.1 (by decide) (fun a => absurd
       a.1 (by decide))⟩,
   ⟨_, (((h.2 hand1 (risen (lv 8 true queued))).2.1 .a rfl rfl).2 0 rfl rfl rfl rfl).2.2 rfl⟩,
   ⟨_, (h.2 { hand1 with disposition := .scrap } queued).2.2.1 (by decide) ⟨rfl, by decide⟩⟩,
   ⟨_, (h.2 { hand1 with disposition := .scrap } (allStop queued)).2.2.2 (by decide) (fun a => absurd a.1
       (by decide))⟩⟩

/-- Witnesses of BoardGoesToTheMouth: elevate first, elevate free slot, elevate blocked slot, mouth pusher home,
mouth pusher away. -/
theorem witness_board_goes_to_the_mouth (h : Obligations.BoardGoesToTheMouth) :
    (∃ t, exec .elevateDone (onTransfer (.fromNest 0) (onElevator (.elevate .a 1200) (lv 3 false (stacker .fetch
        (some hand1) (some .a) (some 0) (bayA .active z))))) = .next t) ∧
    (∃ t, exec .elevateDone (onElevator (.elevate .a 1200) (lv 3 false (stacker .checkSlot (some hand1) (some .a)
        (some 0) (bayA .active z)))) = .next t) ∧
    (∃ t, exec .elevateDone (onElevator (.elevate .a 1200) (lv 3 false (stacker .checkSlot (some hand1) (some .a)
        (some 0) (bayA .active (lv 8 true z))))) = .next t) ∧
    (∃ t, exec .toMouthDone (onTransfer .toMouth (lv 2 false (stacker .present (some hand1) (some .a) (some 0) (bayA
        .active (lv 7 true z))))) = .next t) ∧
    (∃ t, exec .toMouthDone (onTransfer .toMouth (lv 2 false (stacker .present (some hand1) (some .a) (some 0) (bayA
        .active z)))) = .next t) :=
  ⟨⟨_, (h.1 .a .a 1200 0 (onTransfer (.fromNest 0) (onElevator (.elevate .a 1200) (lv 3 false (stacker .fetch (some
       hand1) (some .a) (some 0) (bayA .active z))))) rfl rfl rfl rfl).1 (by decide) (by decide)⟩,
   ⟨_, (h.1 .a .a 1200 0 (onElevator (.elevate .a 1200) (lv 3 false (stacker .checkSlot (some hand1) (some .a) (some
       0) (bayA .active z)))) rfl rfl rfl rfl).2.1 rfl rfl rfl (by decide) rfl (by decide) (by decide)⟩,
   ⟨_, (h.1 .a .a 1200 0 (onElevator (.elevate .a 1200) (lv 3 false (stacker .checkSlot (some hand1) (some .a) (some
       0) (bayA .active (lv 8 true z))))) rfl rfl rfl rfl).2.2 rfl rfl rfl rfl (by decide)⟩,
   ⟨_, (h.2 .a (onTransfer .toMouth (lv 2 false (stacker .present (some hand1) (some .a) (some 0) (bayA .active (lv 7
       true z))))) rfl rfl rfl rfl rfl (by decide)).1 rfl (by decide)⟩,
   ⟨_, (h.2 .a (onTransfer .toMouth (lv 2 false (stacker .present (some hand1) (some .a) (some 0) (bayA .active z))))
       rfl rfl rfl rfl rfl (by decide)).2 (by decide) (by decide)⟩⟩

/-- Witnesses of PushSettlesTheSlot: push begins, push leaves, push fills, push misses, home wait times out, leave
times out, return times out. -/
theorem witness_push_settles_the_slot (h : Obligations.PushSettlesTheSlot) :
    (∃ t, exec .pusherHomeAssert (lv 7 false (stroke (some 7) none none (stacker .push (some hand1) (some .a) (some
        0) (bayA .active z)))) = .next t) ∧
    (∃ t, exec .pusherHomeDeassert (lv 7 true (stroke none (some 7) none (stacker .push (some hand1) (some .a) (some
        0) (bayA .active z)))) = .next t) ∧
    (∃ t, exec .pusherHomeAssert (lv 8 true (lv 7 false (stroke none none (some 7) (stacker .push (some hand1) (some
        .a) (some 0) (bayA .active (cutting .halted .queued .waiting)))))) = .next t) ∧
    (∃ t, exec .pusherHomeAssert (lv 7 false (stroke none none (some 7) (stacker .push (some hand1) (some .a) (some
        0) (bayA .active (cutting .halted .queued .waiting))))) = .next t) ∧
    (∃ t, exec .homeWaitTimeout (stroke (some 7) none none (stacker .push (some hand1) (some .a) (some 0) (bayA
        .active (cutting .halted .queued .waiting)))) = .next t) ∧
    (∃ t, exec .leaveTimeout (stroke none (some 7) none (stacker .push (some hand1) (some .a) (some 0) (bayA .active
        (cutting .halted .queued .waiting)))) = .next t) ∧
    (∃ t, exec .returnTimeout (stroke none none (some 7) (stacker .push (some hand1) (some .a) (some 0) (bayA .active
        (cutting .halted .queued .waiting)))) = .next t) :=
  ⟨⟨_, (h.1 7 hand1 .a 0 descN (lv 7 false (stroke (some 7) none none (stacker .push (some hand1) (some .a) (some 0)
       (bayA .active z)))) rfl rfl rfl).1 rfl rfl rfl (by decide)⟩,
   ⟨_, (h.1 7 hand1 .a 0 descN (lv 7 true (stroke none (some 7) none (stacker .push (some hand1) (some .a) (some 0)
       (bayA .active z)))) rfl rfl rfl).2.1 rfl rfl (by decide)⟩,
   ⟨_, ((h.1 7 hand1 .a 0 descN (lv 8 true (lv 7 false (stroke none none (some 7) (stacker .push (some hand1) (some
       .a) (some 0) (bayA .active (cutting .halted .queued .waiting)))))) rfl rfl rfl).2.2 rfl rfl rfl rfl).1 rfl
       (by decide)⟩,
   ⟨_, ((h.1 7 hand1 .a 0 descN (lv 7 false (stroke none none (some 7) (stacker .push (some hand1) (some .a) (some 0)
       (bayA .active (cutting .halted .queued .waiting))))) rfl rfl rfl).2.2 rfl rfl rfl rfl).2 (by decide)
       (by decide)⟩,
   ⟨_, (h.2.1 7 hand1 .a 0 (stroke (some 7) none none (stacker .push (some hand1) (some .a) (some 0) (bayA .active
       (cutting .halted .queued .waiting)))) rfl rfl rfl (by decide)).1 rfl⟩,
   ⟨_, (h.2.1 7 hand1 .a 0 (stroke none (some 7) none (stacker .push (some hand1) (some .a) (some 0) (bayA .active
       (cutting .halted .queued .waiting)))) rfl rfl rfl (by decide)).2.1 rfl⟩,
   ⟨_, (h.2.1 7 hand1 .a 0 (stroke none none (some 7) (stacker .push (some hand1) (some .a) (some 0) (bayA .active
       (cutting .halted .queued .waiting)))) rfl rfl rfl (by decide)).2.2 rfl⟩⟩

/-- Witnesses of ChuteDiverts: to chute, chute passes, chute pass shut, chute missed. -/
theorem witness_chute_diverts (h : Obligations.ChuteDiverts) :
    (∃ t, exec .toChuteDone (onTransfer .toChute (lv 2 false (stacker .divert (some hand1) none none z))) = .next t) ∧
    (∃ t, exec .chutePass (lv 14 false (gate (cutting .halted .queued .waiting))) = .next t) ∧
    (∃ t, exec .chutePass (lv 14 false (stacker .divert (some hand1) none none z)) = .next t) ∧
    (∃ t, exec .chuteWindowTimeout (gate (cutting .halted .queued .waiting)) = .next t) :=
  ⟨⟨_, (h hand1 7 (onTransfer .toChute (lv 2 false (stacker .divert (some hand1) none none z))) rfl).1 rfl rfl
       (by decide)⟩,
   ⟨_, (h hand1 7 (lv 14 false (gate (cutting .halted .queued .waiting))) rfl).2.1 rfl rfl (by decide)⟩,
   ⟨_, (h hand1 7 (lv 14 false (stacker .divert (some hand1) none none z)) rfl).2.2.1 rfl (by decide)⟩,
   ⟨_, (h hand1 7 (gate (cutting .halted .queued .waiting)) rfl).2.2.2 rfl (by decide)⟩⟩

/-- Witnesses of StackerOrdersTimeOut: transfer times out, elevator times out. -/
theorem witness_stacker_orders_time_out (h : Obligations.StackerOrdersTimeOut) :
    (∃ t, exec .transferTimeout (orders (onTransfer .toMouth (onElevator (.elevate .a 1200) (stacker .present (some
        hand1) (some .a) (some 0) (bayA .active z))))) = .next t) ∧
    (∃ t, exec .elevatorTimeout (orders (onTransfer .toMouth (onElevator (.elevate .a 1200) (stacker .present (some
        hand1) (some .a) (some 0) (bayA .active z))))) = .next t) :=
  ⟨⟨_, (h hand1 .a 1200 7 .toMouth (orders (onTransfer .toMouth (onElevator (.elevate .a 1200) (stacker .present
       (some hand1) (some .a) (some 0) (bayA .active z))))) rfl).1 rfl rfl rfl (by decide)⟩,
   ⟨_, (h hand1 .a 1200 7 .toMouth (orders (onTransfer .toMouth (onElevator (.elevate .a 1200) (stacker .present
       (some hand1) (some .a) (some 0) (bayA .active z))))) rfl).2 rfl rfl rfl (by decide)⟩⟩

/-- Witnesses of BaysFillAndChange: bay comes, bay goes, bay pulled, pushed bay pulled, target bay pulled, bay goes
on, bay ends. -/
theorem witness_bays_fill_and_change (h : Obligations.BaysFillAndChange) :
    (∃ t, exec (.bayPresentAssert .b) (lv 10 false z) = .next t) ∧
    (∃ t, exec (.bayPresentDeassert .a) (lv 9 true (bayA .complete z)) = .next t) ∧
    (∃ t, exec (.bayPresentDeassert .a) (lv 9 true (bayA .active z)) = .next t) ∧
    (∃ t, exec (.bayPresentDeassert .a) (lv 9 true (stacker .push (some hand1) (some .a) (some 0) (bayA .active
        (cutting .halted .queued .waiting)))) = .next t) ∧
    (∃ t, exec (.bayPresentDeassert .a) (lv 9 true (stacker .fetch (some hand1) (some .a) (some 0) (bayA .active
        (cutting .halted .queued .waiting)))) = .next t) ∧
    (∃ t, advance .a (bayA .active z) = t) ∧
    (∃ t, advance .a (lastVisit z) = t) :=
  ⟨⟨_, (h.1 .b (lv 10 false z)).1 rfl rfl (by decide)⟩,
   ⟨_, ((h.1 .a (lv 9 true (bayA .complete z))).2 rfl).1 (by decide) (by decide)⟩,
   ⟨_, ((h.1 .a (lv 9 true (bayA .active z))).2 rfl).2.1 (.inr ⟨rfl, by decide⟩) (by decide)⟩,
   ⟨_, (((h.1 .a (lv 9 true (stacker .push (some hand1) (some .a) (some 0) (bayA .active (cutting .halted .queued
       .waiting))))).2 rfl).2.2 hand1 rfl rfl rfl).1 rfl (by decide)⟩,
   ⟨_, (((h.1 .a (lv 9 true (stacker .fetch (some hand1) (some .a) (some 0) (bayA .active (cutting .halted .queued
       .waiting))))).2 rfl).2.2 hand1 rfl rfl rfl).2 (.inl rfl) (by decide)⟩,
   ⟨_, (h.2 .a descN (bayA .active z) rfl).1 (by decide)⟩,
   ⟨_, (h.2 .a { descN with visit := 1, next := some 2 } (lastVisit z) rfl).2 (by decide)⟩⟩

/-- Witnesses of FilterNeedsThreeSamples: filter. -/
theorem witness_filter_needs_three_samples (h : Obligations.FilterNeedsThreeSamples) :
    (Filter.sample true (Filter.sample true (Filter.sample true ⟨some false, 0, false⟩))).level = some true :=
  (h false true ⟨some false, 0, false⟩ rfl rfl (by decide)).2.2.1

/-- Witnesses of LinesAreHandedOver: stop opens, stop closes, drive faults, drive recovers, door opens, door closes,
beam, slot occupied line. -/
theorem witness_lines_are_handed_over (h : Obligations.LinesAreHandedOver) :
    (∃ t, exec .stopChainOpen z = .next t) ∧
    (∃ t, exec .stopChainClosed z = .next t) ∧
    (∃ t, exec (.driveFaultChange true) (lv 4 false z) = .next t) ∧
    (∃ t, exec (.driveFaultChange false) (lv 4 true z) = .next t) ∧
    (∃ t, exec (.doorClosedChange false) z = .next t) ∧
    (∃ t, exec (.doorClosedChange true) (lv 15 false z) = .next t) ∧
    (∃ t, exec (.lineAcceptance 6 true) z = .next t) ∧
    (∃ t, exec (.lineAcceptance 8 false) z = .next t) :=
  ⟨⟨_, (h true 6 z).1 (by decide) (by decide)⟩,
   ⟨_, (h true 6 z).2.1 (by decide)⟩,
   ⟨_, (h true 6 (lv 4 false z)).2.2.1 rfl (by decide)⟩,
   ⟨_, (h true 6 (lv 4 true z)).2.2.2.1 rfl (by decide)⟩,
   ⟨_, (h true 6 z).2.2.2.2.1 (by decide) (by decide)⟩,
   ⟨_, (h true 6 (lv 15 false z)).2.2.2.2.2.1 rfl (by decide)⟩,
   ⟨_, (h true 6 z).2.2.2.2.2.2 (.inl rfl) (by decide)⟩,
   ⟨_, (h false 8 z).2.2.2.2.2.2 (.inr rfl) (by decide)⟩⟩

/-- Witnesses of AuxLinesDetect: aux no detection, aux disabled, aux notice, aux fault level, aux fault edge, aux
hold, aux wake. -/
theorem witness_aux_lines_detect (h : Obligations.AuxLinesDetect) :
    (∃ t, exec (.auxLineAccept 0 true) (auxIs 0 .falling .notice true false z) = .next t) ∧
    (∃ t, exec (.auxLineAccept 0 true) (auxIs 0 .both .notice false false z) = .next t) ∧
    (∃ t, exec (.auxLineAccept 3 true) (auxIs 3 .rising .notice true false z) = .next t) ∧
    (∃ t, exec (.auxLineAccept 1 false) (auxIs 1 .lowLevel .fault true true z) = .next t) ∧
    (∃ t, exec (.auxLineAccept 1 false) (auxIs 1 .falling .fault true true z) = .next t) ∧
    (∃ t, exec (.auxLineAccept 2 true) (auxIs 2 .rising .hold true false busyRun) = .next t) ∧
    (∃ t, exec (.auxLineAccept 2 true) (auxIs 2 .highLevel .wake true false (rt .idle (md .parked z))) = .next t) :=
  ⟨⟨_, (h 0 true _ (auxIs 0 .falling .notice true false z) rfl rfl rfl).1 rfl (by decide)⟩,
   ⟨_, (h 0 true _ (auxIs 0 .both .notice false false z) rfl rfl rfl).2.1 rfl rfl (by decide)⟩,
   ⟨_, (h 3 true _ (auxIs 3 .rising .notice true false z) rfl rfl rfl).2.2.1 rfl rfl rfl (by decide)⟩,
   ⟨_, (h 1 false _ (auxIs 1 .lowLevel .fault true true z) rfl rfl rfl).2.2.2.1 rfl rfl rfl (by decide) (by decide)⟩,
   ⟨_, (h 1 false _ (auxIs 1 .falling .fault true true z) rfl rfl rfl).2.2.2.1 rfl rfl rfl (by decide) (by decide)⟩,
   ⟨_, (h 2 true _ (auxIs 2 .rising .hold true false busyRun) rfl rfl rfl).2.2.2.2.1 rfl rfl rfl (by decide) rfl rfl
       (by decide)⟩,
   ⟨_, (h 2 true _ (auxIs 2 .highLevel .wake true false (rt .idle (md .parked z))) rfl rfl rfl).2.2.2.2.2 rfl rfl rfl
       (by decide) rfl rfl rfl (by decide) (by decide)⟩⟩

/-- Witnesses of RaisesAreRecorded: raise repeats, raise waits, raise taken, latch halts, latch halts waking, latch
parked. -/
theorem witness_raises_are_recorded (h : Obligations.RaisesAreRecorded) :
    (raiseRecord 4 .none (serving (fault 4 2) z)).faults.stack = [{ fault 4 2 with repeats := 1 }] ∧
    (raiseRecord 4 .none (serving (fault 3 2) z)).faults.stack = [fault 3 2] ∧
    (raiseRecord 4 .none z).faults.stack = [fault 4 2] ∧
    (∃ t, haltCell (cutStop (md .idle z)) = t) ∧
    (∃ t, haltCell (cutStop (md .waking z)) = t) ∧
    haltCell (allStop (md .parked z)) = allStop (md .parked z) :=
  ⟨(h.1 4 .none (fault 4 2) (serving (fault 4 2) z) rfl).2.1,
   ((h.2.1 4 .none (serving (fault 3 2) z) rfl).2.2.1 (by decide) (by decide) (by decide)).2,
   ((h.2.1 4 .none z rfl).2.2.2 (by decide) (by decide)).2.1,
   ⟨_, (h.2.2 (cutStop (md .idle z)) rfl).1 (by decide)⟩,
   ⟨_, (h.2.2 (cutStop (md .waking z)) rfl).2.1 rfl⟩,
   (h.2.2 (allStop (md .parked z)) rfl).2.2 (by decide)⟩

/-- Witnesses of AllStopStopsTheUnits: raise no stop, raise all stop, stalled home, stalled carry, stalled approach,
not stalled, still stopped, held cut goes, held cut waits, orders go, orders stay, no push, stroke goes, stroke
waits home, recovery waits home, recovery pushes, recovery fills. -/
theorem witness_all_stop_stops_the_units (h : Obligations.AllStopStopsTheUnits) :
    raise 4 .none z = raiseRecord 4 .none z ∧
    ((raise 0 .none (spin .atSpeed (onRouter (.cut 0 0 .xPlus 640 99) (onPicker .home (onTransfer .toMouth
        (onElevator (.elevate .a 1200) (router .cut (some opN) true (cutting .running .waiting
        .waiting)))))))).router.state = .idle ∧ (raise 0 .none (spin .atSpeed (onRouter (.cut 0 0 .xPlus 640 99)
        (onPicker .home (onTransfer .toMouth (onElevator (.elevate .a 1200) (router .cut (some opN) true (cutting
        .running .waiting .waiting)))))))).spindle.state = .coasting ∧ (raise 0 .none (spin .atSpeed (onRouter (.cut
        0 0 .xPlus 640 99) (onPicker .home (onTransfer .toMouth (onElevator (.elevate .a 1200) (router .cut (some
        opN) true (cutting .running .waiting .waiting)))))))).picker.stalled = true) ∧
    (∃ t, presentStalled (stall .returning none) = t) ∧
    (∃ t, presentStalled (stall .carrying (some 2)) = t) ∧
    (∃ t, presentStalled (stall .approach (some 2)) = t) ∧
    presentStalled z = z ∧
    presentStalled (cutStop (stall .returning none)) = (cutStop (stall .returning none)) ∧
    (∃ t, presentHeldCut (router .cut (some opN) false (spin .atSpeed (bitKnown 0 10000 z))) = t) ∧
    presentHeldCut (router .cut (some opN) false z) = (router .cut (some opN) false z) ∧
    (∃ t, presentHeldBack heldBack = t) ∧
    presentHeldBack (allStop heldBack) = allStop heldBack ∧
    resumePush z = z ∧
    (∃ t, resumePush (lv 7 true (cutShort false true)) = t) ∧
    (∃ t, resumePush (cutShort false true) = t) ∧
    (∃ t, resumePush (cutShort true false) = t) ∧
    (∃ t, resumePush (lv 7 true (cutShort true false)) = t) ∧
    (∃ t, resumePush (lv 8 true (lv 7 true (cutShort true false))) = t) :=
  ⟨((h.1 4 .none z).1 (by decide)).1,
   (let a := (h.1 0 .none (spin .atSpeed (onRouter (.cut 0 0 .xPlus 640 99) (onPicker .home (onTransfer .toMouth
       (onElevator (.elevate .a 1200) (router .cut (some opN) true (cutting .running .waiting .waiting)))))))).2
       (by decide) rfl; ⟨a.2.1, (a.2.2.1 (.inr rfl) rfl).1, (a.2.2.2.2.2.1 rfl).2⟩),
   ⟨_, (h.2.1 .home (stall .returning none)).1 rfl ⟨rfl, rfl, by decide⟩ (.inr (.inr ⟨rfl, rfl⟩))⟩,
   ⟨_, (h.2.1 (.carry 2) (stall .carrying (some 2))).1 rfl ⟨rfl, rfl, by decide⟩ (.inr (.inl ⟨rfl, .inl ⟨2, rfl,
       rfl⟩⟩))⟩,
   ⟨_, (h.2.1 (.approach 3 4 1) (stall .approach (some 2))).1 rfl ⟨rfl, rfl, by decide⟩ (.inl ⟨rfl, ⟨3, 4, 1⟩, rfl,
       rfl⟩)⟩,
   (h.2.1 .home z).2 (.inl rfl),
   (h.2.1 .home (cutStop (stall .returning none))).2 (.inr (fun a => absurd a.2.1 (by decide))),
   ⟨_, (h.2.2.1 opN (router .cut (some opN) false (spin .atSpeed (bitKnown 0 10000 z))) rfl rfl rfl rfl).1 ⟨rfl, rfl,
       rfl⟩⟩,
   (h.2.2.1 opN (router .cut (some opN) false z) rfl rfl rfl rfl).2 (fun a => absurd a.2.2 (by decide)),
   ⟨_, (h.2.2.2.1 heldBack).1 ⟨rfl, by decide⟩⟩,
   (h.2.2.2.1 (allStop heldBack)).2 (fun a => absurd a.1 (by decide)),
   (h.2.2.2.2 hand1 .a 0 descN z).1 (.inl (by decide)),
   ⟨_, (h.2.2.2.2 hand1 .a 0 descN (lv 7 true (cutShort false true))).2.1 rfl ⟨rfl, by decide⟩ rfl rfl |>.1 rfl⟩,
   ⟨_, (h.2.2.2.2 hand1 .a 0 descN (cutShort false true)).2.1 rfl ⟨rfl, by decide⟩ rfl rfl |>.2 (by decide)⟩,
   ⟨_, (h.2.2.2.2 hand1 .a 0 descN (cutShort true false)).2.2 rfl ⟨rfl, by decide⟩ rfl |>.1 (by decide)⟩,
   ⟨_, (h.2.2.2.2 hand1 .a 0 descN (lv 7 true (cutShort true false))).2.2 rfl ⟨rfl, by decide⟩ rfl |>.2 rfl rfl rfl
       rfl rfl |>.1 (by decide)⟩,
   ⟨_, (h.2.2.2.2 hand1 .a 0 descN (lv 8 true (lv 7 true (cutShort true false)))).2.2 rfl ⟨rfl, by decide⟩ rfl |>.2
       rfl rfl rfl rfl rfl |>.2 rfl⟩⟩

/-- Witnesses of SettingsStayInRange: kept settings. -/
theorem witness_settings_stay_in_range (h : Obligations.SettingsStayInRange) :
    ∃ t, step settingsStart = .next t ∧ settingsInRange t :=
  ⟨_, rfl, h settingsStart _ (by unfold settingsInRange; decide) rfl⟩

/-- Witnesses of FaultRecordsStayOrdered: kept fault records. -/
theorem witness_fault_records_stay_ordered (h : Obligations.FaultRecordsStayOrdered) :
    ∃ t, step faultRecordsStart = .next t ∧ faultRecordsOrdered t :=
  ⟨_, rfl, h faultRecordsStart _ (by unfold faultRecordsOrdered; decide) rfl⟩

/-- Witnesses of NestQueueStaysOrdered: kept nest queue. -/
theorem witness_nest_queue_stays_ordered (h : Obligations.NestQueueStaysOrdered) :
    ∃ t, step nestQueueStart = .next t ∧ nestQueueOrdered t :=
  ⟨_, rfl, h nestQueueStart _ (by unfold nestQueueOrdered; decide) rfl⟩

/-- Witnesses of RunsAndBaysStaySingle: kept runs and bays. -/
theorem witness_runs_and_bays_stay_single (h : Obligations.RunsAndBaysStaySingle) :
    ∃ t, step runsAndBaysStart = .next t ∧ runsAndBaysSingle t :=
  ⟨_, rfl, h runsAndBaysStart _ (by unfold runsAndBaysSingle; decide) rfl⟩

/-- Witnesses of SpindleStaysInterlocked: kept interlock. -/
theorem witness_spindle_stays_interlocked (h : Obligations.SpindleStaysInterlocked) :
    ∃ t, step interlockStart = .next t ∧ spindleInterlocked t :=
  ⟨_, rfl, h interlockStart _ (by unfold spindleInterlocked; decide) rfl⟩

end Sys2Proof.Tests
end

/-! ### The end of a frame on the outbound line (R7, R15, R17)

What `frameEnds` does for each kind of frame, and that the sent mark of a notice leaves no reaction due. -/

namespace Sys2Proof.Machine

/-- The notice's sent mark set (R17). -/
def markSent (n : Notice) (s : State) : State :=
  s.withNotices (setAt s.notices n { getAt s.notices n with sent := true })

/-- No block reacts to a sent mark: the reactions read of a notice only whether it is raised. -/
theorem still_markSent {s : State} (n : Notice) (h : still s = true) : still (markSent n s) = true := by
  apply still_withNotices h
  intro m hm
  by_cases hnm : n = m
  · subst hnm
    rwa [getAt_setAt_self]
  · rwa [getAt_setAt, if_neg hnm]

section
variable {s : State} {bytes : List Byte}

theorem frameEnds_reply (h : s.link.tx = some { what := .reply, bytes := bytes }) :
    frameEnds s = s.withLink { s.link with slot := none, tx := none } := by
  simp only [frameEnds, h]

theorem frameEnds_overrun (h : s.link.tx = some { what := .overrun, bytes := bytes }) :
    frameEnds s = s.withLink (dropAnswer s.link) := by
  simp only [frameEnds, h]

theorem frameEnds_withdrawn {n : Notice} (h : s.link.tx = some { what := .notice n true, bytes := bytes }) :
    frameEnds s = s.withLink { s.link with tx := none } := by
  simp only [frameEnds, h, if_true]

theorem frameEnds_notice {n : Notice} (h : s.link.tx = some { what := .notice n false, bytes := bytes }) :
    frameEnds s = markSent n (s.withLink { s.link with tx := none }) := by
  simp only [frameEnds, h, Bool.false_eq_true, if_false, markSent]

end

/-- FRAME_SENT settles the frame and, with no reaction due in what results, ends the moment at rest. -/
theorem exec_frameSent {s u : State} (e : frameEnds s = u) (hu : still u = true) :
    exec .frameSent s = .next (rest u) :=
  exec_event rfl e hu

/-- Settles O9, by the kind of the frame in transmission: each kind's end keeps `still`, since no reaction reads the
link or a sent mark. -/
theorem sentFrameIsSettled : Obligations.SentFrameIsSettled := by
  intro bytes n withdrawn s hs
  refine ⟨fun h => ?reply, fun h => ?overrun, fun h => ?notice⟩
  case reply => exact exec_frameSent (frameEnds_reply h) (by rwa [still_withLink])
  case overrun => exact exec_frameSent (frameEnds_overrun h) (by rwa [still_withLink])
  case notice =>
    have free : still (s.withLink { s.link with tx := none }) = true := by rwa [still_withLink]
    cases withdrawn with
    | true => exact exec_frameSent (frameEnds_withdrawn h) free
    | false => exact exec_frameSent (frameEnds_notice h) (still_markSent n free)

end Sys2Proof.Machine

/-! ### BOARD DEFINE and TAB DEFINE in EDITING (R30 to R33)

A body is a row of records of one size: a field of record k of the body is that field of the k-th record's own bytes.
What a body holds at record k (`BoardAt`, `TabAt`) then says at once that the record's field tests pass and which record
is stored. -/

namespace Sys2Proof.Machine

/-! #### Bytes of a field -/

theorem b8_value {n : Nat} (h : n < 256) : (b8 n).toNat = n := by
  rw [b8, BitVec.toNat_ofNat, Nat.mod_eq_of_lt h]

/-- The two bytes of an unsigned quantity below 65536, little-endian, give it back (R14). -/
theorem le16_value {n : Nat} (h : n < 65536) : (b8 n).toNat + 256 * (b8 (n / 256)).toNat = n := by
  rw [b8_value (by omega : n / 256 < 256), b8, BitVec.toNat_ofNat]
  omega

theorem u8_append_left {p : List Byte} {i : Nat} (q : List Byte) (h : i < p.length) : u8 (p ++ q) i = u8 p i := by
  rw [u8, List.getD_append _ _ _ _ h, u8]

theorem u8_append_right (p q : List Byte) (i : Nat) : u8 (p ++ q) (p.length + i) = u8 q i := by
  rw [u8, List.getD_append_right _ _ _ _ (Nat.le_add_right _ _), Nat.add_sub_cancel_left, u8]

@[simp] theorem index?_val {n : Nat} (i : Fin n) : index? n i.val = some i := by
  simp [index?]

theorem firstFail_eq_none {tests : List (Bool × FieldFail)} (h : ∀ p ∈ tests, p.1 = true) : firstFail tests = none := by
  induction tests with
  | nil => rfl
  | cons p tests ih =>
    obtain ⟨hp, htests⟩ := List.forall_mem_cons.1 h
    rw [firstFail, if_pos hp, ih htests]

/-! #### Records of one size, one after the other -/

section
variable {α : Type} {size : Nat} {enc : α → List Byte}

theorem length_flatMap_records (henc : ∀ e, (enc e).length = size) (l : List α) :
    (l.flatMap enc).length = size * l.length := by
  simp [List.length_flatMap, henc, Nat.mul_comm]

/-- A byte of record k of the body is that byte of the k-th record. -/
theorem u8_flatMap_records (henc : ∀ e, (enc e).length = size) {l : List α} {k j : Nat} (hk : k < l.length)
    (hj : j < size) : u8 (l.flatMap enc) (size * k + j) = u8 (enc l[k]) j := by
  induction l generalizing k with
  | nil => simp at hk
  | cons e l ih =>
    rw [List.flatMap_cons]
    cases k with
    | zero =>
      rw [Nat.mul_zero, Nat.zero_add, u8_append_left _ (by rwa [henc]), List.getElem_cons_zero]
    | succ k =>
      have shift : size * (k + 1) + j = (enc e).length + (size * k + j) := by rw [henc]; ring
      rw [shift, u8_append_right, ih (Nat.lt_of_succ_lt_succ hk), List.getElem_cons_succ]

/-- A 2-byte field of record k of the body is that field of the k-th record. -/
theorem u16_flatMap_records (henc : ∀ e, (enc e).length = size) {l : List α} {k j : Nat} (hk : k < l.length)
    (hj : j + 1 < size) : u16 (l.flatMap enc) (size * k + j) = u16 (enc l[k]) j := by
  rw [u16, Nat.add_assoc, u8_flatMap_records henc hk (by omega), u8_flatMap_records henc hk hj, u16]

theorem recordCount_flatMap (henc : ∀ e, (enc e).length = size) (hsize : 0 < size) (l : List α) :
    recordCount size (l.flatMap enc) = l.length := by
  rw [recordCount, length_flatMap_records henc, Nat.mul_div_cancel_left _ hsize]

theorem recordsOk_flatMap (henc : ∀ e, (enc e).length = size) (hsize : 0 < size) {most : Nat} {l : List α}
    (hpos : 1 ≤ l.length) (hmost : l.length ≤ most) : recordsOk size most (l.flatMap enc).length = true := by
  rw [recordsOk, length_flatMap_records henc, Nat.mul_mod_right, Nat.mul_div_cancel_left _ hsize]
  simp only [hpos, hmost, decide_true, Bool.and_true]

end

/-- No test of a body fails where none of any of its records does. -/
theorem firstFail_allTests {tests : List Byte → Nat → List (Bool × FieldFail)} {count : Nat} {body : List Byte}
    (h : ∀ k < count, ∀ p ∈ tests body k, p.1 = true) : firstFail (allTests tests count body) = none := by
  apply firstFail_eq_none
  intro p hp
  obtain ⟨_, hmem, hp⟩ := List.mem_flatten.1 hp
  obtain ⟨k, hk, rfl⟩ := List.mem_map.1 hmem
  exact h k (List.mem_range.1 hk) p hp

/-- A body whose record k is the k-th of a list stores that list, in its order. -/
theorem storeRecords_eq_foldl {n : Nat} {α : Type} {record : List Byte → Nat → Option (Fin n × α)} {body : List Byte}
    {l : List (Fin n × α)} (h : ∀ k (hk : k < l.length), record body k = some l[k]) (t : Table n α) :
    storeRecords record l.length body t = l.foldl (fun t e => Table.put e.1 e.2 t) t := by
  have records : (List.range l.length).map (record body) = l.map some := by
    apply List.ext_getElem (by simp)
    intro k hk _
    simp [h k (by simpa using hk)]
  have spelled : (List.range l.length).filterMap (record body) = l := calc
    _ = ((List.range l.length).map (record body)).filterMap id := by rw [List.filterMap_map, Function.id_comp]
    _ = l := by rw [records, List.filterMap_map, Function.id_comp, List.filterMap_some]
  rw [storeRecords, spelled]

/-! #### BOARD DEFINE -/

/-- Record k of the body spells the board record `e` (R30). -/
structure BoardAt (body : List Byte) (k : Nat) (e : Fin 64 × BoardDef) : Prop where
  index : u8 body (6 * k) = e.1.val
  pickX : u16 body (6 * k + 1) = e.2.pickX
  pickY : u16 body (6 * k + 3) = e.2.pickY
  height : u8 body (6 * k + 5) = e.2.height

theorem length_boardBytes (e : Fin 64 × BoardDef) : (boardBytes e).length = 6 := rfl

theorem boardAt_flatMap {l : List (Fin 64 × BoardDef)} {k : Nat} (hk : k < l.length) (fits : boardFits l[k]) :
    BoardAt (l.flatMap boardBytes) k l[k] := by
  obtain ⟨-, hx, -, hy, hh⟩ := fits
  have byte {j : Nat} (hj : j < 6) : u8 (l.flatMap boardBytes) (6 * k + j) = u8 (boardBytes l[k]) j :=
    u8_flatMap_records length_boardBytes hk hj
  have word {j : Nat} (hj : j + 1 < 6) : u16 (l.flatMap boardBytes) (6 * k + j) = u16 (boardBytes l[k]) j :=
    u16_flatMap_records length_boardBytes hk hj
  exact {
    index := (byte (j := 0) (by decide)).trans (b8_value (by omega))
    pickX := (word (by decide)).trans (le16_value (by omega))
    pickY := (word (by decide)).trans (le16_value (by omega))
    height := (byte (by decide)).trans (b8_value (by omega)) }

section
variable {body : List Byte} {k : Nat} {e : Fin 64 × BoardDef}

theorem boardRecord_of_boardAt (h : BoardAt body k e) : boardRecord body k = some e := by
  simp [boardRecord, h.index, h.pickX, h.pickY, h.height]

theorem boardTests_of_boardAt (h : BoardAt body k e) (fits : boardFits e) : ∀ p ∈ boardTests body k, p.1 = true := by
  obtain ⟨hx, hx', hy, hy', hh⟩ := fits
  have hi : e.1.val ≤ 63 := by omega
  simp [boardTests, inRange, h.index, h.pickX, h.pickY, h.height, *]

end

/-- BOARD DEFINE in EDITING, on a body of board records in range. -/
theorem boardDefine_flatMap {l : List (Fin 64 × BoardDef)} {s : State} (hs : s.recipe.state = .editing)
    (fits : ∀ e ∈ l, boardFits e) :
    boardDefine (l.flatMap boardBytes) s =
      (s.withRecipe { s.recipe with boards := l.foldl (fun t e => Table.put e.1 e.2 t) s.recipe.boards }, [0]) := by
  have at_k : ∀ k (hk : k < l.length), BoardAt (l.flatMap boardBytes) k l[k] := fun k hk =>
    boardAt_flatMap hk (fits _ (List.getElem_mem hk))
  have passes : firstFail (allTests boardTests l.length (l.flatMap boardBytes)) = none :=
    firstFail_allTests fun k hk => boardTests_of_boardAt (at_k k hk) (fits _ (List.getElem_mem hk))
  have stored := storeRecords_eq_foldl (fun k hk => boardRecord_of_boardAt (at_k k hk)) s.recipe.boards
  simp [boardDefine, hs, recordCount_flatMap length_boardBytes, passes, stored, done, Status.code]

theorem exec_boardDefine (tag : Byte) (body : List Byte) (s : State) :
    exec (.boardDefine tag body) s =
      .next (finish (takeRequest 0x11 (recordsOk 6 8 body.length) boardDefine tag body s)) := rfl

/-! #### TAB DEFINE -/

/-- The byte of a tab's neighbour; absent for a frame tab (R14). -/
def neighbourCode (neighbour : Option (Fin 64)) : Nat := neighbour.elim 255 Fin.val

/-- Record k of the body spells the tab record `e` (R32). -/
structure TabAt (body : List Byte) (k : Nat) (e : Fin 256 × TabDef) : Prop where
  index : u16 body (13 * k) = e.1.val
  owner : u8 body (13 * k + 2) = e.2.owner.val
  neighbour : u8 body (13 * k + 3) = neighbourCode e.2.neighbour
  x : u16 body (13 * k + 4) = e.2.x
  y : u16 body (13 * k + 6) = e.2.y
  dir : u8 body (13 * k + 8) = (tabCodes e.2).1
  length : u16 body (13 * k + 9) = e.2.length
  material : u8 body (13 * k + 11) = (tabCodes e.2).2.1
  role : u8 body (13 * k + 12) = (tabCodes e.2).2.2

@[simp] theorem index?_neighbourCode (neighbour : Option (Fin 64)) : index? 64 (neighbourCode neighbour) = neighbour := by
  cases neighbour with
  | none => rfl
  | some b => exact index?_val b

/-- A neighbour's byte is a board index or the absent byte (R32). -/
theorem neighbourCode_listed (neighbour : Option (Fin 64)) :
    neighbourCode neighbour ≤ 63 ∨ neighbourCode neighbour = 255 := by
  cases neighbour with
  | none => exact .inr rfl
  | some b => exact .inl (Nat.le_of_lt_succ b.isLt)

@[simp] theorem ofCode_dirCode (d : TabDef) : Direction.ofCode (tabCodes d).1 = some d.dir := by
  unfold tabCodes
  cases d.dir <;> rfl

@[simp] theorem ofCode_materialCode (d : TabDef) : Material.ofCode (tabCodes d).2.1 = some d.material := by
  unfold tabCodes
  cases d.material <;> rfl

@[simp] theorem ofCode_roleCode (d : TabDef) : TabRole.ofCode (tabCodes d).2.2 = some d.role := by
  unfold tabCodes
  cases d.role <;> rfl

theorem dirCode_le (d : TabDef) : (tabCodes d).1 ≤ 3 := by
  unfold tabCodes
  cases d.dir <;> simp

theorem materialCode_le (d : TabDef) : (tabCodes d).2.1 ≤ 3 := by
  unfold tabCodes
  cases d.material <;> simp

theorem roleCode_le (d : TabDef) : (tabCodes d).2.2 ≤ 2 := by
  unfold tabCodes
  cases d.role <;> simp

theorem length_tabBytes (e : Fin 256 × TabDef) : (tabBytes e).length = 13 := rfl

theorem tabBytes_neighbour (e : Fin 256 × TabDef) : u8 (tabBytes e) 3 = neighbourCode e.2.neighbour := by
  obtain ⟨i, owner, neighbour, x, y, dir, length, material, role⟩ := e
  cases neighbour with
  | none => rfl
  | some b => exact b8_value (by omega)

theorem tabAt_flatMap {l : List (Fin 256 × TabDef)} {k : Nat} (hk : k < l.length) (fits : tabFits l[k]) :
    TabAt (l.flatMap tabBytes) k l[k] := by
  obtain ⟨-, hx, -, hy, -, hlen⟩ := fits
  have hdir := dirCode_le l[k].2
  have hmat := materialCode_le l[k].2
  have hrole := roleCode_le l[k].2
  have byte {j : Nat} (hj : j < 13) : u8 (l.flatMap tabBytes) (13 * k + j) = u8 (tabBytes l[k]) j :=
    u8_flatMap_records length_tabBytes hk hj
  have word {j : Nat} (hj : j + 1 < 13) : u16 (l.flatMap tabBytes) (13 * k + j) = u16 (tabBytes l[k]) j :=
    u16_flatMap_records length_tabBytes hk hj
  exact {
    index := (word (j := 0) (by decide)).trans (le16_value (by omega))
    owner := (byte (by decide)).trans (b8_value (by omega))
    neighbour := (byte (by decide)).trans (tabBytes_neighbour _)
    x := (word (by decide)).trans (le16_value (by omega))
    y := (word (by decide)).trans (le16_value (by omega))
    dir := (byte (by decide)).trans (b8_value (by omega))
    length := (word (by decide)).trans (le16_value (by omega))
    material := (byte (by decide)).trans (b8_value (by omega))
    role := (byte (by decide)).trans (b8_value (by omega)) }

section
variable {body : List Byte} {k : Nat} {e : Fin 256 × TabDef}

theorem tabRecord_of_tabAt (h : TabAt body k e) : tabRecord body k = some e := by
  simp [tabRecord, h.index, h.owner, h.neighbour, h.x, h.y, h.dir, h.length, h.material, h.role]

theorem tabTests_of_tabAt (h : TabAt body k e) (fits : tabFits e) : ∀ p ∈ tabTests body k, p.1 = true := by
  obtain ⟨hx, hx', hy, hy', hlen, hlen'⟩ := fits
  have hi : e.1.val ≤ 255 := by omega
  have ho : e.2.owner.val ≤ 63 := by omega
  simp [tabTests, inRange, h.index, h.owner, h.neighbour, h.x, h.y, h.dir, h.length, h.material, h.role,
    neighbourCode_listed, dirCode_le, materialCode_le, roleCode_le, *]

end

/-- TAB DEFINE in EDITING, on a body of tab records in range. -/
theorem tabDefine_flatMap {l : List (Fin 256 × TabDef)} {s : State} (hs : s.recipe.state = .editing)
    (fits : ∀ e ∈ l, tabFits e) :
    tabDefine (l.flatMap tabBytes) s =
      (s.withRecipe { s.recipe with tabs := l.foldl (fun t e => Table.put e.1 e.2 t) s.recipe.tabs }, [0]) := by
  have at_k : ∀ k (hk : k < l.length), TabAt (l.flatMap tabBytes) k l[k] := fun k hk =>
    tabAt_flatMap hk (fits _ (List.getElem_mem hk))
  have passes : firstFail (allTests tabTests l.length (l.flatMap tabBytes)) = none :=
    firstFail_allTests fun k hk => tabTests_of_tabAt (at_k k hk) (fits _ (List.getElem_mem hk))
  have stored := storeRecords_eq_foldl (fun k hk => tabRecord_of_tabAt (at_k k hk)) s.recipe.tabs
  simp [tabDefine, hs, recordCount_flatMap length_tabBytes, passes, stored, done, Status.code]

theorem exec_tabDefine (tag : Byte) (body : List Byte) (s : State) :
    exec (.tabDefine tag body) s =
      .next (finish (takeRequest 0x12 (recordsOk 13 16 body.length) tabDefine tag body s)) := rfl

/-- Settles O12: each record of a body is read back from its own bytes (`boardAt_flatMap`, `tabAt_flatMap`), so no field
test fails and the records stored are those spelled, in body order. -/
theorem definedRecordsAreStored : Obligations.DefinedRecordsAreStored := by
  refine ⟨fun tag l s hslot hs hpos hmost fits => ?board, fun tag l s hslot hs hpos hmost fits => ?tab⟩
  case board =>
    have ok := recordsOk_flatMap length_boardBytes (by decide) hpos hmost
    exact exec_request (exec_boardDefine tag _ s) hslot (by rw [answerTo, if_pos ok, boardDefine_flatMap hs fits])
  case tab =>
    have ok := recordsOk_flatMap length_tabBytes (by decide) hpos hmost
    exact exec_request (exec_tabDefine tag _ s) hslot (by rw [answerTo, if_pos ok, tabDefine_flatMap hs fits])

end Sys2Proof.Machine

/-! ### An accrual of wear (R101, R102)

`addWear` as one equation over the two comparisons that follow an accrual, and why an accrual of one cut meets at most one
of them. -/

namespace Sys2Proof.Machine

/-- W after an accrual, held at its limit (R101). -/
def wearAfter (dw : Nat) (s : State) : Nat := min wearLimit (s.router.wear + dw)

/-- The accrual takes W from at most Wh to above it (R102). -/
abbrev crossesHalf (dw : Nat) (s : State) : Prop :=
  s.router.wear ≤ halfPoint s.router.life ∧ halfPoint s.router.life < wearAfter dw s

/-- The accrual takes W of a KNOWN bit to LIFE or more (R102). -/
abbrev reachesLife (dw : Nat) (s : State) : Prop :=
  s.router.bit = .known ∧ s.router.life ≤ wearAfter dw s

/-- The wear added, with what the half point crossed raises and before the comparison with LIFE. -/
def wearAndWarn (dw : Nat) (s : State) : State :=
  let worn := s.withRouter { s.router with wear := wearAfter dw s }
  if s.router.wear ≤ halfPoint s.router.life && halfPoint s.router.life < wearAfter dw s then
    raiseNotice Notice.bitWearWarn (le32 (wearAfter dw s) ++ le32 s.router.life) worn
  else worn

@[simp] theorem raiseNotice_router (n : Notice) (payload : List Byte) (s : State) :
    (raiseNotice n payload s).router = s.router := by
  unfold raiseNotice
  dsimp only
  split <;> rfl

section
variable {rz : Raiser} {dw : Nat} {s : State}

@[simp] theorem wearAndWarn_router : (wearAndWarn dw s).router = { s.router with wear := wearAfter dw s } := by
  unfold wearAndWarn
  dsimp only
  split
  · rw [raiseNotice_router, State.withRouter_router]
  · rw [State.withRouter_router]

theorem wearAndWarn_of_crossesHalf (h : crossesHalf dw s) :
    wearAndWarn dw s = raiseNotice Notice.bitWearWarn (le32 (wearAfter dw s) ++ le32 s.router.life)
      (s.withRouter { s.router with wear := wearAfter dw s }) :=
  if_pos (by simpa using h)

theorem wearAndWarn_of_not_crossesHalf (h : ¬ crossesHalf dw s) :
    wearAndWarn dw s = s.withRouter { s.router with wear := wearAfter dw s } :=
  if_neg (by simpa [crossesHalf] using h)

/-- A raise of BIT_WEAR_WARN leaves the Router Unit, so LIFE and the bit compared are those before the accrual. -/
theorem addWear_eq : addWear rz dw s =
    if reachesLife dw s then
      rz Source.bitExpired .none
        ((wearAndWarn dw s).withRouter { s.router with wear := wearAfter dw s, bit := .expired })
    else wearAndWarn dw s := by
  have compared : addWear rz dw s =
      if (wearAndWarn dw s).router.bit = .known && (wearAndWarn dw s).router.life ≤ wearAfter dw s then
        rz Source.bitExpired .none
          ((wearAndWarn dw s).withRouter { (wearAndWarn dw s).router with bit := .expired })
      else wearAndWarn dw s := rfl
  simp only [compared, wearAndWarn_router, Bool.and_eq_true, decide_eq_true_eq]

theorem addWear_of_reachesLife (h : reachesLife dw s) : addWear rz dw s =
    rz Source.bitExpired .none
      ((wearAndWarn dw s).withRouter { s.router with wear := wearAfter dw s, bit := .expired }) := by
  rw [addWear_eq, if_pos h]

theorem addWear_of_not_reachesLife (h : ¬ reachesLife dw s) : addWear rz dw s = wearAndWarn dw s := by
  rw [addWear_eq, if_neg h]

/-- Wh lies at least 5000 below a LIFE of 10000 or more, farther than one accrual goes (R102). -/
theorem not_reachesLife_of_crossesHalf (hdw : dw ≤ 1500) (hlife : 10000 ≤ s.router.life) (h : crossesHalf dw s) :
    ¬ reachesLife dw s := by
  intro ⟨_, reached⟩
  have start : s.router.wear ≤ s.router.life / 2 := h.1
  have most : wearAfter dw s ≤ s.router.wear + dw := Nat.min_le_right _ _
  omega

end

/-- Settles O36, by the two comparisons of `addWear_eq`. -/
theorem wearAccrues : Obligations.WearAccrues := by
  intro dw s w half crosses ends
  refine ⟨fun below lasts => ?plain, fun crossed lasts => ?warn, fun below ended => ?expire,
    fun hdw hlife ⟨crossed, ended⟩ => not_reachesLife_of_crossesHalf hdw hlife crossed ended⟩
  case plain => exact (addWear_of_not_reachesLife lasts).trans (wearAndWarn_of_not_crossesHalf below)
  case warn => exact (addWear_of_not_reachesLife lasts).trans (wearAndWarn_of_crossesHalf crossed)
  case expire =>
    rw [addWear_of_reachesLife ended, wearAndWarn_of_not_crossesHalf below]
    rfl

end Sys2Proof.Machine

/-! ### The points of a verify (R117, R118)

A point is the middle of its part of the tab, rounded down, so every bound on a distance is a sum of two quotients by
the same divisor (`Nat.div_add_div_le_add_div`). A point's coordinates lie between those of the tab's two ends, moved by
the panel offsets. -/

namespace Sys2Proof.Machine

section
variable {length ne i : Nat}

/-- The start lies half a part before point 0, and more before a later point. -/
theorem halfPart_le_pointDistance : length / (2 * ne) ≤ pointDistance length ne i :=
  Nat.div_le_div_right (Nat.le_mul_of_pos_left length (Nat.succ_pos _))

/-- The end lies half a part after the last point, and more after an earlier point. -/
theorem pointDistance_add_halfPart_le (hi : i < ne) : pointDistance length ne i + length / (2 * ne) ≤ length := calc
  _ ≤ ((2 * i + 1) * length + length) / (2 * ne) := Nat.div_add_div_le_add_div
  _ = (2 * (i + 1)) * length / (2 * ne) := by ring_nf
  _ ≤ (2 * ne) * length / (2 * ne) := Nat.div_le_div_right (Nat.mul_le_mul_right length (by omega))
  _ = length := Nat.mul_div_cancel_left length (by omega)

/-- Successive points are a whole part apart. -/
theorem pointDistance_add_part_le : pointDistance length ne i + length / ne ≤ pointDistance length ne (i + 1) := calc
  _ = (2 * i + 1) * length / (2 * ne) + 2 * length / (2 * ne) := by
    rw [Nat.mul_div_mul_left _ _ Nat.two_pos, pointDistance]
  _ ≤ ((2 * i + 1) * length + 2 * length) / (2 * ne) := Nat.div_add_div_le_add_div
  _ = pointDistance length ne (i + 1) := by rw [pointDistance]; ring_nf

theorem pointDistance_le (hi : i < ne) : pointDistance length ne i ≤ length :=
  (Nat.le_add_right _ _).trans (pointDistance_add_halfPart_le hi)

/-- On a tab of one millimetre or more, Ne leaves a quarter of a millimetre to each point (R117). -/
theorem effectivePoints_mul_le (points : Nat) (hlength : 100 ≤ length) :
    25 * effectivePoints points length ≤ length := by
  have room : effectivePoints points length ≤ max 1 (length / 25) := Nat.min_le_right _ _
  omega

end

section
variable {lo hi x y d l : Int}

/-- A point no farther along than the end lies within the bounds in X that hold of start and end. -/
theorem along_fst_mem (dir : Direction) (hd : 0 ≤ d) (hdl : d ≤ l) (hstart : lo ≤ x ∧ x ≤ hi)
    (hend : lo ≤ (along dir x y l).1 ∧ (along dir x y l).1 ≤ hi) :
    lo ≤ (along dir x y d).1 ∧ (along dir x y d).1 ≤ hi := by
  cases dir <;> simp only [along] at hend ⊢ <;> omega

/-- The bounds in Y, as `along_fst_mem` gives those in X. -/
theorem along_snd_mem (dir : Direction) (hd : 0 ≤ d) (hdl : d ≤ l) (hstart : lo ≤ y ∧ y ≤ hi)
    (hend : lo ≤ (along dir x y l).2 ∧ (along dir x y l).2 ≤ hi) :
    lo ≤ (along dir x y d).2 ∧ (along dir x y d).2 ≤ hi := by
  cases dir <;> simp only [along] at hend ⊢ <;> omega

/-- Offsets of the start move every point alike. -/
theorem along_offset (dir : Direction) (x y dx dy d : Int) :
    along dir (x + dx) (y + dy) d = ((along dir x y d).1 + dx, (along dir x y d).2 + dy) := by
  cases dir <;> simp [along] <;> omega

end

theorem endOutside_eq_false_iff {t : TabDef} :
    endOutside t = false ↔
      (500 ≤ t.endPoint.1 ∧ t.endPoint.1 ≤ 59500) ∧ 500 ≤ t.endPoint.2 ∧ t.endPoint.2 ≤ 44500 := by
  simp [endOutside, and_assoc]

/-- A point of a verify is the point of the tab as recorded, moved by the panel offsets. -/
theorem probePoint_eq (w : Verify) (i : Nat) :
    let p := along w.op.record.dir w.op.record.x w.op.record.y (pointDistance w.op.record.length w.ne i)
    probePoint w i = (p.1 + w.op.dx, p.2 + w.op.dy) :=
  along_offset ..

/-- Settles O37: the distances by the bounds on `pointDistance`, the coordinates by `along_fst_mem` and `along_snd_mem`
between the two ends of the tab. -/
theorem pointsAreSpread : Obligations.PointsAreSpread := by
  refine ⟨fun w i => ?coordinates, fun length ne i _ _ hi => ?distances,
    fun points length i _ hpoints hlength hlength' => ?sizes,
    fun w i _ _ hi hx hx' hy hy' hend hdx hdx' hdy hdy' => ?frame⟩
  case coordinates =>
    unfold probePoint along
    cases w.op.record.dir <;> rfl
  case distances =>
    exact ⟨halfPart_le_pointDistance, pointDistance_add_halfPart_le hi, fun _ => pointDistance_add_part_le⟩
  case sizes =>
    intro ne hi
    have room : 25 * ne ≤ length := effectivePoints_mul_le points hlength
    have last : i < 32 := by omega
    refine ⟨?part, ?halfPart, ?product⟩
    case part => exact (Nat.le_div_iff_mul_le (by omega)).2 room
    case halfPart => exact (Nat.le_div_iff_mul_le (by omega)).2 (by omega)
    case product => exact Nat.mul_le_mul (by omega : 2 * i + 1 ≤ 63) hlength'
  case frame =>
    obtain ⟨endX, endY⟩ := endOutside_eq_false_iff.1 hend
    have near := Int.natCast_nonneg (pointDistance w.op.record.length w.ne i)
    have far := Int.ofNat_le.2 (pointDistance_le (length := w.op.record.length) hi)
    have inX := along_fst_mem w.op.record.dir near far (by omega) endX
    have inY := along_snd_mem w.op.record.dir near far (by omega) endY
    simp only [probePoint_eq]
    omega

end Sys2Proof.Machine

/-! ### FULL and EARLY (R122)

Both modes come to the verdict that the misses of all readings give. FULL comes to it at point Ne; EARLY at point Ne
too, unless the misses pass the allowance before, and misses once past the allowance stay past it. -/

namespace Sys2Proof.Machine

section
variable {w : Verify}

theorem probeDecision_full_more (hmode : w.settings.mode = .full) (h : w.hits + w.misses < w.ne) :
    probeDecision w = none := by
  simp [probeDecision, hmode, h]

theorem probeDecision_early_uncut (hmode : w.settings.mode = .early) (h : w.ae < w.misses) :
    probeDecision w = some .uncut := by
  simp [probeDecision, hmode, h]

theorem probeDecision_early_more (hmode : w.settings.mode = .early) (hmisses : w.misses ≤ w.ae)
    (h : w.hits + w.misses < w.ne) : probeDecision w = none := by
  simp [probeDecision, hmode, h, Nat.not_lt.2 hmisses]

/-- The verdict that the misses of all Ne readings give (R122). -/
def verdictOf (ae misses : Nat) : Verdict := if misses ≤ ae then .severed else .uncut

theorem verdictOf_severed {ae misses : Nat} (h : misses ≤ ae) : verdictOf ae misses = .severed := if_pos h

theorem verdictOf_uncut {ae misses : Nat} (h : ae < misses) : verdictOf ae misses = .uncut := if_neg (Nat.not_le.2 h)

theorem verdictOf_eq_severed_iff {ae misses : Nat} : verdictOf ae misses = .severed ↔ misses ≤ ae := by
  simp [verdictOf]

theorem verdictOf_eq_uncut_iff {ae misses : Nat} : verdictOf ae misses = .uncut ↔ ae < misses := by
  simp [verdictOf]

/-- At point Ne both modes decide alike. -/
theorem probeDecision_last (hmode : w.settings.mode = .full ∨ w.settings.mode = .early)
    (h : w.hits + w.misses = w.ne) : probeDecision w = some (verdictOf w.ae w.misses) := by
  rcases hmode with full | early
  case inl => simp [probeDecision, full, h, verdictOf, apply_ite]
  case inr =>
    rcases Nat.lt_or_ge w.ae w.misses with past | within
    · rw [probeDecision_early_uncut early past, verdictOf_uncut past]
    · simp [probeDecision, early, h, verdictOf_severed within, within]

end

/-! #### Reading point by point -/

/-- The counters after a reading (R121). -/
def afterReading (hit : Bool) (w : Verify) : Verify :=
  if hit then { w with hits := w.hits + 1 } else { w with misses := w.misses + 1 }

/-- The record judged by the rule of a mode, for given Ne and Ae. -/
def judgedBy (mode : ProbeMode) (ne ae : Nat) (w : Verify) : Verify :=
  { w with settings := { w.settings with mode := mode }, ne := ne, ae := ae }

/-- The misses among readings. -/
def missesIn (readings : List Bool) : Nat := (readings.filter (! ·)).length

theorem missesIn_le_length (readings : List Bool) : missesIn readings ≤ readings.length := List.length_filter_le ..

theorem points_afterReading (hit : Bool) (w : Verify) :
    (afterReading hit w).hits + (afterReading hit w).misses = w.hits + w.misses + 1 := by
  cases hit with
  | false => rfl
  | true => exact Nat.add_right_comm ..

/-- A reading taken keeps the sum of the misses counted and those to come. -/
theorem misses_afterReading_add (hit : Bool) (w : Verify) (more : List Bool) :
    (afterReading hit w).misses + missesIn more = w.misses + missesIn (hit :: more) := by
  cases hit with
  | false =>
    simp only [afterReading, missesIn, Bool.false_eq_true, if_false, Bool.not_false, List.filter_cons_of_pos,
      List.length_cons]
    omega
  | true => simp [afterReading, missesIn]

section
variable {mode : ProbeMode} {ne ae : Nat} {w : Verify} {hit : Bool} {more : List Bool}

theorem verdictAfter_cons_of_none (h : probeDecision (judgedBy mode ne ae (afterReading hit w)) = none) :
    verdictAfter mode ne ae w (hit :: more) = verdictAfter mode ne ae (afterReading hit w) more := by
  simp only [judgedBy, afterReading] at h
  simp only [verdictAfter, afterReading, h]

theorem verdictAfter_cons_of_some {v : Verdict}
    (h : probeDecision (judgedBy mode ne ae (afterReading hit w)) = some v) :
    verdictAfter mode ne ae w (hit :: more) =
      some (v, (afterReading hit w).hits + (afterReading hit w).misses) := by
  simp only [judgedBy, afterReading] at h
  simp only [verdictAfter, afterReading, h]

/-- The reading of point Ne ends a verify in both modes. -/
theorem verdictAfter_last (hmode : mode = .full ∨ mode = .early) (h : w.hits + w.misses + 1 = ne) :
    verdictAfter mode ne ae w [hit] = some (verdictOf ae (w.misses + missesIn [hit]), ne) := by
  have read : (afterReading hit w).hits + (afterReading hit w).misses = ne := (points_afterReading hit w).trans h
  have decided : probeDecision (judgedBy mode ne ae (afterReading hit w)) =
      some (verdictOf ae (afterReading hit w).misses) := probeDecision_last hmode read
  rw [verdictAfter_cons_of_some decided, read, ← misses_afterReading_add hit w []]
  rfl

end

section
variable {ne ae : Nat}

/-- FULL reads to point Ne and judges all misses, from any record with readings to come. -/
theorem verdictAfter_full {readings : List Bool} (hne : readings ≠ []) (w : Verify)
    (h : w.hits + w.misses + readings.length = ne) :
    verdictAfter .full ne ae w readings = some (verdictOf ae (w.misses + missesIn readings), ne) := by
  induction readings, hne using List.recNeNil generalizing w with
  | singleton hit => exact verdictAfter_last (.inl rfl) h
  | cons hit more hmore ih =>
    have read := points_afterReading hit w
    have more_left := List.length_pos_iff.2 hmore
    rw [List.length_cons] at h
    have fewer : (afterReading hit w).hits + (afterReading hit w).misses < ne := by omega
    have goes_on : probeDecision (judgedBy .full ne ae (afterReading hit w)) = none :=
      probeDecision_full_more rfl fewer
    rw [verdictAfter_cons_of_none goes_on, ih _ (by omega), misses_afterReading_add]

/-- EARLY, from any record with readings to come, comes to the verdict of all misses: for SEVERED at point Ne, for UNCUT
at the point that makes the misses Ae + 1 or at a later one. -/
theorem verdictAfter_early {readings : List Bool} (hne : readings ≠ []) (w : Verify)
    (h : w.hits + w.misses + readings.length = ne) :
    ∃ m, verdictAfter .early ne ae w readings = some (verdictOf ae (w.misses + missesIn readings), m) ∧ m ≤ ne ∧
      (w.misses + missesIn readings ≤ ae → m = ne) ∧ (ae < w.misses + missesIn readings → ae + 1 ≤ m) := by
  induction readings, hne using List.recNeNil generalizing w with
  | singleton hit =>
    have one := missesIn_le_length [hit]
    rw [List.length_singleton] at h one
    exact ⟨ne, verdictAfter_last (.inr rfl) h, le_rfl, fun _ => rfl, fun _ => by omega⟩
  | cons hit more hmore ih =>
    have read := points_afterReading hit w
    have counted := misses_afterReading_add hit w more
    have more_left := List.length_pos_iff.2 hmore
    rw [List.length_cons] at h
    rw [← counted]
    rcases Nat.lt_or_ge ae (afterReading hit w).misses with past | within
    case inl =>
      have decided : probeDecision (judgedBy .early ne ae (afterReading hit w)) = some .uncut :=
        probeDecision_early_uncut rfl past
      have past_at_end : ae < (afterReading hit w).misses + missesIn more := Nat.lt_add_right _ past
      rw [verdictAfter_cons_of_some decided, verdictOf_uncut past_at_end]
      exact ⟨_, rfl, by omega, by omega, fun _ => by omega⟩
    case inr =>
      have fewer : (afterReading hit w).hits + (afterReading hit w).misses < ne := by omega
      have goes_on : probeDecision (judgedBy .early ne ae (afterReading hit w)) = none :=
        probeDecision_early_more rfl within fewer
      rw [verdictAfter_cons_of_none goes_on]
      exact ih _ (by omega)

end

/-- Settles O38: the rule of each mode from the lemmas on `probeDecision`, and the agreement from what FULL and EARLY
come to on all readings (`verdictAfter_full`, `verdictAfter_early`). -/
theorem fullAndEarlyAgree : Obligations.FullAndEarlyAgree := by
  refine ⟨fun w => ⟨probeDecision_full_more, fun full last within => ?fullSevered, fun full last past => ?fullUncut,
    probeDecision_early_uncut, probeDecision_early_more, fun early within last => ?earlySevered⟩,
    fun w ne ae readings hhits hmisses hne hlength => ?agree⟩
  case fullSevered => rw [probeDecision_last (.inl full) last, verdictOf_severed within]
  case fullUncut => rw [probeDecision_last (.inl full) last, verdictOf_uncut past]
  case earlySevered => rw [probeDecision_last (.inr early) last, verdictOf_severed within]
  case agree =>
    have nonempty : readings ≠ [] := List.length_pos_iff.1 (hlength ▸ hne)
    have points : w.hits + w.misses + readings.length = ne := by omega
    have all : w.misses + missesIn readings = missesIn readings := by omega
    have full := verdictAfter_full (ae := ae) nonempty w points
    obtain ⟨m, early, fewer, severed, uncut⟩ := verdictAfter_early (ae := ae) nonempty w points
    rw [all] at full early severed uncut
    exact ⟨_, m, full, early, fewer, verdictOf_eq_severed_iff, fun hv => severed (verdictOf_eq_severed_iff.1 hv),
      fun hv => uncut (verdictOf_eq_uncut_iff.1 hv)⟩

end Sys2Proof.Machine

/-! ### What every step keeps (R46, R47, R57, R103, R111, R143, R148, R178, R179)

Each invariant is a property that the primitive moves keep (`Moves`), so that `step_keeps` carries it through every
command. Of the moves only those that touch what the invariant reads need an argument; the others leave its mask as it
was. -/

namespace Sys2Proof.Machine

/-- Every part of the state. -/
def everyPart : Parts :=
  { rx := true, slot := true, overrun := true, tx := true, notices := true, recipe := true, cell := true, idle := true
    records := true, runOf := true, run := true, router := true, wear := true, bitLife := true, override := true
    spindle := true, setpoint := true, timing := true, tach := true, settings := true, probe := true, picker := true
    gripTimes := true, nests := true, stacker := true, bays := true, ded := true, stop := true, auxSet := true
    auxLatch := true, outSpindle := true, outVacuum := true, outBlow := true, outPush := true, outGate := true
    portRouter := true, portPicker := true, portTransfer := true, portElevator := true, levels := true, faults := true
    haltLatches := true, free := true, pending := true }

/-! #### The Nest Queue -/

/-- Every part but the Nest Queue. -/
def offNests : Parts := { everyPart with nests := false }

theorem nestQueueOrdered_masked {s t : State} (e : mask offNests t = mask offNests s) (h : nestQueueOrdered s) :
    nestQueueOrdered t := by
  have hn : t.nests = s.nests := mask_nests e rfl
  simpa [nestQueueOrdered, hn] using h

theorem nestQueueOrdered_viewed {s t : State} (e : view t = view s) (h : nestQueueOrdered s) : nestQueueOrdered t := by
  have hn : t.nests = s.nests := congrArg View.nests e
  simpa [nestQueueOrdered, hn] using h

theorem nestQueueOrdered_filter {p : NestEntry → Bool} {s : State} (h : nestQueueOrdered s) :
    nestQueueOrdered (s.withNests (s.nests.filter p)) := by
  obtain ⟨hlen, hnodup, hocc⟩ := h
  have sub : (s.nests.filter p).Sublist s.nests := List.filter_sublist
  exact ⟨sub.length_le.trans hlen, hnodup.sublist (sub.map _), hocc.sublist sub⟩

/-- A placement changes the state of entries alone, and only to OCCUPIED. -/
theorem nestQueueOrdered_placed {n : Fin 3} {s : State} (h : nestQueueOrdered s) :
    nestQueueOrdered (s.withNests (s.nests.map fun e =>
      if e.nest = n && e.state = .reserved then { e with state := .occupied } else e)) := by
  obtain ⟨hlen, hnodup, hocc⟩ := h
  refine ⟨by simpa using hlen, ?_, ?_⟩
  · have same : ((fun e : NestEntry => e.nest) ∘ fun e : NestEntry =>
        if e.nest = n && e.state = .reserved then { e with state := .occupied } else e) = fun e => e.nest := by
      funext e; dsimp only [Function.comp]; split <;> rfl
    rw [State.withNests_nests, List.map_map, same]
    exact hnodup
  · refine List.pairwise_map.2 (hocc.imp fun {a b} ha => ?_)
    split
    · rfl
    · exact ha

/-- A reservation is made with every entry OCCUPIED, in a free nest, and with room for it (R144). -/
theorem nestQueueOrdered_granted {e : NestEntry} {s : State} (hr : canReserve s = true)
    (hf : freeNest s = some e.nest) (h : nestQueueOrdered s) : nestQueueOrdered (s.withNests (s.nests ++ [e])) := by
  obtain ⟨-, hnodup, -⟩ := h
  simp only [canReserve, Bool.and_eq_true, decide_eq_true_eq, List.all_eq_true] at hr
  obtain ⟨hroom, hnone⟩ := hr
  have hocc : ∀ q ∈ s.nests, q.state = .occupied := fun q hq => by
    have := hnone q hq
    cases hs : q.state with
    | reserved => exact absurd hs this
    | occupied => rfl
  have hfree : ∀ q ∈ s.nests, q.nest ≠ e.nest := by simpa using List.find?_some hf
  refine ⟨by simp; omega, ?_, ?_⟩
  · simp only [State.withNests_nests, List.map_append, List.map_cons, List.map_nil]
    refine hnodup.append (List.nodup_singleton _) ?_
    simpa [List.disjoint_singleton] using hfree
  · simp only [State.withNests_nests, List.pairwise_append]
    exact ⟨List.pairwise_of_forall_mem_list fun a ha _ _ => hocc a ha, List.pairwise_singleton _ _, fun a ha _ _ => hocc a ha⟩

theorem nestQueueOrdered_moves : Moves nestQueueOrdered where
  quiet := nestQueueOrdered_viewed
  fewer h := nestQueueOrdered_filter h
  raised h := Kept.raise
    { quiet := nestQueueOrdered_viewed
      raised := fun h => nestQueueOrdered_masked (by simp [offNests, everyPart]) h
      fewer := fun h => nestQueueOrdered_filter h }
    (fun h => nestQueueOrdered_masked (by simp [offNests, everyPart]) h) h
  entered _ _ h := nestQueueOrdered_masked (by simp [offNests, everyPart]) h
  parked _ h := h
  unconfigured _ h := h
  stopped h := nestQueueOrdered_masked (by simp [offNests, everyPart]) h
  started _ h := nestQueueOrdered_masked (by simp [offNests, everyPart]) h
  woken _ h := nestQueueOrdered_masked (by simp [offNests, everyPart]) h
  resumed h := nestQueueOrdered_masked (by simp [offNests, everyPart]) h
  qualified _ _ _ h := h
  coasted _ _ _ h := h
  respun _ h := nestQueueOrdered_masked (by simp [offNests, everyPart]) h
  speed h := nestQueueOrdered_masked (spindleSpeed_mask _ _ rfl rfl rfl) h
  placed h := nestQueueOrdered_placed h
  granted hr hf h := nestQueueOrdered_granted hr hf h
  bayDone _ h := nestQueueOrdered_masked (by simp [offNests, everyPart]) h
  bayTaken _ h := nestQueueOrdered_masked (by simp [offNests, everyPart]) h
  recordsFewer _ h := h
  recordAdded _ _ _ h := h
  acknowledged _ h := nestQueueOrdered_masked (by simp [offNests, everyPart, Faults.blank]) h
  levelled _ h := h
  pruned h := h
  cleared _ := by simp [nestQueueOrdered, resetCell, resetUnits]
  fresh := by simp [nestQueueOrdered, State.reset]

/-- Settles O57. -/
theorem nestQueueStaysOrdered : Obligations.NestQueueStaysOrdered :=
  fun _ _ h e => step_keeps nestQueueOrdered_moves e h

end Sys2Proof.Machine

namespace Sys2Proof.Machine

/-! #### The Panel Records and the bays -/

/-- Every part but the Panel Records and the bays. -/
def offRunsAndBays : Parts := { everyPart with records := false, bays := false }

theorem runsAndBaysSingle_viewed {s t : State} (e : view t = view s) (h : runsAndBaysSingle s) :
    runsAndBaysSingle t := by
  have hr : t.seq.records.map (·.serial) = s.seq.records.map (·.serial) := congrArg View.serials e
  have hl : t.seq.records.length = s.seq.records.length := by simpa using congrArg List.length hr
  have ha : t.bays.a.state = s.bays.a.state := congrArg View.bayA e
  have hb : t.bays.b.state = s.bays.b.state := congrArg View.bayB e
  simpa [runsAndBaysSingle, hr, hl, ha, hb] using h

theorem runsAndBaysSingle_masked {s t : State} (e : mask offRunsAndBays t = mask offRunsAndBays s)
    (h : runsAndBaysSingle s) : runsAndBaysSingle t := by
  have hr : t.seq.records = s.seq.records := mask_seq_records e rfl
  have hb : t.bays = s.bays := mask_bays e rfl
  simpa [runsAndBaysSingle, hr, hb] using h

theorem runsAndBaysSingle_added {q : Sequencer} {x : PanelRec} {s : State} (hq : q.records = s.seq.records ++ [x])
    (hroom : s.seq.records.length < 2) (hnew : ∀ y ∈ s.seq.records, y.serial ≠ x.serial) (h : runsAndBaysSingle s) :
    runsAndBaysSingle (s.withSeq q) := by
  obtain ⟨-, hnodup, hbays⟩ := h
  refine ⟨by simp [hq]; omega, ?_, hbays⟩
  simp only [State.withSeq_seq, hq, List.map_append, List.map_cons, List.map_nil]
  exact hnodup.append (List.nodup_singleton _) (by simpa [List.disjoint_singleton] using hnew)

theorem runsAndBaysSingle_fewer {p : PanelRec → Bool} {q : Sequencer} {s : State}
    (hq : q.records = s.seq.records.filter p) (h : runsAndBaysSingle s) : runsAndBaysSingle (s.withSeq q) := by
  obtain ⟨hlen, hnodup, hbays⟩ := h
  have sub : (s.seq.records.filter p).Sublist s.seq.records := List.filter_sublist
  refine ⟨?_, ?_, hbays⟩
  · rw [State.withSeq_seq, hq]; exact sub.length_le.trans hlen
  · rw [State.withSeq_seq, hq]; exact hnodup.sublist (sub.map _)

theorem runsAndBaysSingle_bayDone {x : Bay} {b : BayRec} {s : State} (hb : b.state ≠ .active)
    (h : runsAndBaysSingle s) : runsAndBaysSingle (setBay x b s) := by
  obtain ⟨hlen, hnodup, hbays⟩ := h
  cases x with
  | a => exact ⟨hlen, hnodup, fun both => hb both.1⟩
  | b => exact ⟨hlen, hnodup, fun both => hb both.2⟩

/-- The bay choice prefers an ACTIVE bay, so the bay it makes ACTIVE is the only one (R154). -/
theorem runsAndBaysSingle_bayTaken {x : Bay} {s : State} (hx : bayChoice s = some x) (h : runsAndBaysSingle s) :
    runsAndBaysSingle (setBay x { bayOf s x with state := .active } s) := by
  obtain ⟨hlen, hnodup, hbays⟩ := h
  refine ⟨by cases x <;> exact hlen, by cases x <;> exact hnodup, ?_⟩
  unfold bayChoice at hx
  cases x with
  | a => simp only [setBay, State.withBays_bays]; grind
  | b => simp only [setBay, State.withBays_bays]; grind

theorem runsAndBaysSingle_moves : Moves runsAndBaysSingle where
  quiet := runsAndBaysSingle_viewed
  fewer h := h
  raised h := Kept.raise
    { quiet := runsAndBaysSingle_viewed
      raised := fun h => runsAndBaysSingle_masked (raiseRecord_mask _ _ _ rfl rfl rfl rfl rfl) h
      fewer := fun h => h }
    (fun h => runsAndBaysSingle_masked (haltSpindle_mask _ rfl rfl rfl) h) h
  entered _ _ h := runsAndBaysSingle_masked (enterMode_mask _ _ rfl rfl rfl) h
  parked _ h := h
  unconfigured _ h := h
  stopped h := runsAndBaysSingle_masked (stopSpindle_mask _ rfl rfl) h
  started _ h := runsAndBaysSingle_masked (startSpindle_mask _ rfl rfl) h
  woken _ h := runsAndBaysSingle_masked (by simp [offRunsAndBays, everyPart]) h
  resumed h := runsAndBaysSingle_masked (by simp [offRunsAndBays, everyPart]) h
  qualified _ _ _ h := h
  coasted _ _ _ h := h
  respun _ h := h
  speed h := runsAndBaysSingle_masked (spindleSpeed_mask _ _ rfl rfl rfl) h
  placed h := h
  granted _ _ h := h
  bayDone hb h := runsAndBaysSingle_bayDone hb h
  bayTaken hx h := runsAndBaysSingle_bayTaken hx h
  recordsFewer hq h := runsAndBaysSingle_fewer hq h
  recordAdded hq hroom hnew h := runsAndBaysSingle_added hq hroom hnew h
  acknowledged _ h := runsAndBaysSingle_masked (by simp [offRunsAndBays, everyPart, Faults.blank]) h
  levelled _ h := h
  pruned h := h
  cleared h := ⟨by simp [resetCell, resetUnits, Sequencer.reset], by simp [resetCell, resetUnits, Sequencer.reset], h.2.2⟩
  fresh := by simp [runsAndBaysSingle, State.reset, Sequencer.reset, BayRec.reset]

/-- Settles O58. -/
theorem runsAndBaysStaySingle : Obligations.RunsAndBaysStaySingle :=
  fun _ _ h e => step_keeps runsAndBaysSingle_moves e h

/-! #### The records of the Fault Service -/

/-- Every part but the fault sets and the levels. -/
def offFaultRecords : Parts := { everyPart with levels := false, faults := false }

/-- The records as a raise or an acknowledge leaves them before the take rule acts. -/
def faultRecordsLoose (f : Faults) : Prop :=
  ((f.waiting ++ f.stack).map (·.source)).Nodup ∧ f.stack.Pairwise (fun above below => above.level < below.level) ∧
  (∀ r ∈ f.waiting ++ f.stack, r.level ≤ 7) ∧ ∀ src, getAt f.levels src ≤ 7

theorem faultRecordsOrdered_of_faults {s t : State} (hw : t.faults.waiting = s.faults.waiting)
    (hs : t.faults.stack = s.faults.stack) (hl : t.faults.levels = s.faults.levels) (h : faultRecordsOrdered s) :
    faultRecordsOrdered t := by
  simpa [faultRecordsOrdered, hw, hs, hl] using h

theorem faultRecordsOrdered_masked {s t : State} (e : mask offFaultRecords t = mask offFaultRecords s)
    (h : faultRecordsOrdered s) : faultRecordsOrdered t :=
  faultRecordsOrdered_of_faults (mask_faults_waiting e rfl) (mask_faults_stack e rfl) (mask_faults_levels e rfl) h

theorem faultRecordsOrdered_viewed {s t : State} (e : view t = view s) (h : faultRecordsOrdered s) :
    faultRecordsOrdered t := by
  have hf : t.faults = s.faults := congrArg View.faults e
  exact faultRecordsOrdered_of_faults (by rw [hf]) (by rw [hf]) (by rw [hf]) h

/-- The pending record the take rule looks at is a pending one, and none is more urgent (R179). -/
theorem mostUrgent_spec {l : List FaultRec} {r : FaultRec} (h : mostUrgent l = some r) :
    r ∈ l ∧ ∀ q ∈ l, r.level ≤ q.level := by
  induction l generalizing r with
  | nil => simp [mostUrgent] at h
  | cons a t ih =>
    unfold mostUrgent at h
    cases hm : mostUrgent t with
    | none =>
      have ht : t = [] := by
        cases t with
        | nil => rfl
        | cons b u =>
          simp only [mostUrgent] at hm
          split at hm
          · cases hm
          · split at hm <;> cases hm
      simp only [hm, Option.some.injEq] at h
      simp [← h, ht]
    | some m =>
      obtain ⟨hmem, hmin⟩ := ih hm
      simp only [hm] at h
      split at h
      · next hlt =>
        obtain rfl := Option.some.inj h
        have hle : a.level ≤ m.level := by simp at hlt; omega
        exact ⟨List.mem_cons_self, by
          rintro q (_ | ⟨_, hq⟩)
          · exact le_rfl
          · exact hle.trans (hmin q hq)⟩
      · next hlt =>
        obtain rfl := Option.some.inj h
        have hle : m.level ≤ a.level := by simp at hlt; omega
        exact ⟨List.mem_cons_of_mem _ hmem, by
          rintro q (_ | ⟨_, hq⟩)
          · exact hle
          · exact hmin q hq⟩

theorem mostUrgent_eq_none {l : List FaultRec} : mostUrgent l = none ↔ l = [] := by
  cases l with
  | nil => simp [mostUrgent]
  | cons a t =>
    simp only [mostUrgent, reduceCtorEq, iff_false]
    split
    · simp
    · split <;> simp

/-- Whether the record moved by the take rule is taken into service: the stack is empty or its top less urgent. -/
def outranks (r : FaultRec) (f : Faults) : Prop := ∀ top ∈ f.stack.head?, r.level < top.level

/-- What the take rule leaves of the fault sets (R179). -/
theorem takeRule_cases (s : State) :
    (s.faults.waiting = [] ∧ takeRule s = s) ∨
    ∃ r, mostUrgent s.faults.waiting = some r ∧
      ((¬ outranks r s.faults ∧ takeRule s = s) ∨
       (outranks r s.faults ∧ takeRule s = raiseNotice Notice.faultTaken (FaultRec.payload r) (s.withFaults
         { s.faults with
           waiting := s.faults.waiting.filter fun q => decide (q.source ≠ r.source)
           stack := r :: s.faults.stack }))) := by
  unfold takeRule outranks
  cases hm : mostUrgent s.faults.waiting with
  | none => exact .inl ⟨mostUrgent_eq_none.1 hm, rfl⟩
  | some r =>
    refine .inr ⟨r, rfl, ?_⟩
    cases hs : s.faults.stack with
    | nil => simp
    | cons top below =>
      by_cases hlt : r.level < top.level
      · simp [hlt]
      · simp [hlt]

@[simp] theorem raiseNotice_faults (n : Notice) (p : List Byte) (s : State) : (raiseNotice n p s).faults = s.faults := by
  unfold raiseNotice; dsimp only; split <;> rfl

/-- The take rule puts loose records in order (R179). -/
theorem faultRecordsOrdered_takeRule {s : State} (h : faultRecordsLoose s.faults) :
    faultRecordsOrdered (takeRule s) := by
  obtain ⟨hnodup, hpair, hle, hlevels⟩ := h
  obtain ⟨hw, e⟩ | ⟨r, hm, ⟨hout, e⟩ | ⟨hout, e⟩⟩ := takeRule_cases s
  · rw [e]
    exact ⟨hnodup, hpair, by simp [hw], fun _ => hw, hle, hlevels⟩
  · obtain ⟨-, hmin⟩ := mostUrgent_spec hm
    obtain ⟨top, htop, hlt⟩ : ∃ top ∈ s.faults.stack.head?, ¬ r.level < top.level := by
      simpa [outranks] using hout
    rw [e]
    refine ⟨hnodup, hpair, fun t ht q hq => ?_, fun hnil => ?_, hle, hlevels⟩
    · obtain rfl : t = top := Option.some.inj (ht.symm.trans htop)
      exact (not_lt.1 hlt).trans (hmin q hq)
    · simp [hnil] at htop
  · obtain ⟨hmem, hmin⟩ := mostUrgent_spec hm
    rw [e]
    simp only [faultRecordsOrdered, raiseNotice_faults, State.withFaults_faults]
    rw [List.map_append, List.nodup_append'] at hnodup
    obtain ⟨hw, hs, hdisj⟩ := hnodup
    have hr : r.source ∉ s.faults.stack.map (·.source) := fun hr => hdisj (List.mem_map_of_mem hmem) hr
    refine ⟨?_, ?_, ?_, by simp, ?_, hlevels⟩
    · rw [List.map_append, List.nodup_append', List.map_cons, List.nodup_cons]
      refine ⟨hw.sublist (List.filter_sublist.map _), ⟨hr, hs⟩, fun a ha hb => ?_⟩
      obtain ⟨q, hq, rfl⟩ := List.mem_map.1 ha
      simp only [List.mem_filter, decide_eq_true_eq] at hq
      rcases List.mem_cons.1 hb with hb | hb
      · exact hq.2 hb
      · exact hdisj (List.mem_map_of_mem hq.1) hb
    · refine List.pairwise_cons.2 ⟨fun q hq => ?_, hpair⟩
      cases hstack : s.faults.stack with
      | nil => simp [hstack] at hq
      | cons top below =>
        have htop : r.level < top.level := hout top (by simp [hstack])
        rw [hstack] at hq hpair
        rcases List.mem_cons.1 hq with rfl | hq
        · exact htop
        · exact htop.trans ((List.pairwise_cons.1 hpair).1 q hq)
    · simp only [List.head?_cons, Option.mem_def, Option.some.injEq, List.mem_filter]
      rintro _ rfl q hq
      exact hmin q hq.1
    · intro q hq
      simp only [List.mem_append, List.mem_filter, List.mem_cons] at hq
      refine hle q ?_
      rw [List.mem_append]
      rcases hq with ⟨hq, -⟩ | rfl | hq
      · exact .inl hq
      · exact .inl hmem
      · exact .inr hq

theorem FaultRec.count_source (src : Source) (r : FaultRec) : (FaultRec.count src r).source = r.source := by
  unfold FaultRec.count; split <;> rfl

theorem FaultRec.count_level (src : Source) (r : FaultRec) : (FaultRec.count src r).level = r.level := by
  unfold FaultRec.count; split <;> rfl

@[simp] theorem haltCell_faults (s : State) : (haltCell s).faults = s.faults := by
  unfold haltCell; split
  · split <;> rfl
  · rfl

@[simp] theorem setLatch_waiting (l : Nat) (f : Faults) : (setLatch l f).waiting = f.waiting := by
  unfold setLatch; split
  · rfl
  · split <;> rfl

@[simp] theorem setLatch_stack (l : Nat) (f : Faults) : (setLatch l f).stack = f.stack := by
  unfold setLatch; split
  · rfl
  · split <;> rfl

@[simp] theorem setLatch_levels (l : Nat) (f : Faults) : (setLatch l f).levels = f.levels := by
  unfold setLatch; split
  · rfl
  · split <;> rfl

/-- A repeat leaves every source and every level as they were (R178). -/
theorem faultRecordsOrdered_counted {src : Source} {s t : State}
    (hw : t.faults.waiting = s.faults.waiting.map (FaultRec.count src))
    (hs : t.faults.stack = s.faults.stack.map (FaultRec.count src)) (hl : t.faults.levels = s.faults.levels)
    (h : faultRecordsOrdered s) : faultRecordsOrdered t := by
  obtain ⟨hnodup, hpair, htop, hnil, hle, hlevels⟩ := h
  have hsource : (fun r : FaultRec => r.source) ∘ FaultRec.count src = fun r => r.source :=
    funext (FaultRec.count_source src)
  simp only [faultRecordsOrdered, hw, hs, hl, ← List.map_append, List.map_map, hsource]
  refine ⟨hnodup, ?_, ?_, ?_, ?_, hlevels⟩
  · rw [List.pairwise_map]
    simpa [FaultRec.count_level] using hpair
  · simpa [FaultRec.count_level] using htop
  · simpa using hnil
  · simpa [FaultRec.count_level, -List.map_append] using hle

end Sys2Proof.Machine

namespace Sys2Proof.Machine

theorem recordOf_eq_none {f : Faults} {src : Source} :
    recordOf f src = none ↔ ∀ r ∈ f.waiting ++ f.stack, r.source ≠ src := by
  simp only [recordOf, List.find?_eq_none, decide_eq_true_eq, ne_eq]

/-- A record added at the end of those pending leaves them loose (R178). -/
theorem faultRecordsLoose_added {f g : Faults} {r : FaultRec} (hw : g.waiting = f.waiting ++ [r])
    (hs : g.stack = f.stack) (hl : g.levels = f.levels) (hnew : ∀ q ∈ f.waiting ++ f.stack, q.source ≠ r.source)
    (hr : r.level ≤ 7) (h : faultRecordsLoose f) : faultRecordsLoose g := by
  obtain ⟨hnodup, hpair, hle, hlevels⟩ := h
  have perm : List.Perm (g.waiting ++ g.stack) (r :: (f.waiting ++ f.stack)) := by
    rw [hw, hs, List.append_assoc]; exact List.perm_middle
  refine ⟨?_, by rwa [hs], fun q hq => ?_, by rwa [hl]⟩
  · rw [(perm.map _).nodup_iff, List.map_cons, List.nodup_cons]
    refine ⟨fun hr => ?_, hnodup⟩
    obtain ⟨q, hq, e⟩ := List.mem_map.1 hr
    exact hnew q hq e
  · rcases List.mem_cons.1 (perm.mem_iff.1 hq) with rfl | hq
    · exact hr
    · exact hle q hq

theorem faultRecordsOrdered_raiseRecord {src : Source} {d : Detail} {s : State} (h : faultRecordsOrdered s) :
    faultRecordsOrdered (raiseRecord src d s) := by
  unfold raiseRecord
  split
  · exact faultRecordsOrdered_counted (src := src) (by simp) (by simp) (by simp) h
  · next hnone =>
    obtain ⟨hnodup, hpair, -, -, hle, hlevels⟩ := h
    exact faultRecordsOrdered_takeRule
      (faultRecordsLoose_added (f := s.faults)
        (r := { source := src, level := getAt s.faults.levels src, detail := d, repeats := 0 })
        (by simp) (by simp) (by simp) (recordOf_eq_none.1 hnone) (hlevels src) ⟨hnodup, hpair, hle, hlevels⟩)

/-- An acknowledge takes the top record away and lets the take rule act (R181). -/
theorem faultRecordsOrdered_acknowledged {top : FaultRec} {below : List FaultRec} {s : State}
    (hs : s.faults.stack = top :: below) (h : faultRecordsOrdered s) :
    faultRecordsOrdered (takeRule (s.withFaults { s.faults with stack := below })) := by
  obtain ⟨hnodup, hpair, -, -, hle, hlevels⟩ := h
  have sub : (s.faults.waiting ++ below).Sublist (s.faults.waiting ++ s.faults.stack) := by
    rw [hs]; exact (List.Sublist.refl _).append (List.sublist_cons_self _ _)
  rw [hs] at hpair
  exact faultRecordsOrdered_takeRule
    ⟨hnodup.sublist (sub.map _), (List.pairwise_cons.1 hpair).2, fun r hr => hle r (sub.subset hr), hlevels⟩

theorem faultRecordsOrdered_pruned {p : FaultRec → Bool} {s : State} (h : faultRecordsOrdered s) :
    faultRecordsOrdered (s.withFaults { s.faults with waiting := s.faults.waiting.filter p }) := by
  obtain ⟨hnodup, hpair, htop, hnil, hle, hlevels⟩ := h
  have sub : (s.faults.waiting.filter p ++ s.faults.stack).Sublist (s.faults.waiting ++ s.faults.stack) :=
    List.filter_sublist.append (List.Sublist.refl _)
  exact ⟨hnodup.sublist (sub.map _), hpair, fun t ht q hq => htop t ht q (List.mem_of_mem_filter hq),
    fun hs => by simp [hnil hs], fun r hr => hle r (sub.subset hr), hlevels⟩

theorem faultRecordsOrdered_levelled {src : Source} {v : Nat} {s : State} (hv : v ≤ 7) (h : faultRecordsOrdered s) :
    faultRecordsOrdered (s.withFaults { s.faults with levels := setAt s.faults.levels src v }) := by
  obtain ⟨hnodup, hpair, htop, hnil, hle, hlevels⟩ := h
  refine ⟨hnodup, hpair, htop, hnil, hle, fun q => ?_⟩
  rw [State.withFaults_faults, getAt_setAt]
  split
  · exact hv
  · exact hlevels q

theorem faultRecordsOrdered_reset : faultRecordsOrdered State.reset := by
  refine ⟨by decide, by decide, by decide, by decide, by decide, by decide⟩

theorem faultRecordsOrdered_moves : Moves faultRecordsOrdered where
  quiet := faultRecordsOrdered_viewed
  fewer h := h
  raised h := Kept.raise
    { quiet := faultRecordsOrdered_viewed
      raised := faultRecordsOrdered_raiseRecord
      fewer := fun h => h }
    (fun h => faultRecordsOrdered_masked (haltSpindle_mask _ rfl rfl rfl) h) h
  entered _ _ h := faultRecordsOrdered_masked (enterMode_mask _ _ rfl rfl rfl) h
  parked _ h := h
  unconfigured _ h := h
  stopped h := faultRecordsOrdered_masked (stopSpindle_mask _ rfl rfl) h
  started _ h := faultRecordsOrdered_masked (startSpindle_mask _ rfl rfl) h
  woken _ h := faultRecordsOrdered_masked (by simp [offFaultRecords, everyPart]) h
  resumed h := faultRecordsOrdered_masked (by simp [offFaultRecords, everyPart]) h
  qualified _ _ _ h := h
  coasted _ _ _ h := h
  respun _ h := h
  speed h := faultRecordsOrdered_masked (spindleSpeed_mask _ _ rfl rfl rfl) h
  placed h := h
  granted _ _ h := h
  bayDone _ h := faultRecordsOrdered_masked (setBay_mask _ _ _ rfl) h
  bayTaken _ h := faultRecordsOrdered_masked (setBay_mask _ _ _ rfl) h
  recordsFewer _ h := h
  recordAdded _ _ _ h := h
  acknowledged hs h := faultRecordsOrdered_acknowledged hs h
  levelled hv h := faultRecordsOrdered_levelled hv h
  pruned h := faultRecordsOrdered_pruned h
  cleared h := by
    obtain ⟨-, -, -, -, -, hlevels⟩ := h
    exact ⟨by simp [resetCell, resetUnits], by simp [resetCell, resetUnits], by simp [resetCell, resetUnits],
      by simp [resetCell, resetUnits], by simp [resetCell, resetUnits], hlevels⟩
  fresh := faultRecordsOrdered_reset

/-- Settles O56. -/
theorem faultRecordsStayOrdered : Obligations.FaultRecordsStayOrdered :=
  fun _ _ h e => step_keeps faultRecordsOrdered_moves e h

/-! #### The spindle, the latches and the mode -/

/-- What `spindleInterlocked` asks of the spindle's outputs: they follow its state (R103). -/
def outputsFollow (p : Spindle) (o : Outputs) : Prop :=
  (o.spindleRun = true ↔ p.state = .spinup ∨ p.state = .atSpeed) ∧
  (o.spindleRun = true → o.speedRef = p.setpoint) ∧ (o.spindleRun = false → o.speedRef = 0)

/-- No cell runs under a halt latch (R57). -/
def haltedUnderLatch (f : Faults) (c : Cell) : Prop :=
  f.allStop = true ∨ f.cutStop = true → c.mode = .unconfigured ∨ c.mode = .halted ∨ c.mode = .parked

theorem spindleInterlocked_iff (s : State) :
    spindleInterlocked s ↔ outputsFollow s.spindle s.outputs ∧ (s.faults.allStop = true → s.outputs.spindleRun = false) ∧
      haltedUnderLatch s.faults s.cell := by
  simp only [spindleInterlocked, outputsFollow, haltedUnderLatch, and_assoc]

/-- The interlock but for ALL_STOP, as it stands between a raise and the stop of the units. -/
def spindleFollows (s : State) : Prop := outputsFollow s.spindle s.outputs ∧ haltedUnderLatch s.faults s.cell

theorem spindleFollows_of_interlocked {s : State} (h : spindleInterlocked s) : spindleFollows s :=
  have h := (spindleInterlocked_iff s).1 h
  ⟨h.1, h.2.2⟩

theorem latched_iff (f : Faults) : latched f = true ↔ f.allStop = true ∨ f.cutStop = true := by simp [latched]

/-- After the halt of the cell no cell runs under a latch (R57). -/
theorem haltCell_halts (s : State) : haltedUnderLatch (haltCell s).faults (haltCell s).cell := by
  intro h
  rw [haltCell_faults, ← latched_iff] at h
  unfold haltCell
  rw [if_pos h]
  cases hm : s.cell.mode <;> simp [hm]

/-- Every part but the spindle's state, its setpoint and its outputs. -/
def offSpindle : Parts := { everyPart with spindle := false, setpoint := false, outSpindle := false }

theorem outputsFollow_masked {s t : State} (e : mask offSpindle t = mask offSpindle s)
    (h : outputsFollow s.spindle s.outputs) : outputsFollow t.spindle t.outputs := by
  simpa [outputsFollow, mask_spindle_state e rfl, mask_spindle_setpoint e rfl, mask_outputs_spindleRun e rfl,
    mask_outputs_speedRef e rfl] using h

theorem outputsFollow_enterSpinup (ms : Nat) (s : State) :
    outputsFollow (enterSpinup ms s).spindle (enterSpinup ms s).outputs := by
  simp [outputsFollow, enterSpinup]

theorem outputsFollow_startSpindle {s : State} (h : outputsFollow s.spindle s.outputs) :
    outputsFollow (startSpindle s).spindle (startSpindle s).outputs := by
  unfold startSpindle
  split
  · exact outputsFollow_enterSpinup _ _
  · exact outputsFollow_enterSpinup _ _
  all_goals exact h

theorem outputsFollow_stopSpindle {s : State} (h : outputsFollow s.spindle s.outputs) :
    outputsFollow (stopSpindle s).spindle (stopSpindle s).outputs := by
  unfold stopSpindle
  split
  · simp [outputsFollow]
  · simp [outputsFollow]
  all_goals exact h

/-- After a stop request SPINDLE_RUN is off. -/
theorem stopSpindle_run {s : State} (h : outputsFollow s.spindle s.outputs) :
    (stopSpindle s).outputs.spindleRun = false := by
  obtain ⟨hrun, -, -⟩ := h
  unfold stopSpindle
  split
  · rfl
  · rfl
  all_goals next hs => simpa [hs] using hrun

theorem startSpindle_cell (s : State) : (startSpindle s).cell = s.cell := by
  unfold startSpindle; split <;> rfl

theorem startSpindle_faults (s : State) : (startSpindle s).faults = s.faults := by
  unfold startSpindle; split <;> rfl

theorem stopSpindle_cell (s : State) : (stopSpindle s).cell = s.cell := by
  unfold stopSpindle; split <;> rfl

theorem stopSpindle_faults (s : State) : (stopSpindle s).faults = s.faults := by
  unfold stopSpindle; split <;> rfl

theorem takeRule_halts {s : State} (h : haltedUnderLatch s.faults s.cell) :
    haltedUnderLatch (takeRule s).faults (takeRule s).cell := by
  have e : mask { everyPart with cell := false, haltLatches := false } (takeRule s) =
      mask { everyPart with cell := false, haltLatches := false } s := takeRule_mask _ rfl rfl
  simpa [haltedUnderLatch, mask_cell_mode e rfl, mask_faults_allStop e rfl, mask_faults_cutStop e rfl] using h

theorem raiseRecord_halts (src : Source) (d : Detail) (s : State) :
    haltedUnderLatch (raiseRecord src d s).faults (raiseRecord src d s).cell := by
  unfold raiseRecord
  split
  · exact haltCell_halts _
  · exact takeRule_halts (haltCell_halts _)

theorem spindleFollows_viewed {s t : State} (e : view t = view s) (h : spindleFollows s) : spindleFollows t := by
  have hf : t.faults = s.faults := congrArg View.faults e
  have hm : t.cell.mode = s.cell.mode := congrArg View.mode e
  have hp : t.spindle.state = s.spindle.state := congrArg View.spindle e
  have hq : t.spindle.setpoint = s.spindle.setpoint := congrArg View.setpoint e
  have hr : t.outputs.spindleRun = s.outputs.spindleRun := congrArg View.run e
  have hv : t.outputs.speedRef = s.outputs.speedRef := congrArg View.ref e
  simpa [spindleFollows, outputsFollow, haltedUnderLatch, hf, hm, hp, hq, hr, hv] using h

theorem spindleFollows_raiseRecord : Kept spindleFollows raiseRecord where
  quiet := spindleFollows_viewed
  raised h := ⟨outputsFollow_masked (raiseRecord_mask _ _ _ rfl rfl rfl rfl rfl) h.1, raiseRecord_halts _ _ _⟩
  fewer h := h

theorem spindleFollows_haltSpindle {s : State} (h : spindleFollows s) :
    spindleFollows (haltSpindle s) ∧ (haltSpindle s).outputs.spindleRun = false := by
  obtain ⟨hout, hmode⟩ := h
  unfold haltSpindle
  split
  · refine ⟨⟨outputsFollow_stopSpindle hout, ?_⟩, stopSpindle_run hout⟩
    simpa [haltedUnderLatch, stopSpindle_cell, stopSpindle_faults] using hmode
  · next hrun => exact ⟨⟨hout, hmode⟩, by simpa using hrun⟩

/-- A raise keeps the interlock: one that sets ALL_STOP anew turns the spindle off first (R111). -/
theorem spindleInterlocked_raise {src : Source} {d : Detail} {s : State} (h : spindleInterlocked s) :
    spindleInterlocked (raise src d s) := by
  have hkept := spindleFollows_raiseRecord
  have hraised : spindleFollows (raiseRecord src d s) := hkept.raised (spindleFollows_of_interlocked h)
  have hf : spindleFollows (raise src d s) := hkept.raise (fun h => (spindleFollows_haltSpindle h).1)
    (spindleFollows_of_interlocked h)
  refine (spindleInterlocked_iff _).2 ⟨hf.1, fun hall => ?_, hf.2⟩
  unfold raise at hall ⊢
  dsimp only at hall ⊢
  split at hall
  · next hnew =>
    rw [if_pos hnew]
    obtain ⟨-, hrun⟩ := spindleFollows_haltSpindle hraised
    have e : mask offSpindle (allStopUnits (raiseRecord src d s)) =
        mask offSpindle (haltSpindle (raiseRecord src d s)) := by
      simp [allStopUnits, offSpindle, everyPart]
    rw [mask_outputs_spindleRun e rfl, hrun]
  · next hold =>
    rw [if_neg hold]
    have hs : s.faults.allStop = true := by simpa [hall] using hold
    have e : mask offSpindle (raiseRecord src d s) = mask offSpindle s := raiseRecord_mask _ _ _ rfl rfl rfl rfl rfl
    rw [mask_outputs_spindleRun e rfl]
    exact ((spindleInterlocked_iff s).1 h).2.1 hs

theorem spindleInterlocked_viewed {s t : State} (e : view t = view s) (h : spindleInterlocked s) :
    spindleInterlocked t := by
  obtain ⟨hout, hall, hmode⟩ := (spindleInterlocked_iff s).1 h
  obtain ⟨hout', hmode'⟩ := spindleFollows_viewed e ⟨hout, hmode⟩
  have hf : t.faults = s.faults := congrArg View.faults e
  have hr : t.outputs.spindleRun = s.outputs.spindleRun := congrArg View.run e
  exact (spindleInterlocked_iff t).2 ⟨hout', by rw [hf, hr]; exact hall, hmode'⟩

/-- Every part but what the interlock reads. -/
def offInterlock : Parts :=
  { everyPart with cell := false, spindle := false, setpoint := false, outSpindle := false, haltLatches := false }

theorem spindleInterlocked_masked {s t : State} (e : mask offInterlock t = mask offInterlock s)
    (h : spindleInterlocked s) : spindleInterlocked t := by
  simpa [spindleInterlocked, mask_spindle_state e rfl, mask_spindle_setpoint e rfl, mask_outputs_spindleRun e rfl,
    mask_outputs_speedRef e rfl, mask_faults_allStop e rfl, mask_faults_cutStop e rfl, mask_cell_mode e rfl] using h

/-- Where the spindle and the latches stay, the mode alone is to be judged. -/
theorem spindleInterlocked_of_mode {s t : State} (hp : t.spindle = s.spindle) (ho : t.outputs = s.outputs)
    (hf : t.faults = s.faults) (hmode : haltedUnderLatch t.faults t.cell) (h : spindleInterlocked s) :
    spindleInterlocked t := by
  obtain ⟨hout, hall, -⟩ := (spindleInterlocked_iff s).1 h
  exact (spindleInterlocked_iff t).2 ⟨by rw [hp, ho]; exact hout, by rw [hf, ho]; exact hall, hmode⟩

/-- Without ALL_STOP the outputs and the mode alone are to be judged. -/
theorem spindleInterlocked_of_clear {s : State} (hout : outputsFollow s.spindle s.outputs)
    (hall : s.faults.allStop = false) (hmode : haltedUnderLatch s.faults s.cell) : spindleInterlocked s :=
  (spindleInterlocked_iff s).2 ⟨hout, fun h => by simp [hall] at h, hmode⟩

theorem haltCell_spindle (s : State) : (haltCell s).spindle = s.spindle := by
  unfold haltCell; split
  · split <;> rfl
  · rfl

theorem haltCell_outputs (s : State) : (haltCell s).outputs = s.outputs := by
  unfold haltCell; split
  · split <;> rfl
  · rfl

@[simp] theorem raiseNotice_spindle (n : Notice) (p : List Byte) (s : State) : (raiseNotice n p s).spindle = s.spindle := by
  unfold raiseNotice; dsimp only; split <;> rfl

@[simp] theorem raiseNotice_outputs (n : Notice) (p : List Byte) (s : State) : (raiseNotice n p s).outputs = s.outputs := by
  unfold raiseNotice; dsimp only; split <;> rfl

theorem spindleInterlocked_enterMode (m : Mode) {s : State} (h : spindleInterlocked s) :
    spindleInterlocked (enterMode m s) := by
  unfold enterMode
  refine spindleInterlocked_of_mode ?_ ?_ ?_ (haltCell_halts _) h
  · rw [haltCell_spindle]; split
    · rw [raiseNotice_spindle]; rfl
    · rfl
  · rw [haltCell_outputs]; split
    · rw [raiseNotice_outputs]; rfl
    · rfl
  · rw [haltCell_faults]; split
    · rw [raiseNotice_faults]; rfl
    · rfl

theorem spindleInterlocked_stopSpindle {s : State} (h : spindleInterlocked s) :
    spindleInterlocked (stopSpindle s) := by
  obtain ⟨hout, -, hmode⟩ := (spindleInterlocked_iff s).1 h
  refine (spindleInterlocked_iff _).2 ⟨outputsFollow_stopSpindle hout, fun _ => stopSpindle_run hout, ?_⟩
  rwa [stopSpindle_cell, stopSpindle_faults]

/-- A spindle may be started where ALL_STOP is clear. -/
theorem spindleInterlocked_startSpindle {s : State} (hall : s.faults.allStop = false) (h : spindleInterlocked s) :
    spindleInterlocked (startSpindle s) := by
  obtain ⟨hout, -, hmode⟩ := (spindleInterlocked_iff s).1 h
  refine spindleInterlocked_of_clear (outputsFollow_startSpindle hout) ?_ ?_
  · rwa [startSpindle_faults]
  · rwa [startSpindle_cell, startSpindle_faults]

/-- An IDLE cell stands under no halt latch. -/
theorem allStop_of_idle {s : State} (hm : s.cell.mode = .idle) (h : spindleInterlocked s) :
    s.faults.allStop = false := by
  obtain ⟨-, -, hmode⟩ := (spindleInterlocked_iff s).1 h
  by_contra hc
  simpa [hm] using hmode (.inl (by simpa using hc))

/-- A running spindle turns under no ALL_STOP. -/
theorem allStop_of_running {s : State} (hp : s.spindle.state = .spinup ∨ s.spindle.state = .atSpeed)
    (h : spindleInterlocked s) : s.faults.allStop = false := by
  obtain ⟨⟨hrun, -, -⟩, hall, -⟩ := (spindleInterlocked_iff s).1 h
  by_contra hc
  simp [hrun.2 hp] at hall
  exact hc hall

theorem spindleInterlocked_startWake {s : State} (h : spindleInterlocked s) : spindleInterlocked (startWake s) := by
  unfold startWake
  dsimp only
  generalize hv : (clearNotice Notice.parked s).withLines _ = v
  have hi : spindleInterlocked v := by
    rw [← hv]; exact spindleInterlocked_viewed (s := s) rfl h
  split
  · exact spindleInterlocked_of_mode (s := v) rfl rfl rfl (fun _ => .inr (.inl rfl)) hi
  · next hall =>
    have hall : v.faults.allStop = false := by simpa using hall
    split
    · exact spindleInterlocked_startSpindle hall (spindleInterlocked_of_mode (s := v) rfl rfl rfl (fun _ => .inr (.inl rfl)) hi)
    · next hcut =>
      refine spindleInterlocked_startSpindle hall (spindleInterlocked_of_mode (s := v) rfl rfl rfl (fun hl => ?_) hi)
      have hcut : v.faults.cutStop = false := by simpa using hcut
      simp [hall, hcut] at hl

/-- RESUME in HALTED clears both latches before the spindle is started (R59). -/
theorem spindleInterlocked_resumeHalted {s : State} (h : spindleInterlocked s) :
    spindleInterlocked (resumeHalted s) := by
  obtain ⟨hout, -, -⟩ := (spindleInterlocked_iff s).1 h
  have hopen : spindleInterlocked (s.withFaults { s.faults with allStop := false, cutStop := false }) :=
    spindleInterlocked_of_clear hout rfl (fun hl => by simp at hl)
  unfold resumeHalted
  dsimp only
  generalize hv : clearNotice Notice.holdReached _ = v
  have hi : spindleInterlocked v := by
    rw [← hv]; exact spindleInterlocked_masked (clearNotice_mask _ _ rfl rfl) hopen
  have hall : v.faults.allStop = false := by rw [← hv]; rfl
  have hspun : spindleInterlocked (restartSpindle v) := by
    unfold restartSpindle
    split
    · exact spindleInterlocked_startSpindle hall (spindleInterlocked_viewed (s := v) rfl hi)
    · exact hi
  unfold enterReturn
  split
  · exact spindleInterlocked_enterMode _ (spindleInterlocked_viewed (s := restartSpindle v) rfl hspun)
  · exact hspun

/-- SPINDLE SPEED: a running spindle whose speed changes spins up again, with the new speed as its reference (R107). -/
theorem spindleInterlocked_spindleSpeed {body : List Byte} {s : State} (h : spindleInterlocked s) :
    spindleInterlocked (spindleSpeed body s).1 := by
  obtain ⟨⟨hrun, href, hzero⟩, hall, hmode⟩ := (spindleInterlocked_iff s).1 h
  unfold spindleSpeed
  simp only [done_state]
  generalize clampNat 20000 60000 (u16 body 0) = x
  by_cases hp : s.spindle.state = .spinup ∨ s.spindle.state = .atSpeed
  · have hclear := allStop_of_running hp h
    by_cases hx : x = s.spindle.setpoint
    · rcases hp with hp | hp <;>
        simpa [hp, hx, spindleInterlocked, haltedUnderLatch] using h
    · have hs : spindleInterlocked (enterSpinup 500 (s.withSpindle { s.spindle with setpoint := x })) :=
        spindleInterlocked_of_clear (outputsFollow_enterSpinup _ _) hclear hmode
      rcases hp with hp | hp <;> simpa [hp, hx] using hs
  · have hoff : s.outputs.spindleRun = false := by
      by_contra hc; exact hp (hrun.1 (by simpa using hc))
    have hs : spindleInterlocked (s.withSpindle { s.spindle with setpoint := x }) :=
      (spindleInterlocked_iff _).2 ⟨⟨hrun, fun hc => by simp [hoff] at hc, hzero⟩, hall, hmode⟩
    cases hst : s.spindle.state with
    | stopped => simpa [hst] using hs
    | coasting => simpa [hst] using hs
    | spinup => exact absurd (.inl hst) hp
    | atSpeed => exact absurd (.inr hst) hp

theorem spindleInterlocked_cleared (s : State) : spindleInterlocked (resetCell (resetUnits s)) := by
  refine spindleInterlocked_of_clear ?_ rfl (fun hl => by simp [resetCell, resetUnits] at hl)
  have hstate : (Spindle.cellReset s.spindle).state ≠ .spinup ∧ (Spindle.cellReset s.spindle).state ≠ .atSpeed := by
    unfold Spindle.cellReset
    cases s.spindle.state <;> simp
  simp [outputsFollow, resetCell, resetUnits, Outputs.reset, hstate]

theorem spindleInterlocked_moves : Moves spindleInterlocked where
  quiet := spindleInterlocked_viewed
  fewer h := h
  raised h := spindleInterlocked_raise h
  entered m _ h := spindleInterlocked_enterMode m h
  parked {s _} hc h := spindleInterlocked_of_mode (s := s) rfl rfl rfl (fun _ => .inr (.inr hc)) h
  unconfigured {s _} hc h := spindleInterlocked_of_mode (s := s) rfl rfl rfl (fun _ => .inl hc) h
  stopped h := spindleInterlocked_stopSpindle h
  started hm h := spindleInterlocked_startSpindle (allStop_of_idle hm h) h
  woken _ h := spindleInterlocked_startWake h
  resumed h := spindleInterlocked_resumeHalted h
  qualified hp hq hsp h := by
    have hclear := allStop_of_running (.inl hp) h
    obtain ⟨⟨hrun, href, -⟩, -, hmode⟩ := (spindleInterlocked_iff _).1 h
    have hon := hrun.2 (.inl hp)
    refine spindleInterlocked_of_clear ?_ hclear hmode
    simp [outputsFollow, hq, hon, hsp, href hon]
  coasted hp hq hsp h := by
    obtain ⟨⟨hrun, -, hzero⟩, hall, hmode⟩ := (spindleInterlocked_iff _).1 h
    have hoff := hrun.not.2 (by simp [hp])
    refine (spindleInterlocked_iff _).2 ⟨?_, hall, hmode⟩
    simp_all [outputsFollow]
  respun hp h := by
    have hclear := allStop_of_running (.inr hp) h
    obtain ⟨-, -, hmode⟩ := (spindleInterlocked_iff _).1 h
    exact spindleInterlocked_of_clear (outputsFollow_enterSpinup _ _) hclear hmode
  speed h := spindleInterlocked_spindleSpeed h
  placed h := h
  granted _ _ h := h
  bayDone _ h := spindleInterlocked_masked (setBay_mask _ _ _ rfl) h
  bayTaken _ h := spindleInterlocked_masked (setBay_mask _ _ _ rfl) h
  recordsFewer _ h := h
  recordAdded _ _ _ h := h
  acknowledged _ h := spindleInterlocked_masked (by simp [offInterlock, everyPart, Faults.blank]) h
  levelled _ h := h
  pruned h := h
  cleared _ := spindleInterlocked_cleared _
  fresh := by simp [spindleInterlocked, State.reset, Spindle.reset, Outputs.reset, Faults.reset]

/-- Settles O59. -/
theorem spindleStaysInterlocked : Obligations.SpindleStaysInterlocked :=
  fun _ _ h e => step_keeps spindleInterlocked_moves e h

end Sys2Proof.Machine

/-! ### Requests by their kind (R7 to R10) -/

namespace Sys2Proof.Machine

/-- The block's part in a request, by the code of its kind (R10), or none for a code of no request (R8). -/
def blockOf : Nat → Option Handler
  | 0x01 => some statusQuery
  | 0x02 => some tableRead
  | 0x03 => some cellResetRequest
  | 0x10 => some recipeBegin
  | 0x11 => some boardDefine
  | 0x12 => some tabDefine
  | 0x13 => some recipeClose
  | 0x14 => some profileDefine
  | 0x20 => some panelStart
  | 0x21 => some holdAtBoundary
  | 0x22 => some resumeCell
  | 0x23 => some panelStop
  | 0x24 => some parkRequest
  | 0x25 => some wakeRequest
  | 0x30 => some bitSet
  | 0x31 => some spindleSpeed
  | 0x32 => some feedOverride
  | 0x33 => some probeSettings
  | 0x34 => some spindleTiming
  | 0x35 => some pickerTiming
  | 0x40 => some bayLoad
  | 0x41 => some bayRetire
  | 0x50 => some lineConfigure
  | 0x51 => some auxConfigure
  | 0x60 => some faultLevelSet
  | 0x61 => some faultAcknowledge
  | 0x62 => some unitClear
  | 0x70 => some noticeEnable
  | 0x71 => some noticeClear
  | _ => none

/-- What answers a frame of a kind: its block, or BAD_KIND. -/
def answering (kind : Byte) : Handler := (blockOf kind.toNat).getD fun _ s => refuse .badKind s

/-- A body of this length is passed to what answers the kind (R8, R9). -/
def lengthFits (kind : Byte) (n : Nat) : Bool := (blockOf kind.toNat).isNone || lengthAccepted kind n

theorem recordsOk_board (n : Nat) : recordsOk 6 8 n = decide (n ∈ [6, 12, 18, 24, 30, 36, 42, 48]) := by
  simp only [recordsOk, ← Bool.decide_and, List.mem_cons, List.not_mem_nil, or_false, decide_eq_decide]
  omega

theorem recordsOk_tab (n : Nat) : recordsOk 13 16 n =
    decide (n ∈ [13, 26, 39, 52, 65, 78, 91, 104, 117, 130, 143, 156, 169, 182, 195, 208]) := by
  simp only [recordsOk, ← Bool.decide_and, List.mem_cons, List.not_mem_nil, or_false, decide_eq_decide]
  omega

theorem lengthAccepted_board (n : Nat) : lengthAccepted 0x11 n = recordsOk 6 8 n := (recordsOk_board n).symm
theorem lengthAccepted_tab (n : Nat) : lengthAccepted 0x12 n = recordsOk 13 16 n := (recordsOk_tab n).symm

theorem takeBoardDefine_eq (tag : Byte) (body : List Byte) (s : State) :
    takeBoardDefine tag body s = takeRequest 0x11 (lengthAccepted 0x11 body.length) boardDefine tag body s := by
  rw [lengthAccepted_board]; rfl

theorem takeTabDefine_eq (tag : Byte) (body : List Byte) (s : State) :
    takeTabDefine tag body s = takeRequest 0x12 (lengthAccepted 0x12 body.length) tabDefine tag body s := by
  rw [lengthAccepted_tab]; rfl

/-- A request completes at its block, a kind of no request at BAD_KIND (R8 to R10). -/
theorem requestCompletes_eq (kind tag : Byte) (body : List Byte) (s : State) :
    requestCompletes kind tag body s =
      takeRequest kind (lengthFits kind body.length) (answering kind) tag body s := by
  have code : kind = BitVec.ofNat 8 kind.toNat := by simp
  unfold requestCompletes
  split
  case h_5 h => rw [h] at code; subst code; exact takeBoardDefine_eq tag body s
  case h_6 h => rw [h] at code; subst code; exact takeTabDefine_eq tag body s
  case h_30 =>
    have none : blockOf kind.toNat = none := by
      unfold blockOf
      split
      case h_30 => rfl
      all_goals contradiction
    simp [takeBadKind, answering, lengthFits, none]
  all_goals next h => rw [h] at code; subst code; rfl

/-- A request command is the completion of its frame (R6, R7). -/
theorem exec_requestCompletes {i : Instr} {kind tag : Byte} {body : List Byte}
    (h : requestOf i = some (kind, tag, body)) (s : State) :
    exec i s = .next (finish (requestCompletes kind tag body s)) := by
  cases i <;> simp only [requestOf, Option.some.injEq, Prod.mk.injEq, reduceCtorEq] at h
  all_goals obtain ⟨rfl, rfl, rfl⟩ := h; rfl

end Sys2Proof.Machine

namespace Sys2Proof.Machine

/-! #### Refusals (R10, R11) -/

/-- An answer to a request at `s`: a status of R11 first, and no change where it is a refusal. -/
def Answers (s : State) (r : State × List Byte) : Prop :=
  ∃ (status : Byte) (result : List Byte) (u : State),
    r = (u, status :: result) ∧ status.toNat ≤ 15 ∧ (2 < status.toNat → u = s)

theorem Status.code_le (st : Status) : (Status.code st).toNat ≤ 15 := by cases st <;> decide

@[simp] theorem answers_refuse (st : Status) (s : State) : Answers s (refuse st s) :=
  ⟨_, _, _, rfl, Status.code_le st, fun _ => rfl⟩

@[simp] theorem answers_refuseField (f : FieldFail) (s : State) : Answers s (refuseField f s) := by
  cases f <;> exact ⟨_, _, _, rfl, by decide, fun _ => rfl⟩

@[simp] theorem answers_badField (p : Nat) (s : State) : Answers s (badField p s) := answers_refuseField _ _

@[simp] theorem answers_badRecipe (st : Status) (result : List Byte) (s : State) :
    Answers s (s, Status.code st :: result) :=
  ⟨_, _, _, rfl, Status.code_le st, fun _ => rfl⟩

@[simp] theorem answers_done_ok (result : List Byte) (u s : State) : Answers s (done .ok result u) :=
  ⟨_, _, _, rfl, by decide, fun h => absurd h (by decide)⟩

@[simp] theorem answers_done_accepted (result : List Byte) (u s : State) : Answers s (done .accepted result u) :=
  ⟨_, _, _, rfl, by decide, fun h => absurd h (by decide)⟩

@[simp] theorem answers_done_clamped (c : Bool) (result : List Byte) (u s : State) :
    Answers s (done (clampStatus c) result u) := by
  cases c <;> exact ⟨_, _, _, rfl, by decide, fun h => absurd h (by decide)⟩

/-- Whatever branch a block takes, it ends in an answer. -/
theorem blockOf_answers {n : Nat} {h : Handler} (e : blockOf n = some h) (body : List Byte) (s : State) :
    Answers s (h body s) := by
  unfold blockOf at e
  split at e
  case h_30 => cases e
  all_goals
    obtain rfl := Option.some.inj e
    simp only [statusQuery, tableRead, cellResetRequest, recipeBegin, boardDefine, tabDefine, recipeClose, profileDefine,
      panelStart, holdAtBoundary, resumeCell, panelStop, parkRequest, wakeRequest, bitSet, spindleSpeed, feedOverride,
      probeSettings, spindleTiming, pickerTiming, bayLoad, bayRetire, lineConfigure, auxConfigure, faultLevelSet,
      faultAcknowledge, unitClear, noticeEnable, noticeClear]
    repeat' split
    all_goals simp

theorem answering_answers (kind : Byte) (body : List Byte) (s : State) : Answers s (answering kind body s) := by
  unfold answering
  cases e : blockOf kind.toNat with
  | none => exact answers_refuse _ _
  | some h => exact blockOf_answers e body s

theorem answerTo_answers (ok : Bool) (kind : Byte) (body : List Byte) (s : State) :
    Answers s (answerTo ok (answering kind) body s) := by
  unfold answerTo
  split
  · exact answering_answers kind body s
  · exact answers_refuse _ _

/-- Settles O7: the request is answered by its block or for its length, and either way with an answer of R11. -/
theorem refusalsChangeNothing : Obligations.RefusalsChangeNothing := by
  intro i kind tag body s hi hslot
  obtain ⟨status, result, u, e, hle, hsame⟩ := answerTo_answers (lengthFits kind body.length) kind body s
  refine ⟨status, result, u, ?_, hle, hsame⟩
  rw [exec_requestCompletes hi, requestCompletes_eq, takeRequest_empty hslot, e]

/-! #### An occupied slot (R7) -/

/-- Settles O6. -/
theorem occupiedSlotRefuses : Obligations.OccupiedSlotRefuses := by
  intro i kind tag body x s hi hslot
  rw [exec_requestCompletes hi, requestCompletes_eq]
  unfold takeRequest
  simp only [hslot]
  refine ⟨fun room hs => ?_, fun full hs => ?_⟩
  · rw [if_pos room, finish_still (by simpa using hs)]
  · rw [if_neg (Nat.not_lt.2 full), finish_still (still_raiseNotice _ _ hs)]

/-! #### Malformed requests (R8, R9) -/

/-- The request command of a code, by its tag and body. -/
def commandOf : Nat → Option (Byte → List Byte → Instr)
  | 0x01 => some .statusQuery
  | 0x02 => some .tableRead
  | 0x03 => some .cellReset
  | 0x10 => some .recipeBegin
  | 0x11 => some .boardDefine
  | 0x12 => some .tabDefine
  | 0x13 => some .recipeClose
  | 0x14 => some .profileDefine
  | 0x20 => some .panelStart
  | 0x21 => some .holdAtBoundary
  | 0x22 => some .resume
  | 0x23 => some .panelStop
  | 0x24 => some .park
  | 0x25 => some .wake
  | 0x30 => some .bitSet
  | 0x31 => some .spindleSpeed
  | 0x32 => some .feedOverride
  | 0x33 => some .probeSettings
  | 0x34 => some .spindleTiming
  | 0x35 => some .pickerTiming
  | 0x40 => some .bayLoad
  | 0x41 => some .bayRetire
  | 0x50 => some .lineConfigure
  | 0x51 => some .auxConfigure
  | 0x60 => some .faultLevelSet
  | 0x61 => some .faultAcknowledge
  | 0x62 => some .unitClear
  | 0x70 => some .noticeEnable
  | 0x71 => some .noticeClear
  | _ => none

theorem requestOf_commandOf {kind : Byte} {c : Byte → List Byte → Instr} (h : commandOf kind.toNat = some c)
    (tag : Byte) (body : List Byte) : requestOf (c tag body) = some (kind, tag, body) := by
  have code : kind = BitVec.ofNat 8 kind.toNat := by simp
  unfold commandOf at h
  split at h
  case h_30 => cases h
  all_goals
    next e =>
    rw [e] at code
    obtain rfl := Option.some.inj h
    subst code
    rfl

/-- Where the frame is none of a request, no block answers its kind. -/
theorem blockOf_eq_none {kind tag : Byte} {body : List Byte} (h : ∀ i, requestOf i ≠ some (kind, tag, body)) :
    blockOf kind.toNat = none := by
  have hc : commandOf kind.toNat = none := by
    cases e : commandOf kind.toNat with
    | none => rfl
    | some c => exact absurd (requestOf_commandOf e tag body) (h _)
  unfold commandOf at hc
  split at hc
  case h_30 =>
    unfold blockOf
    split
    case h_30 => rfl
    all_goals contradiction
  all_goals cases hc

/-- A block answers the kind of every request. -/
theorem blockOf_ne_none {i : Instr} {kind tag : Byte} {body : List Byte} (h : requestOf i = some (kind, tag, body)) :
    (blockOf kind.toNat).isNone = false := by
  cases i <;> simp only [requestOf, Option.some.injEq, Prod.mk.injEq, reduceCtorEq] at h
  all_goals obtain ⟨rfl, rfl, rfl⟩ := h; rfl

theorem exec_badLength {i : Instr} {kind tag : Byte} {body : List Byte} {s : State}
    (hi : requestOf i = some (kind, tag, body)) (hl : lengthAccepted kind body.length = false)
    (hslot : s.link.slot = none) (hs : still s = true) :
    exec i s = .next (rest (replied kind tag body [5] s)) := by
  refine exec_request (by rw [exec_requestCompletes hi, requestCompletes_eq]) hslot ?_ hs
  simp only [answerTo, lengthFits, blockOf_ne_none hi, hl]
  rfl

theorem requestCompletes_badKind {kind tag : Byte} {body : List Byte} {s : State} (h : blockOf kind.toNat = none)
    (hslot : s.link.slot = none) : requestCompletes kind tag body s = replied kind tag body [4] s := by
  rw [requestCompletes_eq, takeRequest_empty hslot]
  simp only [answerTo, lengthFits, answering, h]
  rfl

end Sys2Proof.Machine

namespace Sys2Proof.Machine

/-! ### Reception (R2 to R6, R8, R9) -/

@[simp] theorem setRx_link_rx (r : Receiver) (s : State) : (setRx r s).link.rx = r := rfl

@[simp] theorem setRx_setRx (r q : Receiver) (s : State) : setRx r (setRx q s) = setRx r s := rfl

theorem setRx_self {r : Receiver} {s : State} (h : s.link.rx = r) : setRx r s = s := by
  subst h; rfl

/-- The bytes of a frame with any check. -/
def frameWith (kind tag : Byte) (body check : List Byte) : List Byte :=
  startCode :: (frameCovered kind tag body ++ check)

/-- Bytes 1 and 2 of a frame give its body's length (R2, R4). -/
theorem frameLength_cons {n : Nat} (hn : n ≤ 512) (c : Byte) (l : List Byte) :
    frameLength (c :: b8 n :: b8 (n / 256) :: l) = n := by
  simp [frameLength, u16, u8, b8]
  omega

theorem frameLength_append {p : List Byte} (h : 3 ≤ p.length) (q : List Byte) :
    frameLength (p ++ q) = frameLength p := by
  rw [frameLength, u16, u8_append_left q (by omega), u8_append_left q (by omega), frameLength, u16]

@[simp] theorem frameComplete_setRx (bytes : List Byte) (r : Receiver) (s : State) :
    frameComplete bytes (setRx r s) = frameComplete bytes s := rfl

theorem rxByte_assemble {bytes : List Byte} {s : State} (h : s.link.rx = .assemble bytes) (b : Byte) :
    rxByte b true s = assembleByte (bytes ++ [b]) s := by
  simp [rxByte, h]

/-- A byte before the last of a frame of an accepted length is kept (R4). -/
theorem assembleByte_more {bytes : List Byte} (s : State)
    (h : bytes.length < 3 ∨ frameLength bytes ≤ 512 ∧ bytes.length < frameSize (frameLength bytes)) :
    assembleByte bytes s = setRx (.assemble bytes) s := by
  unfold assembleByte
  rw [if_neg, if_neg] <;> simp only [Bool.and_eq_true, decide_eq_true_eq] <;> omega

/-- The last byte of a frame completes it (R6). -/
theorem assembleByte_last {bytes : List Byte} (s : State) (h : 3 < bytes.length)
    (hlast : bytes.length = frameSize (frameLength bytes)) :
    assembleByte bytes s = finish (frameComplete bytes s) := by
  unfold assembleByte
  rw [if_neg, if_pos] <;> simp only [Bool.and_eq_true, decide_eq_true_eq] <;> omega

/-- The bytes of a frame after the first go through ASSEMBLE to its completion (R4, R6). -/
theorem foldl_rxByte_assemble {n : Nat} (hn : n ≤ 512) {l p : List Byte} (s : State)
    (hl : l ≠ []) (hlen : (p ++ l).length = frameSize n) (hfl : frameLength (p ++ l) = n) :
    l.foldl (fun s b => rxByte b true s) (setRx (.assemble p) s) = finish (frameComplete (p ++ l) s) := by
  induction l generalizing p with
  | nil => exact absurd rfl hl
  | cons b t ih =>
    have join : p ++ b :: t = (p ++ [b]) ++ t := by simp
    rw [join] at hlen hfl ⊢
    rw [List.foldl_cons, rxByte_assemble (setRx_link_rx _ _)]
    have fl (h3 : 3 ≤ (p ++ [b]).length) : frameLength (p ++ [b]) = n := by rw [← hfl, frameLength_append h3]
    unfold frameSize at hlen
    cases t with
    | nil =>
      rw [List.append_nil] at hlen ⊢
      rw [assembleByte_last _ (by omega) (by rw [fl (by omega), hlen, frameSize]), frameComplete_setRx,
        List.foldl_nil]
    | cons c t =>
      rw [assembleByte_more, setRx_setRx]
      · exact ih (List.cons_ne_nil _ _) hlen hfl
      · rw [List.length_append, List.length_cons] at hlen
        by_cases h3 : (p ++ [b]).length < 3
        · exact .inl h3
        · refine .inr ⟨?_, ?_⟩ <;> rw [fl (by omega)]
          · exact hn
          · unfold frameSize; omega

/-- The bytes of a whole frame, from HUNT, complete it (R4, R6). -/
theorem exec_frameWith {kind tag : Byte} {body check : List Byte} {s : State} (hb : body.length ≤ 512)
    (hc : check.length = 2) (hrx : s.link.rx = .hunt) :
    exec (.frameReceived (frameWith kind tag body check)) s =
      .next (finish (frameComplete (frameWith kind tag body check) s)) := by
  have start : rxByte startCode true s = setRx (.assemble [startCode]) s := by simp [rxByte, hrx]
  change Host.Outcome.next (List.foldl (fun s b => rxByte b true s) s (startCode :: _)) = _
  rw [List.foldl_cons, start, foldl_rxByte_assemble hb]
  · rfl
  · simp [frameCovered, le16]
  · simp [frameCovered, le16, frameSize, hc]
  · exact frameLength_cons hb _ _

/-- A complete frame goes to its block where its check agrees (R6). -/
theorem frameComplete_frameWith {kind tag : Byte} {body check : List Byte} {s : State} (hb : body.length ≤ 512)
    (hrx : s.link.rx = .hunt) :
    frameComplete (frameWith kind tag body check) s =
      if check = checkBytes (frameCovered kind tag body) then requestCompletes kind tag body s else linkGarbled 0 s := by
  have hn : frameLength (frameWith kind tag body check) = body.length := frameLength_cons hb _ _
  have hcovered : (frameWith kind tag body check).drop 1 = frameCovered kind tag body ++ check := rfl
  have hlen : (frameCovered kind tag body).length = 4 + body.length := by simp [frameCovered, le16]; omega
  have hbody : (frameWith kind tag body check).drop 5 = body ++ check := rfl
  unfold frameComplete
  simp only [hn, setRx_self hrx]
  rw [hcovered, ← hlen, List.take_left, ← List.drop_drop, hbody, List.drop_left, List.take_left]
  rfl

/-- Settles O3. -/
theorem requestFrameIsTheRequest : Obligations.RequestFrameIsTheRequest := by
  intro i kind tag body s hi hb hrx
  refine ⟨_, ?_, exec_requestCompletes hi s⟩
  exact (exec_frameWith (check := checkBytes (frameCovered kind tag body)) hb rfl hrx).trans
    (by rw [frameComplete_frameWith hb hrx, if_pos rfl])

/-- Settles O4. -/
theorem wrongCheckIsGarbled : Obligations.WrongCheckIsGarbled := by
  intro kind tag body check s hb hc hne hrx hs
  refine (exec_frameWith hb hc hrx).trans ?_
  rw [frameComplete_frameWith hb hrx, if_neg hne, linkGarbled, finish_still (still_raiseNotice _ _ hs)]

/-- Settles O5. -/
theorem malformedRequestsAreAnswered : Obligations.MalformedRequestsAreAnswered := by
  refine ⟨fun kind tag body s hno hb hrx hslot hs => ?_, fun i kind tag body s hi hl hslot hs => ?_⟩
  · refine (exec_frameWith (check := checkBytes (frameCovered kind tag body)) hb rfl hrx).trans ?_
    rw [frameComplete_frameWith hb hrx, if_pos rfl, requestCompletes_badKind (blockOf_eq_none hno) hslot,
      finish_still (by simpa using hs)]
  · exact exec_badLength hi hl hslot hs

/-- A frame that reveals damage (R5). -/
theorem garbled_resync {s : State} (cause : Byte) (hs : still s = true) :
    finish (linkGarbled cause (setRx .resync s)) =
      rest (raiseNotice Notice.linkGarbled [cause] (s.withLink { s.link with rx := .resync })) :=
  finish_still (still_raiseNotice _ _ ((still_withLink s _).trans hs))

/-- Settles O8, by the receiver's state. -/
theorem receiverFollowsTheBytes : Obligations.ReceiverFollowsTheBytes := by
  refine ⟨fun b ok bytes s => ⟨?huntStart, ?huntOther, ?resync, ?assemble, ?gap, ?quiet⟩,
    fun b bytes s hrx hs => ⟨?framing, ?damageFraming, ?damageLength, ?length⟩⟩
  case huntStart =>
    rintro hrx rfl rfl
    change Host.Outcome.next (rxByte _ _ s) = _
    simp [rxByte, hrx, startCode, setRx]
  case huntOther =>
    intro hrx hno
    change Host.Outcome.next (rxByte _ _ s) = _
    simp only [rxByte, hrx, Bool.and_eq_true, decide_eq_true_eq]
    rw [if_neg (fun h => hno ⟨h.2, h.1⟩)]
  case resync =>
    intro hrx
    change Host.Outcome.next (rxByte _ _ s) = _
    simp [rxByte, hrx]
  case assemble =>
    rintro hrx rfl h
    change Host.Outcome.next (rxByte _ _ s) = _
    rw [rxByte_assemble hrx, assembleByte_more]
    · rfl
    · simpa [frameSize, Nat.lt_succ_iff] using h.imp_left (by omega)
  case gap => intro hrx; change Host.Outcome.next _ = _; simp [hrx, setRx]
  case quiet => intro hrx; change Host.Outcome.next _ = _; simp [hrx, setRx]
  case framing =>
    change Host.Outcome.next (rxByte _ _ s) = _
    simp [rxByte, hrx, ← garbled_resync _ hs]
  case damageFraming =>
    change Host.Outcome.next (frameDamage _ s) = _
    simp [frameDamage, hrx, ← garbled_resync _ hs, Damage.cause]
  case damageLength =>
    change Host.Outcome.next (frameDamage _ s) = _
    simp [frameDamage, hrx, ← garbled_resync _ hs, Damage.cause]
  case length =>
    intro h2 hlong
    change Host.Outcome.next (rxByte _ _ s) = _
    rw [rxByte_assemble hrx, assembleByte, if_pos (by simp [h2, hlong]), garbled_resync _ hs]

end Sys2Proof.Machine

namespace Sys2Proof.Machine

/-! #### The settings (R13, R39, R97, R98, R107, R108, R114, R132, R175) -/

/-- Every part but the settings. -/
def offSettings : Parts :=
  { everyPart with
    recipe := false, override := false, setpoint := false, timing := false, settings := false, gripTimes := false
    levels := false }

theorem settingsInRange_masked {s t : State} (e : mask offSettings t = mask offSettings s) (h : settingsInRange s) :
    settingsInRange t := by
  have hr : t.recipe = s.recipe := mask_recipe e rfl
  have hl : t.faults.levels = s.faults.levels := mask_faults_levels e rfl
  simpa [settingsInRange, hr, hl, mask_spindle_setpoint e rfl, mask_router_override e rfl, mask_spindle_setTime e rfl,
    mask_spindle_parkTime e rfl, mask_probe_settings e rfl, mask_picker_gripTime e rfl,
    mask_picker_blowTime e rfl] using h

theorem clampNat_range {lo hi v : Nat} (h : lo ≤ hi) : lo ≤ clampNat lo hi v ∧ clampNat lo hi v ≤ hi := by
  unfold clampNat; split
  · omega
  · split <;> omega

theorem settingsInRange_finish {s : State} (h : settingsInRange s) : settingsInRange (finish s) :=
  settingsInRange_masked (by simp [offSettings, everyPart]) h

theorem settingsInRange_resetUnits {s : State} (h : settingsInRange s) : settingsInRange (resetUnits s) := by
  simpa [settingsInRange, resetUnits, Router.cellReset, Spindle.cellReset, Probe.cellReset] using h

/-- CELL RESET keeps the settings (R64). -/
theorem settingsInRange_resetAll {s : State} (h : settingsInRange s) : settingsInRange (resetAll s) := by
  have hv : settingsInRange (resetWear (resetNotices s)) :=
    settingsInRange_masked (by simp [offSettings, everyPart]) h
  refine settingsInRange_masked ?_ (settingsInRange_resetUnits hv)
  unfold resetAll
  dsimp only
  generalize resetUnits (resetWear (resetNotices s)) = u
  simp [offSettings, everyPart, mask_foldl]

theorem settingsInRange_recipe {s t : State} (e : mask { offSettings with recipe := true } t =
    mask { offSettings with recipe := true } s) (hd : t.recipe.depth ≤ 3) (h : settingsInRange s) :
    settingsInRange t := by
  have hl : t.faults.levels = s.faults.levels := mask_faults_levels e rfl
  obtain ⟨h1, h2, h3, h4, h5, h6, h7, h8, h9, -, h11, h12⟩ := h
  simpa [settingsInRange, hl, mask_spindle_setpoint e rfl, mask_router_override e rfl, mask_spindle_setTime e rfl,
    mask_spindle_parkTime e rfl, mask_probe_settings e rfl, mask_picker_gripTime e rfl,
    mask_picker_blowTime e rfl] using ⟨h1, h2, h3, h4, h5, h6, h7, h8, h9, hd, h11, h12⟩

/-- A command on the recipe that keeps K or sets it within its range (R28, R39). -/
theorem recipeBegin_depth (body : List Byte) (s : State) : (recipeBegin body s).1.recipe.depth = s.recipe.depth := by
  have e (u : State) : (unconfigure (discardRuntime u)).recipe = u.recipe :=
    mask_recipe (B := { everyPart with recipe := false }) (by simp [everyPart]) rfl
  unfold recipeBegin
  split
  · rfl
  · simp [e]

theorem boardDefine_depth (body : List Byte) (s : State) : (boardDefine body s).1.recipe.depth = s.recipe.depth := by
  unfold boardDefine; dsimp only
  repeat' split
  all_goals simp

theorem tabDefine_depth (body : List Byte) (s : State) : (tabDefine body s).1.recipe.depth = s.recipe.depth := by
  unfold tabDefine; dsimp only
  repeat' split
  all_goals simp

theorem profileDefine_depth (body : List Byte) (s : State) :
    (profileDefine body s).1.recipe.depth = s.recipe.depth := by
  unfold profileDefine; dsimp only
  repeat' split
  all_goals simp

theorem recipeClose_depth {body : List Byte} {s : State} (h : s.recipe.depth ≤ 3) :
    (recipeClose body s).1.recipe.depth ≤ 3 := by
  have e (u : State) : (configure u).recipe = u.recipe :=
    mask_recipe (B := { everyPart with recipe := false }) (by simp [everyPart]) rfl
  unfold recipeClose; dsimp only
  split
  · exact h
  · split
    · simpa using h
    · next hk =>
      split
      · exact h
      · simpa [e] using hk

theorem settingsInRange_spindleSpeed {body : List Byte} {s : State} (h : settingsInRange s) :
    settingsInRange (spindleSpeed body s).1 := by
  obtain ⟨-, hrest⟩ := h
  have hs : settingsInRange (s.withSpindle { s.spindle with setpoint := clampNat 20000 60000 (u16 body 0) }) :=
    ⟨clampNat_range (by decide), hrest⟩
  unfold spindleSpeed
  simp only [done_state]
  repeat' split
  all_goals exact settingsInRange_masked (by simp [offSettings, everyPart]) hs

theorem settingsInRange_faultLevelSet {body : List Byte} {s : State} (h : settingsInRange s) :
    settingsInRange (faultLevelSet body s).1 := by
  obtain ⟨h1, h2, h3, h4, h5, h6, h7, h8, h9, h10, hstop, hdoor⟩ := h
  have hsame : settingsInRange s := ⟨h1, h2, h3, h4, h5, h6, h7, h8, h9, h10, hstop, hdoor⟩
  unfold faultLevelSet
  split
  · simpa using hsame
  · next src hsrc =>
    split
    · simpa using hsame
    · next hv =>
      split
      · simpa using hsame
      · have hs : src ≠ Source.stopChain ∧ src ≠ Source.doorOpen := by
          constructor <;> rintro rfl <;> exact hv (by decide)
        refine ⟨h1, h2, h3, h4, h5, h6, h7, h8, h9, h10, ?_, ?_⟩
        · simpa [getAt_setAt, hs.1] using hstop
        · simpa [getAt_setAt, hs.2] using hdoor

theorem blockOf_settings {n : Nat} {h : Handler} (e : blockOf n = some h) (body : List Byte) {s : State}
    (hs : settingsInRange s) : settingsInRange (h body s).1 := by
  obtain ⟨h1, h2, h3, h4, h5, h6, h7, h8, h9, h10, h11⟩ := hs
  have hs : settingsInRange s := ⟨h1, h2, h3, h4, h5, h6, h7, h8, h9, h10, h11⟩
  unfold blockOf at e
  split at e
  case h_30 => cases e
  all_goals obtain rfl := Option.some.inj e
  case h_1 => exact settingsInRange_masked (statusQuery_mask body s) hs
  case h_2 => exact settingsInRange_masked (tableRead_mask body s rfl) hs
  case h_3 => unfold cellResetRequest; rw [done_state]; exact settingsInRange_resetAll hs
  case h_4 =>
    exact settingsInRange_recipe (recipeBegin_mask body s rfl rfl rfl rfl rfl rfl rfl)
      (by rwa [recipeBegin_depth]) hs
  case h_5 => exact settingsInRange_recipe (boardDefine_mask body s rfl) (by rwa [boardDefine_depth]) hs
  case h_6 => exact settingsInRange_recipe (tabDefine_mask body s rfl) (by rwa [tabDefine_depth]) hs
  case h_7 => exact settingsInRange_recipe (recipeClose_mask body s rfl rfl rfl rfl) (recipeClose_depth h10) hs
  case h_8 => exact settingsInRange_recipe (profileDefine_mask body s rfl) (by rwa [profileDefine_depth]) hs
  case h_16 => exact settingsInRange_spindleSpeed hs
  case h_17 =>
    unfold feedOverride
    exact ⟨h1, clampNat_range (by decide), h3, h4, h5, h6, h7, h8, h9, h10, h11⟩
  case h_18 =>
    unfold probeSettings
    split
    · simpa using hs
    · exact ⟨h1, h2, h3, h4, clampNat_range (by decide), min_le_left _ _, clampNat_range (by decide), h8, h9, h10, h11⟩
  case h_19 =>
    unfold spindleTiming
    exact ⟨h1, h2, clampNat_range (by decide), min_le_left _ _, h5, h6, h7, h8, h9, h10, h11⟩
  case h_20 =>
    unfold pickerTiming
    exact ⟨h1, h2, h3, h4, h5, h6, h7, clampNat_range (by decide), clampNat_range (by decide), h10, h11⟩
  case h_25 => exact settingsInRange_faultLevelSet hs
  all_goals refine settingsInRange_masked ?_ hs
  case h_9 => apply panelStart_mask <;> rfl
  case h_10 => apply holdAtBoundary_mask <;> rfl
  case h_11 => apply resumeCell_mask <;> rfl
  case h_12 => apply panelStop_mask <;> rfl
  case h_13 => apply parkRequest_mask <;> rfl
  case h_14 => apply wakeRequest_mask <;> rfl
  case h_15 => apply bitSet_mask <;> rfl
  case h_21 => apply bayLoad_mask <;> rfl
  case h_22 => apply bayRetire_mask <;> rfl
  case h_23 => apply lineConfigure_mask <;> rfl
  case h_24 => apply auxConfigure_mask <;> rfl
  case h_26 => apply faultAcknowledge_mask <;> rfl
  case h_27 => apply unitClear_mask <;> rfl
  case h_28 => exact noticeEnable_mask body s rfl
  case h_29 => apply noticeClear_mask <;> rfl

theorem settingsInRange_requestCompletes (kind tag : Byte) (body : List Byte) {s : State} (hs : settingsInRange s) :
    settingsInRange (requestCompletes kind tag body s) := by
  have hblock : settingsInRange (answering kind body s).1 := by
    unfold answering
    cases e : blockOf kind.toNat with
    | none => exact hs
    | some h => exact blockOf_settings e body hs
  rw [requestCompletes_eq]
  unfold takeRequest answerTo
  split
  · split
    · exact hblock
    · exact hs
  · split
    · exact hs
    · exact settingsInRange_masked (raiseNotice_mask _ _ _ rfl) hs

theorem settingsInRange_rxByte (b : Byte) (ok : Bool) {s : State} (hs : settingsInRange s) :
    settingsInRange (rxByte b ok s) := by
  have garbled (cause : Byte) (r : Receiver) : settingsInRange (linkGarbled cause (setRx r s)) :=
    settingsInRange_masked (s := s) (by simp [offSettings, everyPart]) hs
  have completed (bytes : List Byte) : settingsInRange (frameComplete bytes s) := by
    unfold frameComplete
    dsimp only
    split
    · exact settingsInRange_requestCompletes _ _ _ (s := setRx .hunt s) hs
    · exact garbled 0 .hunt
  unfold rxByte assembleByte
  repeat' split
  · exact hs
  · exact hs
  · exact hs
  · exact settingsInRange_finish (garbled _ _)
  · exact settingsInRange_finish (completed _)
  · exact hs
  · exact settingsInRange_finish (garbled _ _)

theorem settingsInRange_reset : settingsInRange State.reset := by unfold settingsInRange; decide

theorem exec_settings {i : Instr} {s t : State} (h : exec i s = .next t) (hs : settingsInRange s) :
    settingsInRange t := by
  have done {u : State} (e : exec i s = .next u) (hu : settingsInRange u) : settingsInRange t := by
    rw [e] at h
    exact Host.Outcome.next.inj h ▸ hu
  have event {u : State} (e : exec i s = .next (finish u)) (hu : mask offSettings u = mask offSettings s) :
      settingsInRange t := done e (settingsInRange_finish (settingsInRange_masked hu hs))
  cases hr : requestOf i with
  | some r => exact done (exec_requestCompletes hr s) (settingsInRange_finish (settingsInRange_requestCompletes _ _ _ hs))
  | none =>
    cases i
    all_goals simp only [requestOf, reduceCtorEq] at hr
    case powerOn => exact done rfl settingsInRange_reset
    case frameReceived bytes => exact done rfl (foldl_keeps (fun _ b hs => settingsInRange_rxByte b true hs) hs)
    case byteReceived b ok => exact done rfl (settingsInRange_rxByte b ok hs)
    case frameDamaged d =>
      refine done rfl ?_
      unfold frameDamage
      split
      · exact settingsInRange_finish (settingsInRange_masked (s := s) (by simp [offSettings, everyPart]) hs)
      all_goals exact hs
    case byteGapTimeout => refine done rfl ?_; split <;> exact hs
    case resyncQuietTimeout => refine done rfl ?_; split <;> exact hs
    all_goals
      refine event rfl ?_
      repeat' split
      all_goals simp [offSettings, everyPart, acceptEdge, Spindle.blank]

/-- Settles O55: a request by its block, an event by the parts it changes. -/
theorem settingsStayInRange : Obligations.SettingsStayInRange := by
  intro s t hs h
  unfold step at h
  split at h
  · exact Host.Outcome.next.inj h ▸ hs
  · next i rest _ =>
    replace hs : settingsInRange (s.withPending rest) := hs
    generalize s.withPending rest = v at h hs
    exact exec_settings h hs

end Sys2Proof.Machine

namespace Sys2Proof.Machine

/-! ### Steps, worked figures, filters and power-on -/

/-- Settles O1. -/
theorem stepRunsTheFrontCommand : Obligations.StepRunsTheFrontCommand := by
  intro c rest s h
  simp [step, h]

/-- The effective feed stays within its limits at every attempt (R99). -/
theorem effectiveFeed_range (life wear feed percent attempt : Nat) :
    20 ≤ effectiveFeed life wear feed percent attempt ∧ effectiveFeed life wear feed percent attempt ≤ 600 := by
  unfold effectiveFeed
  dsimp only
  obtain ⟨hlo, hhi⟩ := clampNat_range (lo := 20) (hi := 600)
    (v := feed * (1024 - derate life wear) * percent / 102400) (by decide)
  split
  · omega
  · exact ⟨hlo, hhi⟩

/-- Settles O35. -/
theorem workedExamples : Obligations.WorkedExamples := by
  refine ⟨by decide +kernel, ⟨by decide, by decide, by decide, by decide, fun d hlen hmat => ?_⟩, effectiveFeed_range⟩
  rw [cutWear, hlen, hmat]
  decide

theorem Filter.sample_eq {l : Bool} {f : Filter} (h : f.level = some l) (v : Bool) :
    Filter.sample v f =
      if v = l then { f with count := 0, seen := v }
      else if 2 ≤ f.count then { level := some v, count := 0, seen := v }
      else { f with count := f.count + 1, seen := v } := by
  simp [Filter.sample, h]

/-- Settles O50. -/
theorem filterNeedsThreeSamples : Obligations.FilterNeedsThreeSamples := by
  intro l v f hl hc hne
  have one : Filter.sample v f = { level := some l, count := 1, seen := v } := by
    rw [Filter.sample_eq hl, if_neg hne, if_neg (by omega), hc, hl]
  have two : Filter.sample v (Filter.sample v f) = { level := some l, count := 2, seen := v } := by
    rw [one, Filter.sample_eq rfl, if_neg hne, if_neg (by simp)]
  have three : Filter.sample v (Filter.sample v (Filter.sample v f)) = { level := some v, count := 0, seen := v } := by
    rw [two, Filter.sample_eq rfl, if_neg hne, if_pos le_rfl]
  have back : Filter.sample l (Filter.sample v (Filter.sample v f)) = { level := some l, count := 0, seen := l } := by
    rw [two, Filter.sample_eq rfl, if_pos rfl]
  refine ⟨by rw [one], by rw [two], by rw [three], ?_⟩
  rw [back, Filter.sample_eq rfl, if_neg hne, if_neg (by simp)]

/-- Settles O60: the values block by block, and the invariants of the reset state. -/
theorem powerOnResets : Obligations.PowerOnResets := by
  refine ⟨fun s => rfl, ⟨⟨rfl, rfl, rfl, rfl, by decide⟩, ?recipe, ?cell, ?router, ?spindle, ?probe, ?picker,
    ?stacker, ⟨by decide, by decide, rfl⟩, ?outputs, by decide, rfl, rfl, rfl, rfl⟩, settingsInRange_reset,
    faultRecordsOrdered_reset, nestQueueOrdered_moves.fresh, runsAndBaysSingle_moves.fresh,
    spindleInterlocked_moves.fresh⟩
  case recipe => exact ⟨rfl, rfl, rfl, rfl, rfl, rfl⟩
  case cell => exact ⟨rfl, rfl, rfl, rfl, rfl⟩
  case router => exact ⟨rfl, rfl, rfl, rfl, rfl, rfl, rfl, rfl, rfl⟩
  case spindle => exact ⟨rfl, rfl, rfl, rfl, rfl, rfl, rfl, rfl, rfl⟩
  case probe => exact ⟨rfl, rfl, rfl, rfl, rfl⟩
  case picker => exact ⟨rfl, rfl, rfl, rfl, rfl, rfl, rfl, rfl, rfl, rfl, rfl, rfl, rfl, rfl⟩
  case stacker =>
    exact ⟨rfl, rfl, rfl, rfl, rfl, rfl, rfl, rfl, rfl, rfl, rfl, rfl, rfl, rfl, rfl, rfl, fun x => by cases x <;> rfl⟩
  case outputs => exact ⟨rfl, rfl, rfl, rfl, rfl⟩

/-! ### The outbound line (R11, R15, R16) -/

theorem linkKick_free {s : State} (h : s.link.tx = none) :
    linkKick s = s.withLink { s.link with tx := nextFrame s } := by
  simp [linkKick, h]

theorem linkKick_busy {s : State} (h : s.link.tx ≠ none) : linkKick s = s := by
  simp [linkKick, h]

theorem nextFrame_owed {s : State} {t : Tx} (h : owedFrame s.link = some t) : nextFrame s = some t := by
  simp [nextFrame, h]

/-- The owed reply of the slot goes first once no OVERRUN answer stands before it (R15). -/
theorem owedFrame_slot {k : Link} {x : Slot} (hx : k.slot = some x) (h : x.ahead = 0 ∨ k.overrun = []) :
    owedFrame k = some (Slot.frame x) := by
  unfold owedFrame
  cases ho : k.overrun with
  | nil => simp [hx]
  | cons a more =>
    have h0 : x.ahead = 0 := h.resolve_right (by simp [ho])
    simp [hx, h0]

theorem owedFrame_overrun {k : Link} {a : Answer} {more : List Answer} (ho : k.overrun = a :: more)
    (h : ∀ x, k.slot = some x → x.ahead ≠ 0) : owedFrame k = some (Answer.frame a) := by
  unfold owedFrame
  cases hx : k.slot with
  | none => simp [ho]
  | some x => simp [ho, h x hx]

theorem high_iff (m : Notice) : Notice.high m = true ↔ m.val = 0 ∨ m.val = 1 ∨ m.val = 4 ∨ m.val = 5 := by
  simp [Notice.high, or_assoc]

/-- A notice goes out before another: HIGH before LOW, then the lower number (R15). -/
def goesBefore (n m : Notice) : Prop :=
  (Notice.high n = true ∧ Notice.high m = false) ∨ (Notice.high n = Notice.high m ∧ n.val < m.val)

theorem mem_noticesByUrgency : ∀ n : Notice, n ∈ noticesByUrgency := by decide

theorem noticesByUrgency_ordered : noticesByUrgency.Pairwise goesBefore := by
  unfold goesBefore; decide

theorem goesBefore_asymm {n m : Notice} (h : goesBefore n m) : ¬ goesBefore m n := by
  rintro (⟨h1, h2⟩ | ⟨h1, h2⟩) <;> rcases h with ⟨h3, h4⟩ | ⟨h3, h4⟩
  · simp [h1] at h4
  · simp [h1, h2] at h3
  · simp [h3, h4] at h1
  · omega

/-- A notice that goes before every other wanted one is the first wanted in the order of urgency (R15). -/
theorem noticesByUrgency_find {p : Notice → Bool} {n : Notice} (hn : p n = true)
    (h : ∀ m, p m = true → m ≠ n → goesBefore n m) : noticesByUrgency.find? p = some n := by
  obtain ⟨before, after, e⟩ := List.append_of_mem (mem_noticesByUrgency n)
  refine List.find?_eq_some_iff_append.2 ⟨hn, before, after, e, fun m hm => ?_⟩
  have ordered := noticesByUrgency_ordered
  rw [e] at ordered
  have first : goesBefore m n := (List.pairwise_append.1 ordered).2.2 m hm n (List.mem_cons_self ..)
  by_contra hp
  have hp : p m = true := by simpa using hp
  by_cases same : m = n
  · subst same; exact goesBefore_asymm first first
  · exact goesBefore_asymm first (h m hp same)

/-- Settles O10. -/
theorem mostUrgentNoticeIsSent : Obligations.MostUrgentNoticeIsSent := by
  refine ⟨fun n s htx hslot hover => ?next, fun s => ⟨linkKick_busy, fun htx => ⟨fun x hx hfirst => ?reply,
    fun a more ho hx => ?overrun⟩⟩, fun n payload s => ⟨fun hr => ?again, fun hr => ?first⟩⟩
  case next =>
    intro sendable urgent hn hmost
    have spell (m : Notice) : NoticeRec.sendable (getAt s.notices m) = true ↔ sendable m := by
      simp [NoticeRec.sendable, sendable, and_assoc]
    have found : nextNotice s = some n := by
      refine noticesByUrgency_find ((spell n).2 hn) fun m hm hne => ?_
      rcases hmost m ((spell m).1 hm) hne with ⟨hu, hl⟩ | ⟨hu, hl⟩
      · exact .inl ⟨(high_iff n).2 hu, Bool.eq_false_iff.2 fun hc => hl ((high_iff m).1 hc)⟩
      · exact .inr ⟨Bool.eq_iff_iff.2 ((high_iff n).trans (hu.trans (high_iff m).symm)), hl⟩
    have none_owed : owedFrame s.link = none := by simp [owedFrame, hslot, hover]
    simp [linkKick_free htx, nextFrame, none_owed, found, noticeFrame, b8]
  case reply =>
    rw [linkKick_free htx, nextFrame_owed (owedFrame_slot hx hfirst)]
    rfl
  case overrun =>
    rw [linkKick_free htx, nextFrame_owed (owedFrame_overrun ho hx)]
    rfl
  case again => simp only [raiseNotice, hr, if_true]
  case first => simp [raiseNotice, hr]

end Sys2Proof.Machine

/-! ### Block updates

A block replaced twice holds the later value, and a block replaced by itself stays; so does every other block through a
raise of a notice. -/

namespace Sys2Proof.Machine

section
variable (s : State)

@[simp] theorem State.withLink_withLink (x y : Link) : (s.withLink x).withLink y = s.withLink y := rfl
@[simp] theorem State.withNotices_withNotices (x y : Vector NoticeRec 16) : (s.withNotices x).withNotices y = s.withNotices y := rfl
@[simp] theorem State.withRecipe_withRecipe (x y : Recipe) : (s.withRecipe x).withRecipe y = s.withRecipe y := rfl
@[simp] theorem State.withCell_withCell (x y : Cell) : (s.withCell x).withCell y = s.withCell y := rfl
@[simp] theorem State.withSeq_withSeq (x y : Sequencer) : (s.withSeq x).withSeq y = s.withSeq y := rfl
@[simp] theorem State.withRouter_withRouter (x y : Router) : (s.withRouter x).withRouter y = s.withRouter y := rfl
@[simp] theorem State.withSpindle_withSpindle (x y : Spindle) : (s.withSpindle x).withSpindle y = s.withSpindle y := rfl
@[simp] theorem State.withProbe_withProbe (x y : Probe) : (s.withProbe x).withProbe y = s.withProbe y := rfl
@[simp] theorem State.withPicker_withPicker (x y : Picker) : (s.withPicker x).withPicker y = s.withPicker y := rfl
@[simp] theorem State.withNests_withNests (x y : List NestEntry) : (s.withNests x).withNests y = s.withNests y := rfl
@[simp] theorem State.withStacker_withStacker (x y : Stacker) : (s.withStacker x).withStacker y = s.withStacker y := rfl
@[simp] theorem State.withBays_withBays (x y : Bays) : (s.withBays x).withBays y = s.withBays y := rfl
@[simp] theorem State.withLines_withLines (x y : Lines) : (s.withLines x).withLines y = s.withLines y := rfl
@[simp] theorem State.withOutputs_withOutputs (x y : Outputs) : (s.withOutputs x).withOutputs y = s.withOutputs y := rfl
@[simp] theorem State.withPorts_withPorts (x y : Ports) : (s.withPorts x).withPorts y = s.withPorts y := rfl
@[simp] theorem State.withFaults_withFaults (x y : Faults) : (s.withFaults x).withFaults y = s.withFaults y := rfl
@[simp] theorem State.withFree_withFree (x y : Nat) : (s.withFree x).withFree y = s.withFree y := rfl

@[simp] theorem State.withLink_self : s.withLink s.link = s := rfl
@[simp] theorem State.withNotices_self : s.withNotices s.notices = s := rfl
@[simp] theorem State.withRecipe_self : s.withRecipe s.recipe = s := rfl
@[simp] theorem State.withCell_self : s.withCell s.cell = s := rfl
@[simp] theorem State.withSeq_self : s.withSeq s.seq = s := rfl
@[simp] theorem State.withRouter_self : s.withRouter s.router = s := rfl
@[simp] theorem State.withSpindle_self : s.withSpindle s.spindle = s := rfl
@[simp] theorem State.withProbe_self : s.withProbe s.probe = s := rfl
@[simp] theorem State.withPicker_self : s.withPicker s.picker = s := rfl
@[simp] theorem State.withNests_self : s.withNests s.nests = s := rfl
@[simp] theorem State.withStacker_self : s.withStacker s.stacker = s := rfl
@[simp] theorem State.withBays_self : s.withBays s.bays = s := rfl
@[simp] theorem State.withLines_self : s.withLines s.lines = s := rfl
@[simp] theorem State.withOutputs_self : s.withOutputs s.outputs = s := rfl
@[simp] theorem State.withPorts_self : s.withPorts s.ports = s := rfl
@[simp] theorem State.withFaults_self : s.withFaults s.faults = s := rfl
@[simp] theorem State.withFree_self : s.withFree s.free = s := rfl

variable (n : Notice) (p : List Byte)

@[simp] theorem raiseNotice_link : (raiseNotice n p s).link = s.link := by
  unfold raiseNotice; dsimp only; split <;> rfl
@[simp] theorem raiseNotice_recipe : (raiseNotice n p s).recipe = s.recipe := by
  unfold raiseNotice; dsimp only; split <;> rfl
@[simp] theorem raiseNotice_cell : (raiseNotice n p s).cell = s.cell := by
  unfold raiseNotice; dsimp only; split <;> rfl
@[simp] theorem raiseNotice_seq : (raiseNotice n p s).seq = s.seq := by
  unfold raiseNotice; dsimp only; split <;> rfl
@[simp] theorem raiseNotice_probe : (raiseNotice n p s).probe = s.probe := by
  unfold raiseNotice; dsimp only; split <;> rfl
@[simp] theorem raiseNotice_picker : (raiseNotice n p s).picker = s.picker := by
  unfold raiseNotice; dsimp only; split <;> rfl
@[simp] theorem raiseNotice_nests : (raiseNotice n p s).nests = s.nests := by
  unfold raiseNotice; dsimp only; split <;> rfl
@[simp] theorem raiseNotice_stacker : (raiseNotice n p s).stacker = s.stacker := by
  unfold raiseNotice; dsimp only; split <;> rfl
@[simp] theorem raiseNotice_bays : (raiseNotice n p s).bays = s.bays := by
  unfold raiseNotice; dsimp only; split <;> rfl
@[simp] theorem raiseNotice_lines : (raiseNotice n p s).lines = s.lines := by
  unfold raiseNotice; dsimp only; split <;> rfl
@[simp] theorem raiseNotice_ports : (raiseNotice n p s).ports = s.ports := by
  unfold raiseNotice; dsimp only; split <;> rfl
@[simp] theorem raiseNotice_free : (raiseNotice n p s).free = s.free := by
  unfold raiseNotice; dsimp only; split <;> rfl

@[simp] theorem raiseNotice_withLink (x : Link) : raiseNotice n p (s.withLink x) = (raiseNotice n p s).withLink x := by
  simp only [raiseNotice, State.withLink_notices]; split <;> rfl
@[simp] theorem raiseNotice_withRecipe (x : Recipe) : raiseNotice n p (s.withRecipe x) = (raiseNotice n p s).withRecipe x := by
  simp only [raiseNotice, State.withRecipe_notices]; split <;> rfl
@[simp] theorem raiseNotice_withCell (x : Cell) : raiseNotice n p (s.withCell x) = (raiseNotice n p s).withCell x := by
  simp only [raiseNotice, State.withCell_notices]; split <;> rfl
@[simp] theorem raiseNotice_withSeq (x : Sequencer) : raiseNotice n p (s.withSeq x) = (raiseNotice n p s).withSeq x := by
  simp only [raiseNotice, State.withSeq_notices]; split <;> rfl
@[simp] theorem raiseNotice_withRouter (x : Router) : raiseNotice n p (s.withRouter x) = (raiseNotice n p s).withRouter x := by
  simp only [raiseNotice, State.withRouter_notices]; split <;> rfl
@[simp] theorem raiseNotice_withSpindle (x : Spindle) : raiseNotice n p (s.withSpindle x) = (raiseNotice n p s).withSpindle x := by
  simp only [raiseNotice, State.withSpindle_notices]; split <;> rfl
@[simp] theorem raiseNotice_withProbe (x : Probe) : raiseNotice n p (s.withProbe x) = (raiseNotice n p s).withProbe x := by
  simp only [raiseNotice, State.withProbe_notices]; split <;> rfl
@[simp] theorem raiseNotice_withPicker (x : Picker) : raiseNotice n p (s.withPicker x) = (raiseNotice n p s).withPicker x := by
  simp only [raiseNotice, State.withPicker_notices]; split <;> rfl
@[simp] theorem raiseNotice_withNests (x : List NestEntry) : raiseNotice n p (s.withNests x) = (raiseNotice n p s).withNests x := by
  simp only [raiseNotice, State.withNests_notices]; split <;> rfl
@[simp] theorem raiseNotice_withStacker (x : Stacker) : raiseNotice n p (s.withStacker x) = (raiseNotice n p s).withStacker x := by
  simp only [raiseNotice, State.withStacker_notices]; split <;> rfl
@[simp] theorem raiseNotice_withBays (x : Bays) : raiseNotice n p (s.withBays x) = (raiseNotice n p s).withBays x := by
  simp only [raiseNotice, State.withBays_notices]; split <;> rfl
@[simp] theorem raiseNotice_withLines (x : Lines) : raiseNotice n p (s.withLines x) = (raiseNotice n p s).withLines x := by
  simp only [raiseNotice, State.withLines_notices]; split <;> rfl
@[simp] theorem raiseNotice_withOutputs (x : Outputs) : raiseNotice n p (s.withOutputs x) = (raiseNotice n p s).withOutputs x := by
  simp only [raiseNotice, State.withOutputs_notices]; split <;> rfl
@[simp] theorem raiseNotice_withPorts (x : Ports) : raiseNotice n p (s.withPorts x) = (raiseNotice n p s).withPorts x := by
  simp only [raiseNotice, State.withPorts_notices]; split <;> rfl
@[simp] theorem raiseNotice_withFaults (x : Faults) : raiseNotice n p (s.withFaults x) = (raiseNotice n p s).withFaults x := by
  simp only [raiseNotice, State.withFaults_notices]; split <;> rfl
@[simp] theorem raiseNotice_withFree (x : Nat) : raiseNotice n p (s.withFree x) = (raiseNotice n p s).withFree x := by
  simp only [raiseNotice, State.withFree_notices]; split <;> rfl

end

/-- A raise of a notice that is raised does nothing, whatever its payload (R16). -/
theorem raiseNotice_raised {n : Notice} {s : State} (h : (getAt s.notices n).raised = true) (p : List Byte) :
    raiseNotice n p s = s := by
  simp [raiseNotice, h]

theorem raiseNotice_sets (n : Notice) (p : List Byte) (s : State) :
    (getAt (raiseNotice n p s).notices n).raised = true := by
  unfold raiseNotice
  dsimp only
  split
  · assumption
  · simp

end Sys2Proof.Machine

namespace Sys2Proof.Machine

/-! ### What falls due in the Run Sequencer and in Cell Mode control (R49, R50, R55, R63) -/

/-- A cell that no latch halts stays in its mode. -/
theorem haltCell_unlatched {s : State} (h : latched s.faults = false) : haltCell s = s := by
  simp [haltCell, h]

theorem enterMode_unlatched {m : Mode} {s : State} (h : latched s.faults = false) :
    enterMode m s = if m = .held then raiseNotice Notice.holdReached [] (s.withCell { s.cell with mode := m })
      else s.withCell { s.cell with mode := m } := by
  unfold enterMode
  rw [haltCell_unlatched]
  split <;> simpa using h

/-- Of several raises of one notice the first alone acts (R16). -/
theorem foldl_raiseNotice_raised {α : Type} {n : Notice} (f : α → List Byte) (l : List α) {s : State}
    (h : (getAt s.notices n).raised = true) : l.foldl (fun s a => raiseNotice n (f a) s) s = s := by
  induction l with
  | nil => rfl
  | cons a t ih => rw [List.foldl_cons, raiseNotice_raised h, ih]

theorem done_eq : PanelRec.done = fun r => decide (r.state = .stacking ∧ r.outstanding = 0) := by
  funext r; simp [PanelRec.done]

theorem removeComplete_none {s : State} (h : s.seq.records.filter PanelRec.done = []) : removeComplete s = s := by
  have keep : s.seq.records.filter (fun r => !PanelRec.done r) = s.seq.records :=
    List.filter_eq_self.2 fun r hr => by simpa using List.filter_eq_nil_iff.1 h r hr
  simp only [removeComplete, h, List.foldl_nil, keep]
  rfl

theorem removeComplete_some {s : State} {r : PanelRec} {more : List PanelRec}
    (h : s.seq.records.filter PanelRec.done = r :: more) :
    removeComplete s = (raiseNotice Notice.panelComplete (PanelRec.payload r) s).withSeq
      { s.seq with records := s.seq.records.filter fun r => !PanelRec.done r } := by
  unfold removeComplete
  rw [h, List.foldl_cons, foldl_raiseNotice_raised _ _ (raiseNotice_sets _ _ _)]
  simp

theorem noneBeforeQueued_iff (s : State) :
    noneBeforeQueued s = true ↔ ∀ e ∈ s.seq.boards, BoardState.beforeQueued e.2.state = false := by
  simp [noneBeforeQueued]

/-- A record that leaves CUTTING takes the mode with it (R49). -/
theorem leaveCuttingMode_eq {s : State} (h : s.cell.mode = .halted ∨ latched s.faults = false) :
    leaveCuttingMode s = s.withCell
      (match s.cell.mode with
       | .running | .holding | .held => { s.cell with mode := .idle, holdLatch := false }
       | .halted => { s.cell with ret := some .idle, holdLatch := false }
       | .unconfigured | .idle | .parked | .waking => s.cell) := by
  unfold leaveCuttingMode
  cases hm : s.cell.mode with
  | running | holding | held =>
    have hl : latched s.faults = false := h.resolve_left (by simp [hm])
    simp [enterMode_unlatched (s := s.withCell { s.cell with holdLatch := false }) hl]
  | _ => simp [hm]

theorem pendingWouldStart_eq_false (s : State) :
    pendingWouldStart s = false ↔ ∀ t, pendingTab s = some t → awaitsHold s t = true ∨ cuttingPermitted s = false := by
  unfold pendingWouldStart
  cases pendingTab s with
  | none => simp
  | some t =>
    cases h : awaitsHold s t <;> simp [h]

/-- The boundary of a hold (R55). -/
theorem atBoundary_iff (s : State) :
    atBoundary s = true ↔ s.router.state = .idle ∧ (s.picker.state = .idle ∨ s.picker.state = .returning) ∧
      ∀ t, pendingTab s = some t → awaitsHold s t = true ∨ cuttingPermitted s = false := by
  rw [← pendingWouldStart_eq_false]
  simp [atBoundary, and_assoc]

theorem reachSpeed_eq (s : State) :
    reachSpeed s = wakeComplete (s.withSpindle { s.spindle with
      state := .atSpeed, stabilise := none, deadline := none
      watch := if s.spindle.watch = .delay then .armed else s.spindle.watch }) := rfl

/-- Settles O2, reaction by reaction. -/
theorem nothingDueChangesNothing : Obligations.NothingDueChangesNothing := by
  refine ⟨fun s => finish_still, fun s => ⟨fun h => ?stays, fun r hr hw hm => ?leaves⟩,
    fun s => ⟨fun h => ?kept, fun r more h => ?removed⟩, fun s => ⟨fun hm hb hl => ?held, fun h => ?not⟩,
    fun m s => ⟨fun hm => ?fast, fun hm hr hl => ?home⟩⟩
  case stays =>
    unfold recordTest
    split
    · next r hr =>
      obtain ⟨e, he, hw⟩ := h.resolve_left (by simp [hr])
      have before : noneBeforeQueued s = false := Bool.eq_false_iff.2 fun hn => by
        have := (noneBeforeQueued_iff s).1 hn e he
        rcases hw with hw | hw | hw | hw | hw <;> simp [hw, BoardState.beforeQueued] at this
      simp [before]
    · rfl
  case leaves =>
    have after : noneBeforeQueued s = true := (noneBeforeQueued_iff s).2 fun e he => by
      have hw := hw e he
      cases hs : e.2.state <;> simp_all [BoardState.beforeQueued]
    simp only [recordTest, hr, after, if_true, modRecords, decide_eq_true_eq]
    rw [leaveCuttingMode_eq (by simpa using hm)]
    simp <;> rfl
  case kept => exact removeComplete_none (by rw [done_eq]; exact h)
  case removed =>
    have hd : s.seq.records.filter PanelRec.done = r :: more := by rw [done_eq]; exact h
    rw [removeComplete_some hd]
    simp [done_eq, PanelRec.payload]
  case held =>
    rw [boundary, if_pos (by simp [hm, (atBoundary_iff s).2 hb]), enterMode_unlatched hl, if_pos rfl]
  case not =>
    rw [boundary, if_neg]
    rw [Bool.and_eq_true, decide_eq_true_eq, atBoundary_iff, not_and_or]
    exact h
  case fast =>
    rw [reachSpeed_eq]
    unfold wakeComplete
    split
    · next hw _ => exact absurd hw hm
    · rfl
  case home =>
    rw [reachSpeed_eq]
    unfold wakeComplete
    simp only [State.withSpindle_cell, hm, hr]
    rw [enterMode_unlatched (by simpa using hl)]
    simp

end Sys2Proof.Machine

namespace Sys2Proof.Machine

/-! ### Requests that store settings (R13, R40, R97, R98, R107, R108, R114, R132) -/

/-- A request in an empty slot whose body its block accepts. -/
theorem exec_answered {i : Instr} {kind tag : Byte} {h : Handler} {body reply : List Byte} {s u : State}
    (hi : exec i s = .next (finish (takeRequest kind true h tag body s))) (hs : s.link.slot = none)
    (e : h body s = (u, reply)) (hu : still u = true) : exec i s = .next (rest (replied kind tag body reply u)) :=
  exec_request hi hs e hu

theorem done_eq_pair (st : Status) (r : List Byte) (u : State) : done st r u = (u, Status.code st :: r) := rfl

theorem clampNat_eq {lo hi : Nat} (h : lo ≤ hi) (v : Nat) : clampNat lo hi v = max lo (min hi v) := by
  unfold clampNat
  split
  · omega
  · split <;> omega

theorem code_clampStatus (b : Bool) : Status.code (clampStatus b) = if b = true then 2 else 0 := by
  cases b <;> rfl

@[simp] theorem u8_cons_zero (a : Byte) (l : List Byte) : u8 (a :: l) 0 = a.toNat := rfl
@[simp] theorem u8_cons_succ (a : Byte) (l : List Byte) (i : Nat) : u8 (a :: l) (i + 1) = u8 l i := rfl

theorem ProbeMode.ofCode_code (m : ProbeMode) : ProbeMode.ofCode (ProbeMode.code m) = some m := by cases m <;> rfl

/-- Settles O21. -/
theorem settingsAreClamped : Obligations.SettingsAreClamped := by
  intro tag a b c d s hslot hs
  refine ⟨exec_answered rfl hslot ?feed hs, exec_answered rfl hslot ?spindle hs, exec_answered rfl hslot ?picker hs,
    fun m hm => exec_answered rfl hslot ?probe hs, fun hbig => exec_answered rfl hslot ?probeBad hs⟩
  case feed =>
    simp only [feedOverride, u8_cons_zero, clampNat_eq (show 25 ≤ 150 by decide), code_clampStatus, clampByte,
      decide_eq_true_eq, done_eq_pair]
  case spindle =>
    simp [spindleTiming, u8_cons_zero, u8_cons_succ, clampNat_eq (show 5 ≤ 80 by decide), code_clampStatus, clampByte,
      Bool.or_eq_true, decide_eq_true_eq, done_eq_pair]
  case picker =>
    simp only [pickerTiming, u16, u8_cons_zero, u8_cons_succ, Nat.zero_add, clampNat_eq (show 50 ≤ 1000 by decide),
      clampNat_eq (show 10 ≤ 200 by decide), code_clampStatus, clampByte,
      Bool.or_eq_true, decide_eq_true_eq, done_eq_pair]
    rfl
  case probe =>
    have code : a.toNat = ProbeMode.code m := by subst hm; cases m <;> rfl
    have byte : b8 (ProbeMode.code m) = a := by rw [← code]; simp [b8]
    simp [probeSettings, u8_cons_zero, u8_cons_succ, code, ProbeMode.ofCode_code,
      clampNat_eq (show 1 ≤ 32 by decide), clampNat_eq (show 1 ≤ 20 by decide), code_clampStatus, clampByte,
      Bool.or_eq_true, decide_eq_true_eq,
      done_eq_pair, byte, or_assoc]
  case probeBad =>
    have none : ProbeMode.ofCode a.toNat = none := by
      unfold ProbeMode.ofCode
      split
      case h_4 => rfl
      all_goals omega
    simp only [probeSettings, u8_cons_zero, none]
    rfl

/-- A running spindle whose speed changes spins up again (R107). -/
theorem spindleSpeed_eq (body : List Byte) (s : State) :
    spindleSpeed body s =
      let x := max 20000 (min 60000 (u16 body 0))
      let u := s.withSpindle { s.spindle with setpoint := x }
      (if (s.spindle.state = .spinup ∨ s.spindle.state = .atSpeed) ∧ x ≠ s.spindle.setpoint then enterSpinup 500 u else u,
        clampByte (x ≠ u16 body 0) :: le16 x) := by
  simp only [spindleSpeed, clampNat_eq (show 20000 ≤ 60000 by decide), code_clampStatus, clampByte, decide_eq_true_eq,
    done_eq_pair, State.withSpindle_spindle]
  cases hs : s.spindle.state <;> simp

@[simp] theorem u16_cons_cons (a b : Byte) (l : List Byte) : u16 (a :: b :: l) 0 = a.toNat + 256 * b.toNat := rfl

theorem u16_le16 {n : Nat} (h : n < 65536) (l : List Byte) : u16 (le16 n ++ l) 0 = n := le16_value h

theorem u32_le32 {n : Nat} (h : n < 4294967296) (l : List Byte) : u32 (le32 n ++ l) 0 = n := by
  have low := le16_value (n := n % 65536) (by omega)
  have high := le16_value (n := n / 65536) (by omega)
  simp only [u32, u16, le32, List.cons_append, u8_cons_zero, u8_cons_succ, b8, BitVec.toNat_ofNat, Nat.zero_add] at *
  omega

section
variable {life wear feed : Nat}

/-- The fields of a body of BIT SET (R97). -/
theorem bitBody_fields (h1 : life < 4294967296) (h2 : wear < 4294967296) (h3 : feed < 65536) :
    let body := le32 life ++ le32 wear ++ le16 feed
    u32 body 0 = life ∧ u32 body 4 = wear ∧ u16 body 8 = feed := by
  refine ⟨?_, ?_, ?_⟩
  · rw [List.append_assoc]; exact u32_le32 h1 _
  · exact u32_le32 h2 (le16 feed)
  · exact u16_le16 h3 []

end

/-- Settles O22. -/
theorem bitAndSpeedAreSet : Obligations.BitAndSpeedAreSet := by
  refine ⟨fun tag a b s hslot => ⟨fun hn hs => exec_answered rfl hslot ?same hs,
    fun hp hs => exec_answered rfl hslot ?spins hs⟩,
    fun tag life wear feed s hslot h1 h2 h3 h4 h5 => ⟨fun hidle hs => exec_answered rfl hslot ?bit hs,
      fun hbusy hs => exec_answered rfl hslot ?refused hs⟩⟩
  case same => rw [spindleSpeed_eq]; exact Prod.ext (if_neg hn) rfl
  case spins => rw [spindleSpeed_eq]; exact Prod.ext (if_pos hp) rfl
  case bit =>
    obtain ⟨flife, fwear, ffeed⟩ := bitBody_fields (life := life) (wear := wear) (feed := feed)
      (by omega) (by omega) (by omega)
    generalize le32 life ++ le32 wear ++ le16 feed = body at *
    have pass : firstFail (bitTests body) = none :=
      firstFail_eq_none (by simp [bitTests, flife, fwear, ffeed, inRange, h1, h2, h3, h4, h5])
    simp only [bitSet, hidle, pass, flife, fwear, ffeed, halfPoint, done_eq_pair]
    rfl
  case refused => simp [bitSet, hbusy, refuse, Status.code]

end Sys2Proof.Machine

namespace Sys2Proof.Machine

/-! ### RECIPE BEGIN and PROFILE DEFINE (R28, R29, R40 to R42) -/

theorem unconfigure_eq (s : State) :
    unconfigure s = s.withCell
      (match s.cell.mode with
       | .unconfigured | .idle => { s.cell with mode := .unconfigured, ret := none, idleTimer := none }
       | .halted | .parked | .waking => { s.cell with ret := some .unconfigured }
       | .running | .holding | .held => s.cell) := by
  unfold unconfigure
  cases s.cell.mode <;> rfl

@[simp] theorem orphanOperation_cell (s : State) : (orphanOperation s).cell = s.cell := rfl

/-- Settles O13. -/
theorem recipeBeginEmpties : Obligations.RecipeBeginEmpties := by
  intro tag s hslot hcut cell u hs
  refine exec_answered rfl hslot ?_ hs
  simp only [recipeBegin, hcut, Option.isSome_none, Bool.false_eq_true, if_false, done_eq_pair, discardRuntime,
    unconfigure_eq]
  rfl

/-- The body of PROFILE DEFINE for a profile (R40). -/
def profileBody (i : Fin 4) (p : Profile) : List Byte :=
  [b8 i.val, b8 p.slots] ++ le16 p.pitch ++ le32 p.base ++
    [if p.dir = .bottomUp then 0 else 1, b8 p.step, b8 p.limit]

section
variable {i : Fin 4} {p : Profile} (h1 : p.slots ≤ 100) (h2 : p.pitch ≤ 5000) (h3 : p.base ≤ 80000) (h4 : p.step ≤ 2)
  (h5 : p.limit ≤ p.slots)
include h1 h2 h3 h4 h5

theorem profileOf_profileBody : profileOf (profileBody i p) = p := by
  have hslots : (b8 p.slots).toNat = p.slots := b8_value (by omega)
  have hpitch : (b8 p.pitch).toNat + 256 * (b8 (p.pitch / 256)).toNat = p.pitch := le16_value (by omega)
  have hbase : u32 (profileBody i p) 4 = p.base :=
    u32_le32 (by omega) [if p.dir = .bottomUp then 0 else 1, b8 p.step, b8 p.limit]
  have hstep : (b8 p.step).toNat = p.step := b8_value (by omega)
  have hlimit : (b8 p.limit).toNat = p.limit := b8_value (by omega)
  have hdir : (FillDir.ofCode (u8 (profileBody i p) 8)).getD .bottomUp = p.dir := by
    change (FillDir.ofCode (BitVec.toNat (if p.dir = .bottomUp then (0 : Byte) else 1))).getD .bottomUp = p.dir
    cases p.dir <;> rfl
  rw [profileOf, hbase, hdir]
  change Profile.mk (b8 p.slots).toNat ((b8 p.pitch).toNat + 256 * (b8 (p.pitch / 256)).toNat) _ _
    (b8 p.step).toNat (b8 p.limit).toNat = p
  rw [hslots, hpitch, hstep, hlimit]

theorem profileTests_profileBody (g1 : 1 ≤ p.slots) (g2 : 100 ≤ p.pitch) (g4 : p.step = 1 ∨ p.step = 2)
    (g5 : 1 ≤ p.limit) : firstFail (profileTests (profileBody i p)) = none := by
  have e := profileOf_profileBody (i := i) h1 h2 h3 h4 h5
  have hslots : u8 (profileBody i p) 1 = p.slots := congrArg Profile.slots e
  have hpitch : u16 (profileBody i p) 2 = p.pitch := congrArg Profile.pitch e
  have hbase : u32 (profileBody i p) 4 = p.base := congrArg Profile.base e
  have hstep : u8 (profileBody i p) 9 = p.step := congrArg Profile.step e
  have hlimit : u8 (profileBody i p) 10 = p.limit := congrArg Profile.limit e
  have hindex : u8 (profileBody i p) 0 = i.val := b8_value (by omega)
  have hdir : u8 (profileBody i p) 8 ≤ 1 := by
    change BitVec.toNat (if p.dir = .bottomUp then (0 : Byte) else 1) ≤ 1
    split <;> decide
  apply firstFail_eq_none
  simp only [profileTests, hslots, hpitch, hbase, hstep, hlimit, hindex, inRange]
  simp [hdir]
  omega

end

theorem BayRec.uses_eq_false {r : BayRec} {i : Fin 4}
    (h : (r.state = .ready ∨ r.state = .active) → ∀ d, r.desc = some d → d.profile ≠ i) :
    BayRec.uses r i.val = false := by
  by_contra hc
  simp only [BayRec.uses, Bool.not_eq_false, Bool.and_eq_true, Bool.or_eq_true, decide_eq_true_eq] at hc
  obtain ⟨hs, hd⟩ := hc
  cases hdesc : r.desc with
  | none => simp [hdesc] at hd
  | some d =>
    rw [hdesc] at hd
    exact h hs d hdesc (Fin.ext (of_decide_eq_true hd))

/-- Settles O15. -/
theorem profileDefineStores : Obligations.ProfileDefineStores := by
  intro tag i p s hslot hfree h1 h2 h3 h4 h5 h6 h7 h8 body u hs
  refine exec_answered rfl hslot ?_ hs
  change profileDefine (profileBody i p) s = _
  have hbase : p.base ≤ 80000 := by omega
  have hstep : p.step ≤ 2 := by omega
  have hindex : u8 (profileBody i p) 0 = i.val := b8_value (by omega)
  have htop : ¬ 80000 < Profile.top p := Nat.not_lt.2 h8
  have ha : BayRec.uses s.bays.a i.val = false := BayRec.uses_eq_false (hfree .a)
  have hb : BayRec.uses s.bays.b i.val = false := BayRec.uses_eq_false (hfree .b)
  unfold profileDefine
  simp only [hindex, ha, hb, Bool.or_false, Bool.false_eq_true, if_false, index?_val,
    profileTests_profileBody h2 h4 hbase hstep h7 h1 h3 h5 h6, profileOf_profileBody h2 h4 hbase hstep h7, htop,
    done_eq_pair]
  rfl

end Sys2Proof.Machine

namespace Sys2Proof.Machine

/-! ### HOLD AT BOUNDARY and RESUME (R54, R56, R59, R182) -/

section
variable (n : Notice) (s : State)
@[simp] theorem clearNotice_cell : (clearNotice n s).cell = s.cell := rfl
@[simp] theorem clearNotice_spindle : (clearNotice n s).spindle = s.spindle := rfl
@[simp] theorem clearNotice_faults : (clearNotice n s).faults = s.faults := rfl
@[simp] theorem clearNotice_lines : (clearNotice n s).lines = s.lines := rfl
@[simp] theorem clearNotice_withCell (c : Cell) : clearNotice n (s.withCell c) = (clearNotice n s).withCell c := rfl
end

theorem enterMode_withCell {m : Mode} {s : State} (h : latched s.faults = false) (c : Cell) :
    enterMode m (s.withCell c) = if m = .held then raiseNotice Notice.holdReached [] (s.withCell { c with mode := m })
      else s.withCell { c with mode := m } :=
  enterMode_unlatched h

@[simp] theorem startSpindle_withCell (c : Cell) (s : State) :
    startSpindle (s.withCell c) = (startSpindle s).withCell c := by
  unfold startSpindle
  rw [State.withCell_spindle]
  split <;> rfl

theorem haltingOpen_iff (f : Faults) : haltingOpen f = true ↔ ∃ r ∈ f.waiting ++ f.stack, r.level ≤ 4 := by
  simp only [haltingOpen, List.any_eq_true, decide_eq_true_eq]

/-- RESUME in HALTED: the latches cleared, a spindle the halt had stopped started, the return mode entered (R59). -/
theorem resumeHalted_eq {s : State} {m : Mode} (hret : s.cell.ret = some m) :
    let open_ := clearNotice Notice.holdReached (s.withFaults { s.faults with allStop := false, cutStop := false })
    let home := (if s.cell.restart then startSpindle open_ else open_).withCell
      { s.cell with mode := m, ret := none, restart := false }
    resumeHalted s = if m = .held then raiseNotice Notice.holdReached [] home else home := by
  intro open_ home
  have hopen : latched open_.faults = false := rfl
  have hstart : latched (startSpindle open_).faults = false := by rw [startSpindle_faults]; exact hopen
  have hc : (startSpindle open_).cell = s.cell := startSpindle_cell _
  change enterReturn (restartSpindle open_) = _
  cases hr : s.cell.restart with
  | true =>
    have hspun : restartSpindle open_ = (startSpindle open_).withCell { s.cell with restart := false } := by
      rw [restartSpindle, if_pos (by exact hr), startSpindle_withCell]; rfl
    have e : enterReturn (restartSpindle open_) = enterMode m ((startSpindle open_).withCell
        { s.cell with ret := none, restart := false }) := by
      rw [hspun]; simp [enterReturn, hret]
    rw [e, enterMode_withCell hstart]
    simp [home, hr]
  | false =>
    have e : enterReturn (restartSpindle open_) = enterMode m (open_.withCell { s.cell with ret := none }) := by
      rw [restartSpindle, if_neg (by simpa [open_] using hr)]; simp [enterReturn, hret, open_]
    rw [e, enterMode_withCell hopen]
    simp [home, hr]

/-- Settles O17, by the mode of the cell. -/
theorem holdAndResume : Obligations.HoldAndResume := by
  refine ⟨fun tag s hslot => ⟨fun hm hl hs => exec_answered rfl hslot ?running hs,
    fun hm hr hs => exec_answered rfl hslot ?halted hs, fun hm hs => exec_answered rfl hslot ?taken hs,
    fun hm hs => exec_answered rfl hslot ?refused hs⟩,
    fun tag m s hslot => ⟨fun hm hl hs => exec_answered rfl hslot ?withdrawn hs,
      fun hm ho hs => exec_answered rfl hslot ?faultsOpen hs, fun hm hr hc hs => exec_answered rfl hslot ?resumed hs,
      fun hm hs => exec_answered rfl hslot ?wrongMode hs⟩⟩
  case running =>
    simp [holdAtBoundary, holdTakeable, takeHold, hm, enterMode_withCell hl, done_eq_pair, Status.code]
  case halted =>
    have e : takeHold s = s.withCell { s.cell with holdLatch := true, ret := some .holding } := by
      simp [takeHold, hm, hr]
    simp [holdAtBoundary, holdTakeable, hm, hr, e, done_eq_pair, Status.code]
  case taken =>
    rcases hm with hm | hm | ⟨hm, hr | hr⟩
    · simp [holdAtBoundary, holdTakeable, hm, done_eq_pair, Status.code]
    · simp [holdAtBoundary, holdTakeable, hm, done_eq_pair, Status.code]
    · simp [holdAtBoundary, holdTakeable, hm, hr, done_eq_pair, Status.code]
    · simp [holdAtBoundary, holdTakeable, hm, hr, done_eq_pair, Status.code]
  case refused =>
    have no : holdTakeable s = false := by
      rcases hm with hm | hm | hm | hm | ⟨hm, hr | hr | hr⟩
      iterate 4 simp [holdTakeable, hm]
      iterate 3 simp [holdTakeable, hm, hr]
    simp [holdAtBoundary, no, refuse, Status.code]
  case withdrawn =>
    have hl : latched (clearNotice Notice.holdReached s).faults = false := hl
    rcases hm with hm | hm <;> simp [resumeCell, hm, enterMode_withCell hl, done_eq_pair, Status.code]
  case faultsOpen => simp [resumeCell, hm, (haltingOpen_iff s.faults).2 ho, refuse, Status.code]
  case resumed =>
    have closed : haltingOpen s.faults = false := Bool.eq_false_iff.2 fun h => by
      obtain ⟨r, hr, hle⟩ := (haltingOpen_iff s.faults).1 h
      exact absurd (hc r hr) (Nat.not_lt.2 hle)
    simp only [resumeCell, hm, closed, resumeHalted_eq hr, done_eq_pair]
    rfl
  case wrongMode =>
    rcases hm with hm | hm | hm | hm | hm <;> simp [resumeCell, hm, refuse, Status.code]

/-! ### PARK, the idle-park timer and WAKE (R60 to R62) -/

theorem parkCell_eq (s : State) :
    let off := stopSpindle (s.withCell { s.cell with mode := .parked, ret := some s.cell.mode, idleTimer := none })
    parkCell s = if s.spindle.state = .stopped then raiseNotice Notice.parked [b8 (Mode.code s.cell.mode)] off
      else off := by
  intro off
  have hstopped : off.spindle.state = .stopped ↔ s.spindle.state = .stopped := by
    cases h : s.spindle.state <;> simp [off, stopSpindle, h]
  have hcell : off.cell.ret = some s.cell.mode := by simp [off, stopSpindle_cell]
  change (if off.spindle.state = .stopped then raiseParked off else off) = _
  simp only [hstopped, raiseParked, hcell]
  rfl

/-- Where no WAKE line has a latch, a wake clears none (R62). -/
theorem map_woken {v : Vector AuxLine 4} (h : ∀ n, (getAt v n).role = .wake → (getAt v n).latch = .clear) :
    v.map AuxLine.woken = v := by
  refine Vector.ext fun i hi => ?_
  rw [Vector.getElem_map]
  unfold AuxLine.woken
  refine if_neg ?_
  simp only [Bool.and_eq_true, decide_eq_true_eq]
  rintro ⟨⟨hr, -⟩, hl⟩
  exact hl (h ⟨i, hi⟩ hr)

theorem startWake_eq {s : State}
    (h : ∀ n, (getAt s.lines.aux n).role = .wake → (getAt s.lines.aux n).latch = .clear) :
    let clear := clearNotice Notice.parked s
    startWake s =
      if s.faults.allStop then clear.withCell { s.cell with mode := .halted, restart := true }
      else if s.faults.cutStop then startSpindle (clear.withCell { s.cell with mode := .halted })
      else startSpindle (clear.withCell { s.cell with mode := .waking }) := by
  intro clear
  have e : clear.withLines { clear.lines with aux := clear.lines.aux.map AuxLine.woken } = clear := by
    rw [map_woken (v := clear.lines.aux) h]; rfl
  unfold startWake
  dsimp only
  rw [e]
  rfl

/-- Settles O19. -/
theorem parkAndWake : Obligations.ParkAndWake := by
  refine ⟨fun tag s hslot => ⟨fun hm hs => exec_answered rfl hslot ?park hs,
    fun h1 h2 hs => exec_answered rfl hslot ?parkRefused hs⟩, fun minutes s hm ht hs => exec_event rfl ?timer hs,
    fun tag s hslot => ⟨fun hm hw hs => exec_answered rfl hslot ?wake hs,
      fun hm hs => exec_answered rfl hslot ?wakeRefused hs⟩⟩
  case park =>
    have e := parkCell_eq s
    rcases hm with hm | hm <;> simp [parkRequest, e, hm, done_eq_pair, Status.code, Mode.code, b8]
  case parkRefused =>
    cases hm : s.cell.mode <;> simp_all [parkRequest, refuse, Status.code]
  case timer =>
    have e := parkCell_eq s
    simp [e, hm, ht, Mode.code, b8]
  case wake => simp [wakeRequest, hm, startWake_eq hw, done_eq_pair, Status.code]
  case wakeRefused => simp [wakeRequest, hm, refuse, Status.code]

end Sys2Proof.Machine

namespace Sys2Proof.Machine

/-! ### The Fault Service by request (R177, R179 to R181) -/

theorem detailBytes_eq (d : Detail) : detailBytes d = [b8 (Detail.kindCode d), Detail.byte d] := by
  cases d with
  | bay x => cases x <;> rfl
  | _ => rfl

theorem payload_eq (r : FaultRec) :
    FaultRec.payload r = [b8 r.source.val, b8 r.level] ++ detailBytes r.detail ++ [b8 r.repeats] := by
  rw [detailBytes_eq]; rfl

/-- The record that precedes every other of the list is the one the take rule looks at (R179). -/
theorem mostUrgent_eq_some {l : List FaultRec} {r : FaultRec} (hr : r ∈ l)
    (h : ∀ q ∈ l, q ≠ r → r.level < q.level ∨ (r.level = q.level ∧ r.source.val < q.source.val)) :
    mostUrgent l = some r := by
  induction l with
  | nil => cases hr
  | cons a t ih =>
    unfold mostUrgent
    by_cases ha : a = r
    · subst ha
      cases hm : mostUrgent t with
      | none => rfl
      | some m =>
        by_cases same : m = a
        · subst same; simp
        · have hmem : m ∈ a :: t := List.mem_cons_of_mem _ (mostUrgent_spec hm).1
          have first : a.level < m.level ∨ (a.level = m.level ∧ a.source < m.source) := h m hmem same
          simp [first]
    · have hr : r ∈ t := (List.mem_cons.1 hr).resolve_left (Ne.symm ha)
      rw [ih hr fun q hq => h q (List.mem_cons_of_mem _ hq)]
      have last := h a (List.mem_cons_self ..) ha
      have not_first : ¬ (a.level < r.level ∨ (a.level = r.level ∧ a.source < r.source)) := by
        rw [Fin.lt_def]; omega
      simp [not_first]

theorem takeRule_waits {s : State} (h : s.faults.waiting = [] ∨
    ∃ top below, s.faults.stack = top :: below ∧ ∀ q ∈ s.faults.waiting, top.level ≤ q.level) : takeRule s = s := by
  obtain ⟨-, e⟩ | ⟨r, hm, ⟨-, e⟩ | ⟨hout, -⟩⟩ := takeRule_cases s
  · exact e
  · exact e
  · exfalso
    obtain ⟨hmem, -⟩ := mostUrgent_spec hm
    obtain hw | ⟨top, below, hs, htop⟩ := h
    · simp [hw] at hmem
    · exact absurd (hout top (by simp [hs])) (Nat.not_lt.2 (htop r hmem))

theorem takeRule_takes {s : State} {r : FaultRec} (hm : mostUrgent s.faults.waiting = some r)
    (hout : outranks r s.faults) : takeRule s = raiseNotice Notice.faultTaken (FaultRec.payload r) (s.withFaults
      { s.faults with
        waiting := s.faults.waiting.filter fun q => decide (q.source ≠ r.source)
        stack := r :: s.faults.stack }) := by
  obtain ⟨hw, -⟩ | ⟨q, hq, ⟨hno, -⟩ | ⟨-, e⟩⟩ := takeRule_cases s
  · rw [hw] at hm; cases hm
  · obtain rfl := Option.some.inj (hm.symm.trans hq); exact absurd hout hno
  · obtain rfl := Option.some.inj (hm.symm.trans hq); exact e

theorem levelStands_iff (a : AuxLine) :
    levelStands a = true ↔
      (a.mode = .lowLevel ∧ a.filter.level = some false) ∨ (a.mode = .highLevel ∧ a.filter.level = some true) := by
  cases h : a.mode <;> simp [levelStands, h]

theorem conditionStands_aux (s : State) (n : Fin 4) :
    conditionStands s (auxSource n) =
      (decide ((getAt s.lines.aux n).role = .fault) && levelStands (getAt s.lines.aux n)) := by
  have ne (src : Source) (h : src.val ≤ 18) : auxSource n ≠ src := by
    intro e; have := congrArg Fin.val e; simp only [auxSource] at this; omega
  have hn : (⟨(auxSource n).val - 19, by have := (auxSource n).isLt; omega⟩ : Fin 4) = n := by
    ext; simp [auxSource]
  unfold conditionStands
  rw [if_neg (ne _ (by decide)), if_neg (ne _ (by decide)), if_neg (ne _ (by decide)),
    dif_pos (by simp [auxSource])]
  dsimp only
  rw [hn]

theorem conditionStands_none {s : State} {src : Source} (h1 : 3 ≤ src.val) (h2 : src.val ≤ 18) :
    conditionStands s src = false := by
  have ne (q : Source) (h : q.val < 3) : src ≠ q := by rintro rfl; omega
  unfold conditionStands
  rw [if_neg (ne _ (by decide)), if_neg (ne _ (by decide)), if_neg (ne _ (by decide)), dif_neg (by omega)]

/-- The byte of an index reads back as that index. -/
theorem index?_b8 {n : Nat} (h : n ≤ 256) (i : Fin n) (l : List Byte) : index? n (u8 (b8 i.val :: l) 0) = some i := by
  rw [u8_cons_zero, b8_value (by omega), index?_val]

theorem answers_fieldZero (s : State) : badField 0 s = (s, [6, 0, 0]) := rfl

/-- Settles O25. -/
theorem faultRequests : Obligations.FaultRequests := by
  refine ⟨fun tag src level s hslot hlevel hs => ⟨fun hsrc => exec_answered rfl hslot ?levelSet (by exact hs),
    fun hsrc => exec_answered rfl hslot ?levelFixed hs⟩,
    fun tag src top below s hslot hstack => ⟨fun hsrc hcond hs => exec_answered rfl hslot ?removed hs,
      fun hsrc hcond hs => exec_answered rfl hslot ?stands hs,
      fun hsrc hs => exec_answered rfl hslot ?wrongFault hs⟩,
    fun r s => ⟨takeRule_waits, fun hr hfirst hout => ?takes⟩,
    fun s => ⟨by simp [conditionStands], by simp [conditionStands, Source.doorOpen, Source.stopChain],
      by simp [conditionStands, Source.doorOpen, Source.stopChain, Source.driveFault], fun n => ?aux,
      fun src h1 h2 => conditionStands_none h1 h2⟩⟩
  case levelSet =>
    have hv : u8 [b8 src.val, b8 level] 1 = level := b8_value (by omega)
    simp only [faultLevelSet, index?_b8 (show 23 ≤ 256 by decide), hv]
    rw [if_neg (by omega), if_neg (by omega)]
    rfl
  case levelFixed =>
    simp only [faultLevelSet, index?_b8 (show 23 ≤ 256 by decide)]
    rw [if_pos (by omega), answers_fieldZero]
  case removed =>
    subst hsrc
    simp only [faultAcknowledge, index?_b8 (show 23 ≤ 256 by decide), hstack, ne_eq, not_true, if_false, hcond,
      Bool.false_eq_true, done_eq_pair, topSource]
    rfl
  case stands =>
    subst hsrc
    simp only [faultAcknowledge, index?_b8 (show 23 ≤ 256 by decide), hstack, ne_eq, not_true, if_false, hcond, if_true]
    rfl
  case wrongFault =>
    simp only [faultAcknowledge, index?_b8 (show 23 ≤ 256 by decide), hstack, ne_eq, Ne.symm hsrc, not_false_eq_true,
      if_true]
    rfl
  case takes =>
    have outranked : outranks r s.faults := by
      unfold outranks
      cases hs : s.faults.stack with
      | nil => simp
      | cons top below => simpa using hout top below hs
    rw [takeRule_takes (mostUrgent_eq_some hr hfirst) outranked, payload_eq]
  case aux => rw [conditionStands_aux, Bool.and_eq_true, decide_eq_true_eq, levelStands_iff]

/-! ### The Notice Table by request (R18, R19, R169) -/

/-- The roles of the lines read of the notices the raised marks of AUX_0 to AUX_3 alone. -/
theorem still_withNotices_aux {s : State} {v : Vector NoticeRec 16}
    (hv : ∀ n, (getAt v (auxNotice n)).raised = (getAt s.notices (auxNotice n)).raised) :
    still (s.withNotices v) = still s := by
  have ha : auxStill (s.withNotices v) = auxStill s := by
    funext n
    unfold auxStill
    rw [State.withNotices_notices, hv]
    rfl
  unfold still
  rw [ha]
  rfl

theorem auxNotice_val (n : Fin 4) : (auxNotice n).val = 11 + n.val := rfl

theorem clearAuxLatch_other {n : Notice} (h : n.val < 11 ∨ 14 < n.val) (s : State) : clearAuxLatch n s = s := by
  unfold clearAuxLatch
  cases e : index? 4 (n.val - 11) with
  | none => rfl
  | some i =>
    have low : ¬ 11 ≤ n.val := by
      obtain ⟨hi, -⟩ : ∃ hi : n.val - 11 < 4, (⟨n.val - 11, hi⟩ : Fin 4) = i := by simpa [index?] using e
      omega
    simp [low]

theorem clearAuxLatch_aux {n : Notice} {i : Fin 4} (h : n.val = 11 + i.val) (s : State) :
    clearAuxLatch n s = if (getAt s.lines.aux i).role = .notice
      then setAux i (AuxLine.relatch (getAt s.lines.aux i)) s else s := by
  have e : index? 4 (n.val - 11) = some i := by rw [h, Nat.add_sub_cancel_left, index?_val]
  have low : 11 ≤ n.val := by omega
  simp [clearAuxLatch, e, low]

theorem noticeClear_eq (n : Notice) (s : State) :
    noticeClear [b8 n.val] s = (clearAuxLatch n (clearNotice n s), [0]) := by
  simp only [noticeClear, index?_b8 (show 16 ≤ 256 by decide)]
  rfl

theorem clearNotice_eq (n : Notice) (s : State) :
    clearNotice n s = (s.withNotices (setAt s.notices n
        { getAt s.notices n with raised := false, sent := false, payload := [] })).withLink
      { s.link with tx := s.link.tx.map (Tx.withdraw n) } := rfl

/-- A latch that is set again on an enabled NOTICE line raises its notice at the same moment (R169, R170). -/
theorem finish_relatched_withLink {n : Notice} {i : Fin 4} {a : AuxLine} {s : State} (hn : n.val = 11 + i.val)
    (ha : a.role = .notice) (hen : a.enable = true) (hset : a.latch = .set) (hs : still s = true) (k : Link)
    (hu : still (raiseNotice n [] (setAux i a (clearNotice n s))) = true) :
    finish ((setAux i a (clearNotice n s)).withLink k) =
      rest ((raiseNotice n [] (setAux i a (clearNotice n s))).withLink k) := by
  obtain rfl : auxNotice i = n := Fin.ext (by rw [auxNotice_val, hn])
  have hrec : recordsStill s = true := by
    simp only [still, Bool.and_eq_true] at hs
    obtain ⟨⟨⟨⟨⟨h, -⟩, -⟩, -⟩, -⟩, -⟩ := hs
    exact h
  refine finish_auxRole (n := i) hrec ?_ (fun m hm => ?_) (by simpa using hu)
  · have line : getAt ((setAux i a (clearNotice (auxNotice i) s)).withLink k).lines.aux i = a :=
      (getAt_setAux i i a _).trans (if_pos rfl)
    unfold auxRole
    dsimp only
    rw [line, ha, hen, hset]
    simp
  · have line : getAt ((setAux i a (clearNotice (auxNotice i) s)).withLink k).lines.aux m = getAt s.lines.aux m :=
      (getAt_setAux i m a _).trans (if_neg (Ne.symm hm))
    have other : auxNotice i ≠ auxNotice m := fun e => hm (Fin.ext (by
      have := congrArg Fin.val e; rw [auxNotice_val, auxNotice_val] at this; omega))
    have mark : getAt ((setAux i a (clearNotice (auxNotice i) s)).withLink k).notices (auxNotice m) =
        getAt s.notices (auxNotice m) := by
      simp [setAux, clearNotice_eq, getAt_setAt, other]
    have before := auxStill_of_still hs m
    unfold auxStill at before ⊢
    rw [line, mark]
    exact before

theorem finish_relatched {n : Notice} {i : Fin 4} {a : AuxLine} {s : State} (hn : n.val = 11 + i.val)
    (ha : a.role = .notice) (hen : a.enable = true) (hset : a.latch = .set) (hs : still s = true)
    (hu : still (raiseNotice n [] (setAux i a (clearNotice n s))) = true) (kind tag : Byte) (body reply : List Byte) :
    finish (replied kind tag body reply (setAux i a (clearNotice n s))) =
      rest (replied kind tag body reply (raiseNotice n [] (setAux i a (clearNotice n s)))) := by
  unfold replied
  rw [raiseNotice_link]
  exact finish_relatched_withLink hn ha hen hset hs _ hu

/-- Settles O27. -/
theorem noticeRequests : Obligations.NoticeRequests := by
  intro tag n e s hslot hs
  have kept {u : State} (hu : still u = true) (hc : clearAuxLatch n (clearNotice n s) = u) :
      exec (.noticeClear tag [b8 n.val]) s = .next (rest (replied 0x71 tag [b8 n.val] [0] u)) :=
    exec_answered rfl hslot (by rw [noticeClear_eq, hc]) hu
  refine ⟨exec_answered rfl hslot ?enable ?enableStill, fun hn => kept ?otherStill (clearAuxLatch_other hn _),
    fun i a hn ha => ⟨fun hrole hu => kept hu ?role, fun hrole hno hu => kept hu ?gone,
      fun hrole hstands hen hu => ?again⟩⟩
  case enable =>
    have hmark : markOf (u8 [b8 n.val, if e then 1 else 0] 1) = some e := by cases e <;> rfl
    simp only [noticeEnable, index?_b8 (show 16 ≤ 256 by decide), hmark]
    rfl
  case enableStill =>
    rw [still_withNotices_aux fun m => ?_]
    · exact hs
    · rw [getAt_setAt]; split
      · next h => rw [h]
      · rfl
  case otherStill =>
    rw [still_withLink, still_withNotices_aux fun m => ?_]
    · exact hs
    · rw [getAt_setAt, if_neg]
      intro h
      have := m.isLt
      rw [h, auxNotice_val] at hn
      omega
  case role => rw [clearAuxLatch_aux hn, clearNotice_lines, ha, if_neg hrole]; rfl
  case gone =>
    have hno : levelStands a = false := Bool.eq_false_iff.2 fun h => hno ((levelStands_iff a).1 h)
    rw [clearAuxLatch_aux hn, clearNotice_lines, ha, if_pos hrole, AuxLine.relatch, hno]
    rfl
  case again =>
    have hstands : levelStands a = true := (levelStands_iff a).2 hstands
    have hset : AuxLine.relatch a = { a with latch := .set } := by rw [AuxLine.relatch, hstands]; rfl
    have e : exec (.noticeClear tag [b8 n.val]) s =
        .next (finish (takeRequest 0x71 true noticeClear tag [b8 n.val] s)) := rfl
    rw [e, takeRequest_empty hslot]
    have hclear : clearAuxLatch n (clearNotice n s) = setAux i { a with latch := .set } (clearNotice n s) := by
      rw [clearAuxLatch_aux hn, clearNotice_lines, ha, if_pos hrole, hset]
    simp only [answerTo, if_true, noticeClear_eq, hclear]
    rw [finish_relatched (a := { a with latch := .set }) hn hrole hen rfl hs hu]
    rfl

end Sys2Proof.Machine

namespace Sys2Proof.Machine

/-! ### The field lines by request (R166, R169, R171) -/

theorem presentInput_of_findsInput {pin : Option Bool} {v : Bool} {s t : State} (h : findsInput pin v s t) :
    presentInput pin s = (v, t) := by
  obtain ⟨rfl, rfl⟩ | ⟨rfl, rfl, rfl⟩ := h <;> rfl

theorem lines_of_findsInput {pin : Option Bool} {v : Bool} {s t : State} (h : findsInput pin v s t) :
    t.lines = s.lines := by
  obtain ⟨-, rfl⟩ | ⟨-, -, rfl⟩ := h <;> rfl

theorem handOver_same (l : Fin 16) (v : Bool) (s : State) : handOver l (some v) v s = s := by
  simp [handOver]

theorem handOver_changed (l : Fin 16) (v : Bool) (s : State) : handOver l (some !v) v s = levelChange l v s := by
  cases v <;> rfl

theorem handOver_first {l : Fin 16} {v : Bool} (h : v = true ∨ l = 15) (s : State) :
    handOver l none v s = levelChange l v s := by
  rcases h with rfl | rfl <;> simp [handOver]

theorem handOver_unknown {l : Fin 16} (h : l ≠ 15) (s : State) : handOver l none false s = s := by
  have hl : l.val ≠ 15 := fun e => h (Fin.ext e)
  simp [handOver, hl]

/-- The body of LINE CONFIGURE (R166). -/
def lineBody (l : Fin 16) (sense : Sense) (period : SamplePeriod) : List Byte :=
  [b8 l.val, (match sense with | .activeHigh => 0 | .activeLow => 1),
    (match period with | .p01 => 0 | .p05 => 1 | .p20 => 2)]

/-- LINE CONFIGURE: the filter restarted from the input present, and the level handed over (R166). -/
theorem lineConfigure_eq {l : Fin 16} {sense : Sense} {period : SamplePeriod} {v : Bool} {s r : State}
    (hin : findsInput (getAt s.lines.ded l).pin v s r) :
    lineConfigure (lineBody l sense period) s = (handOver l (getAt s.lines.ded l).filter.level (throughSense sense v)
      (r.withLines
        { s.lines with
          ded := setAt s.lines.ded l
            { sense := sense, period := period, pin := none, filter := Filter.restart (throughSense sense v) } }), [0]) := by
  have hindex : index? 16 (u8 (lineBody l sense period) 0) = some l := index?_b8 (by decide) l _
  have hsense : Sense.ofCode (u8 (lineBody l sense period) 1) = some sense := by cases sense <;> rfl
  have hperiod : SamplePeriod.ofCode (u8 (lineBody l sense period) 2) = some period := by cases period <;> rfl
  simp only [lineConfigure, hindex, hsense, hperiod, restartDed,
    presentInput_of_findsInput hin, setDed, lines_of_findsInput hin]
  rfl

theorem auxConfigure_eq {n : Fin 4} {mode : DetectMode} {role : AuxRole} {period : SamplePeriod} {enable v : Bool}
    {s r : State} (hin : findsInput (getAt s.lines.aux n).pin v s r) :
    let stands : Bool := (decide (mode = .lowLevel) && !v) || (decide (mode = .highLevel) && v)
    let bit (b : Bool) : Byte := if b then 1 else 0
    let body : List Byte :=
      [b8 n.val,
       (match mode with | .lowLevel => 0 | .highLevel => 1 | .rising => 2 | .falling => 3 | .both => 4),
       (match role with | .notice => 0 | .hold => 1 | .fault => 2 | .wake => 3),
       (match period with | .p01 => 0 | .p05 => 1 | .p20 => 2), bit enable]
    auxConfigure body s = (setAux n
      { mode := mode, role := role, enable := enable, period := period, pin := none
        filter := { level := some v, count := 0, seen := v }, latch := if stands then .set else .clear } r,
      0 :: (body ++ [bit v, bit stands])) := by
  intro stands bit body
  have hmode : DetectMode.ofCode (u8 body 1) = some mode := by cases mode <;> rfl
  have hrole : AuxRole.ofCode (u8 body 2) = some role := by cases role <;> rfl
  have hperiod : SamplePeriod.ofCode (u8 body 3) = some period := by cases period <;> rfl
  have hmark : markOf (u8 body 4) = some enable := by cases enable <;> rfl
  let a : AuxLine :=
    { mode := mode, role := role, enable := enable, period := period, filter := Filter.restart v, pin := none
      latch := .clear }
  have hstands : levelStands a = stands := by cases mode <;> cases v <;> rfl
  have hre : AuxLine.relatch a = { a with latch := if stands then .set else .clear } := by
    rw [AuxLine.relatch, hstands]
  have e : restartAux n mode role period enable s = setAux n (AuxLine.relatch a) r := by
    simp only [restartAux, presentInput_of_findsInput hin]
    rfl
  simp only [auxConfigure, index?_b8 (show 4 ≤ 256 by decide), hmode, hrole, hperiod, hmark, body, e, hre,
    getAt_setAux, if_true, done_eq_pair]
  refine Prod.ext rfl ?_
  cases mode <;> cases role <;> cases period <;> cases enable <;> cases v <;> rfl

theorem exec_lineConfigure {tag : Byte} {l : Fin 16} {sense : Sense} {period : SamplePeriod} {v : Bool} {s r u : State}
    (hslot : s.link.slot = none) (hin : findsInput (getAt s.lines.ded l).pin v s r)
    (e : handOver l (getAt s.lines.ded l).filter.level (throughSense sense v)
      (r.withLines
        { s.lines with
          ded := setAt s.lines.ded l
            { sense := sense, period := period, pin := none, filter := Filter.restart (throughSense sense v) } }) = u)
    (hu : still u = true) :
    exec (.lineConfigure tag (lineBody l sense period)) s =
      .next (rest (replied 0x50 tag (lineBody l sense period) [0] u)) :=
  exec_answered rfl hslot ((lineConfigure_eq hin).trans (congrArg (·, [0]) e)) hu

/-- Settles O24. -/
theorem linesAreConfigured : Obligations.LinesAreConfigured := by
  refine ⟨fun tag l sense period v s r hslot hin => ?_,
    fun tag n mode role period enable v s r hslot hin hs => exec_answered rfl hslot (auxConfigure_eq hin) hs⟩
  intro level body set
  have answer {u : State} (e : handOver l (getAt s.lines.ded l).filter.level level set = u) (hu : still u = true) :
      exec (.lineConfigure tag body) s = .next (rest (replied 0x50 tag body [0] u)) :=
    exec_lineConfigure hslot hin e hu
  refine ⟨fun hl hs => answer ?_ hs, fun hl hs => answer ?_ hs, fun hl => ⟨fun hfirst hs => answer ?_ hs,
    fun hlow h15 hs => answer ?_ hs⟩⟩
  · rw [hl]; exact handOver_same _ _ _
  · rw [hl]; exact handOver_changed _ _ _
  · rw [hl]; exact handOver_first hfirst _
  · rw [hl, hlow]; exact handOver_unknown h15 _

end Sys2Proof.Machine

namespace Sys2Proof.Machine

/-! ### BAY LOAD and BAY RETIRE (R20, R150, R151, R160) -/

section
variable (x : Bay) (r : BayRec) (s : State)
@[simp] theorem setBay_ports : (setBay x r s).ports = s.ports := by cases x <;> rfl
@[simp] theorem setBay_stacker : (setBay x r s).stacker = s.stacker := by cases x <;> rfl
@[simp] theorem bayOf_setBay : bayOf (setBay x r s) x = r := by cases x <;> rfl
end

theorem completeBay_eq {x : Bay} {d : FillDesc} {s : State} (hd : (bayOf s x).desc = some d) :
    completeBay x s = raiseNotice (bayCompleteNotice x) [b8 d.filled]
      (setBay x { bayOf s x with state := .complete, retire := false } s) := by
  simp [completeBay, BayRec.filled, hd]

theorem visitSlot_eq_some {p : Profile} {k n : Nat} :
    Profile.visitSlot p k = some n ↔ k < Profile.visits p ∧
      n = match p.dir with | .bottomUp => k * p.step | .topDown => p.slots - 1 - k * p.step := by
  unfold Profile.visitSlot
  split
  · simp; omega
  · cases p.dir <;> simp <;> omega

theorem onPath_iff (p : Profile) (n : Nat) :
    Profile.onPath p n = true ↔ ∃ k, k < Profile.visits p ∧
      n = match p.dir with | .bottomUp => k * p.step | .topDown => p.slots - 1 - k * p.step := by
  simp only [Profile.onPath, List.any_eq_true, List.mem_range, beq_iff_eq, visitSlot_eq_some]
  exact exists_congr fun k => by tauto

theorem visitSlot_zero (p : Profile) :
    Profile.visitSlot p 0 =
      if Profile.visits p = 0 then none else some (if p.dir = .bottomUp then 0 else p.slots - 1) := by
  unfold Profile.visitSlot
  cases p.dir <;> simp

theorem ofCode_byte (x : Bay) (l : List Byte) : Bay.ofCode (u8 ((if x = .a then 0 else 1) :: l) 0) = some x := by
  cases x <;> rfl

theorem bayRetire_ready {x : Bay} {s : State} (h : (bayOf s x).state = .ready) :
    bayRetire [if x = .a then 0 else 1] s = (completeBay x s, [0]) := by
  simp only [bayRetire, ofCode_byte, h]; rfl

theorem bayRetire_active {x : Bay} {s : State} (h : (bayOf s x).state = .active) :
    bayRetire [if x = .a then 0 else 1] s =
      if pushInProgress s x then (setBay x { bayOf s x with retire := true } s, [1]) else (retireNow x s, [0]) := by
  simp only [bayRetire, ofCode_byte, h]; rfl

/-- The Slot Map of a bay just loaded (R150). -/
def slotMap (p : Profile) : List SlotState :=
  (List.range p.slots).map fun n => if Profile.onPath p n then .open_ else .unused

/-- BAY LOAD: a fresh descriptor and map, and the bay's two notices cleared (R20, R150). -/
theorem bayLoad_eq {x : Bay} {i : Fin 4} {p : Profile} {s : State}
    (h : (bayOf s x).state = .present ∨ (bayOf s x).state = .ready) (hp : Table.get s.recipe.profiles i = some p) :
    bayLoad [if x = .a then 0 else 1, b8 i.val] s =
      (clearNotice (bayChangedNotice x) (clearNotice (bayCompleteNotice x) (setBay x
        { state := .ready, map := slotMap p, retire := false
          desc := some { profile := i, values := p, visit := 0, next := Profile.visitSlot p 0, filled := 0 } } s)),
        [0, b8 (Profile.visits p), optByte (Profile.visitSlot p 0)]) := by
  have hindex : index? 4 (u8 [if x = .a then 0 else 1, b8 i.val] 1) = some i := index?_b8 (by decide) i []
  rcases h with h | h <;> simp only [bayLoad, ofCode_byte, h, hindex, hp] <;> rfl

/-- Settles O23. -/
theorem bayLoadAndRetire : Obligations.BayLoadAndRetire := by
  refine ⟨fun tag x i p s hslot hstate hp => ?load, fun tag x d s hslot =>
    ⟨fun hr hd hs => exec_answered rfl hslot ?ready hs, fun hr hd hno hs => exec_answered rfl hslot ?active hs,
     fun hr hd ht hstage => ?target, fun hr ht hpush hs => exec_answered rfl hslot ?push hs,
     fun hr hs => exec_answered rfl hslot ?refused hs⟩⟩
  case load =>
    intro body visits onPath first hs
    have e : bayLoad body s =
        (clearNotice (bayChangedNotice x) (clearNotice (bayCompleteNotice x) (setBay x
          { state := .ready, map := slotMap p, retire := false
            desc := some { profile := i, values := p, visit := 0, next := first, filled := 0 } } s)),
          [0, b8 visits, match first with | some n => b8 n | none => 0xFF]) := by
      have hfirst : Profile.visitSlot p 0 = first := visitSlot_zero p
      rw [bayLoad_eq hstate hp, hfirst]
      cases first <;> rfl
    rw [e] at hs
    refine ⟨slotMap p, _, rfl, exec_answered rfl hslot e hs, by simp [slotMap], fun n hn => ?_⟩
    · have path : Profile.onPath p n = true ↔ onPath n := by
        rw [onPath_iff]
        simp only [onPath]
        cases p.dir <;> rfl
      have entry : (slotMap p)[n]? = some (if Profile.onPath p n then SlotState.open_ else .unused) := by
        simp [slotMap, hn]
      exact ⟨fun h => by rw [entry, if_pos (path.2 h)], fun h => by rw [entry, if_neg (fun c => h (path.1 c))]⟩
  case ready => rw [bayRetire_ready hr, completeBay_eq hd]
  case active =>
    have hpush : pushInProgress s x = false := by simp [pushInProgress, hno]
    have hkeep : (completeBay x s).stacker.target ≠ some x := by simpa [completeBay] using hno
    rw [bayRetire_active hr, hpush, if_neg (by decide), retireNow, if_neg hkeep, completeBay_eq hd]
  case target =>
    have hpush : pushInProgress s x = false := by
      rcases hstage with hstage | hstage | hstage <;> simp [pushInProgress, hstage]
    have hlose : retireNow x s = loseTarget (completeBay x s) := by
      rw [retireNow, if_pos (by simpa [completeBay] using ht)]
    have e : exec (.bayRetire tag [if x = .a then 0 else 1]) s =
        .next (finish (takeRequest 0x41 true bayRetire tag [if x = .a then 0 else 1] s)) := rfl
    rw [e, takeRequest_empty hslot]
    simp only [answerTo, if_true, bayRetire_active hr, hpush, Bool.false_eq_true, if_false, hlose, completeBay_eq hd]
    simp [loseTarget, stopElevate, Port.stop, stopped]
  case push =>
    have hpush : pushInProgress s x = true := by simpa [pushInProgress, ht] using hpush
    rw [bayRetire_active hr, hpush, if_pos rfl]
  case refused =>
    rcases hr with hr | hr | hr <;> simp only [bayRetire, ofCode_byte, hr] <;> rfl

end Sys2Proof.Machine

/-! ### Orders that complete: the router port (R93, R95, R119, R173) -/

namespace Sys2Proof.Machine

/-- A DONE command that names the kind in flight is an edge on the port's DONE line. -/
theorem namedDone_of_flying {p : Port} {o : Order} {ofKind : Order → Bool} (hf : p.inFlight = true) (hr : p.record = some o)
    (hk : ofKind o = true) {l : Fin 16} (hl : l.val ≤ 3 ∨ l.val = 14) (s : State) :
    namedDone ofKind p l s = edge l (accepted l true s) := by
  rw [namedDone, flying_of hf hr]
  exact (if_pos hk).trans (acceptEdge_eq hl s)

/-- The model's PROBE_MOVE to a point is the stated one. -/
theorem probeMove_probePoint (w : Verify) (i : Nat) :
    Order.probeMove (probePoint w i).1 (probePoint w i).2 = moveToPoint w i := by
  unfold probePoint along moveToPoint
  cases w.op.record.dir <;> rfl

theorem presentProbeMove_eq (w : Verify) (s : State) :
    presentProbeMove w s = (s.withPorts { s.ports with router := strobed (moveToPoint w w.index) s.ports.router }).withProbe
      { s.probe with state := .move, moveTimer := some 500 } := by
  rw [← probeMove_probePoint]; rfl

/-- A CUT formed and presented (R94, R100). -/
theorem presentOrHoldCut_ready {op : Operation} {s : State} (hl : latched s.faults = false)
    (hs : s.spindle.state = .atSpeed) : presentOrHoldCut op s = presentCut op s := by
  simp [presentOrHoldCut, cutMayPresent, hl, hs]

theorem presentOrHoldCut_held {op : Operation} {s : State}
    (h : latched s.faults = true ∨ s.spindle.state ≠ .atSpeed) : presentOrHoldCut op s = s := by
  rw [presentOrHoldCut, if_neg]
  rcases h with h | h <;> simp [cutMayPresent, h]

/-- The working record of a verify that begins (R116, R117). -/
def verifyBegun (op : Operation) (s : State) : Verify :=
  let ne := min s.probe.settings.points (max 1 (op.record.length / 25))
  { op := op, settings := s.probe.settings, ne := ne, ae := min s.probe.settings.allowance (ne - 1)
    index := 0, hits := 0, misses := 0, timer := none }

theorem verifySetup_work (op : Operation) (s : State) : (verifySetup op s).probe.work = some (verifyBegun op s) := rfl

/-- A verify outside mode OFF goes on to its first order (R116, R93). -/
theorem verifyGo_moves {rz : Raiser} {op : Operation} {s : State} (hm : s.probe.settings.mode ≠ .off) :
    verifyGo rz (verifySetup op s) = if s.router.clearance then presentMoveClear (verifySetup op s)
      else presentProbeMove (verifyBegun op s) (verifySetup op s) := by
  have hmode : (verifyBegun op s).settings.mode = s.probe.settings.mode := rfl
  simp only [verifyGo, verifySetup_work, hmode]
  cases h : s.probe.settings.mode with
  | off => exact absurd h hm
  | full | early => rfl

/-- Wear that crosses neither limit is added, and nothing follows (R101, R102). -/
theorem addWear_quiet {rz : Raiser} {dw : Nat} {s : State}
    (half : wearAfter dw s ≤ halfPoint s.router.life ∨ halfPoint s.router.life < s.router.wear)
    (life : wearAfter dw s < s.router.life) :
    addWear rz dw s = s.withRouter { s.router with wear := wearAfter dw s } := by
  rw [addWear_of_not_reachesLife (fun h => absurd h.2 (by omega)),
    wearAndWarn_of_not_crossesHalf (fun h => by obtain ⟨h1, h2⟩ := h; omega)]

/-- In mode FULL or EARLY, with the position known, that is the move to point 0 (R119). -/
theorem verifyGo_point {rz : Raiser} {op : Operation} {s : State} (hm : s.probe.settings.mode ≠ .off)
    (hc : s.router.clearance = false) :
    verifyGo rz (verifySetup op s) = ((s.withPorts
        { s.ports with router := strobed (moveToPoint (verifyBegun op s) 0) s.ports.router }).withProbe
        { s.probe with state := .move, work := some (verifyBegun op s), moveTimer := some 500 }).withRouter
        { s.router with state := .verify, operation := none, presented := false, timer := none } := by
  rw [verifyGo_moves hm, hc, if_neg (by decide), presentProbeMove_eq]
  rfl

/-- A completed CUT of the present panel: its tab VERIFYING, the move to point 0, and then the wear (R75, R101). -/
theorem completeCut_point {rz : Raiser} {op : Operation} {s : State} (ho : op.orphan = false)
    (hm : s.probe.settings.mode ≠ .off) (hc : s.router.clearance = false)
    (half : wearAfter (cutWear op.record) s ≤ halfPoint s.router.life ∨ halfPoint s.router.life < s.router.wear)
    (life : wearAfter (cutWear op.record) s < s.router.life) :
    completeCut rz op s = (((s.withPorts
        { s.ports with router := strobed (moveToPoint (verifyBegun op s) 0) (landed s.ports.router) }).withRouter
        { s.router with
          state := .verify, operation := none, presented := false, timer := none
          wear := wearAfter (cutWear op.record) s }).withProbe
        { s.probe with state := .move, work := some (verifyBegun op s), moveTimer := some 500 }).withSeq
        { s.seq with tabs := Table.modify op.tab (fun r => { r with state := .verifying }) s.seq.tabs } := by
  let t := setTab op.tab .verifying (s.withPorts { s.ports with router := Port.done s.ports.router })
  have hmt : t.probe.settings.mode ≠ .off := hm
  have go := verifyGo_point (rz := rz) (op := op) hmt hc
  rw [completeCut, ho]
  show addWear rz _ (verifyGo rz (verifySetup op t)) = _
  rw [go, addWear_quiet]
  · rfl
  · exact half
  · exact life

/-- Settles O28: the tab VERIFYING, the move to point 0, and then the wear. -/
theorem cutCompletes : Obligations.CutCompletes := by
  intro op x y dir length feed s hf hr hop horphan hmode hclear hardness wear half life ne w u hu
  refine exec_event rfl ?_ hu
  have hw : wearAfter (cutWear op.record) (accepted 0 true s) = wear := by
    unfold wearAfter cutWear ceilDiv Material.hardness
    simp only [wear, hardness]
    cases op.record.material <;> rfl
  have done : edge 0 (accepted 0 true s) = completeCut raise op (accepted 0 true s) := by
    show routerDone _ = _
    simp only [routerDone, accepted_ports, flying_of hf hr, accepted_router, hop]
  rw [← hw] at half life
  rw [namedDone_of_flying hf hr rfl (by decide), done, 
    completeCut_point (s := accepted 0 true s) horphan hmode hclear half life, hw]
  rfl

end Sys2Proof.Machine

/-! ### MOVE_CLEAR, the points of a verify, and an operation that ends early (R76, R77, R93, R94, R119 to R123) -/

namespace Sys2Proof.Machine

/-- What MOVE_CLEAR leaves for the order that waits behind it: the position known (R93). -/
def positionKnown (s : State) : State :=
  (s.withPorts { s.ports with router := landed s.ports.router }).withRouter { s.router with clearance := false, timer := none }

theorem completeMoveClear_eq (s : State) :
    completeMoveClear s =
      match s.router.state with
      | .idle => positionKnown s
      | .cut => match s.router.operation with
        | some op => presentOrHoldCut op (positionKnown s)
        | none => positionKnown s
      | .verify => match s.probe.work with
        | some w => presentProbeMove w (positionKnown s)
        | none => positionKnown s := rfl

theorem completeMoveClear_cut {op : Operation} {s : State} (hc : s.router.state = .cut) (ho : s.router.operation = some op) :
    completeMoveClear s = presentOrHoldCut op (positionKnown s) := by
  simp only [completeMoveClear_eq, hc, ho]

theorem completeMoveClear_verify {w : Verify} {s : State} (hv : s.router.state = .verify) (hw : s.probe.work = some w) :
    completeMoveClear s = presentProbeMove w (positionKnown s) := by
  simp only [completeMoveClear_eq, hv, hw]

/-- Settles O29. -/
theorem routerMovesComplete : Obligations.RouterMovesComplete := by
  refine ⟨fun op w s hf hr => ⟨fun hc ho hall hcut hs hu => exec_event rfl ?cut hu,
      fun hc ho h hu => exec_event rfl ?held hu, fun hv hw hu => exec_event rfl ?verify hu⟩,
    fun x y w s hf hr hw hu => exec_event rfl ?probe hu⟩
  case probe =>
    rw [namedDone_of_flying hf hr rfl (by decide)]
    show routerDone _ = _
    simp only [routerDone, accepted_ports, flying_of hf hr, completeProbeMove, State.withPorts_probe, accepted_probe, hw]
    rfl
  all_goals
    have done : edge 0 (accepted 0 true s) = completeMoveClear (accepted 0 true s) := by
      show routerDone _ = _
      simp only [routerDone, accepted_ports, flying_of hf hr]
    rw [namedDone_of_flying hf hr rfl (by decide), done]
  case cut =>
    have unlatched : latched s.faults = false := by simp [latched, hall, hcut]
    rw [completeMoveClear_cut (s := accepted 0 true s) hc ho,
      presentOrHoldCut_ready (s := positionKnown (accepted 0 true s)) unlatched hs]
    rfl
  case held =>
    have blocked : latched s.faults = true ∨ s.spindle.state ≠ .atSpeed := by
      simpa [latched, or_assoc] using h
    rw [completeMoveClear_cut (s := accepted 0 true s) hc ho,
      presentOrHoldCut_held (s := positionKnown (accepted 0 true s)) blocked]
    rfl
  case verify =>
    rw [completeMoveClear_verify (s := accepted 0 true s) hv hw, presentProbeMove_eq]
    rfl

/-- A point read: a hit where the beam is made, a miss otherwise (R121). -/
def pointRead (w : Verify) (beam : Bool) : Verify :=
  { w with hits := if beam then w.hits + 1 else w.hits, misses := if beam then w.misses else w.misses + 1, timer := none }

theorem checkPoint_eq {rz : Raiser} {w : Verify} {s : State} (hw : s.probe.work = some w) :
    checkPoint rz s =
      let w' := pointRead w (asserted s 6)
      let t := s.withProbe { s.probe with state := .check, work := some w' }
      match probeDecision w' with
      | some v => giveVerdict rz w' w'.ne w'.hits w'.misses v t
      | none => presentProbeMove { w' with index := w'.index + 1 }
          (t.withProbe { t.probe with work := some { w' with index := w'.index + 1 } }) := by
  simp only [checkPoint, hw]
  cases asserted s 6 <;> rfl

/-- The readings decide (R122): in EARLY at the first miss past the allowance, and in any mode at point Ne. -/
def readingsDecide (w : Verify) : Prop :=
  if w.settings.mode = .early ∧ w.ae < w.misses then True else w.ne ≤ w.hits + w.misses

theorem probeDecision_undecided {w : Verify} (hm : w.settings.mode ≠ .off) (h : ¬ readingsDecide w) :
    probeDecision w = none := by
  unfold readingsDecide at h
  unfold probeDecision
  cases hw : w.settings.mode with
  | off => exact absurd hw hm
  | full =>
    have : w.hits + w.misses < w.ne := by simpa [hw] using h
    simp [this]
  | early =>
    have : w.misses ≤ w.ae ∧ w.hits + w.misses < w.ne := by simpa [hw] using h
    simp [this]

theorem probeDecision_decided {w : Verify} (hm : w.settings.mode ≠ .off) (h : readingsDecide w) :
    probeDecision w = some (if w.misses ≤ w.ae then .severed else .uncut) := by
  unfold readingsDecide at h
  unfold probeDecision
  cases hw : w.settings.mode with
  | off => exact absurd hw hm
  | full =>
    have all : w.ne ≤ w.hits + w.misses := by simpa [hw] using h
    simp only [Nat.not_lt.2 all, if_false]
    split <;> rfl
  | early =>
    by_cases many : w.ae < w.misses
    · simp [many, Nat.not_le.2 many]
    · have all : w.ne ≤ w.hits + w.misses := by simpa [hw, many] using h
      simp [many, Nat.not_lt.2 all, Nat.not_lt.1 many]

/-- Settles O30. -/
theorem settledPointIsRead : Obligations.SettledPointIsRead := by
  intro w ms s hstate hw ht hmode severed hits misses decided
  have run : settling s = true := by simp [settling, hstate, hw, ht]
  have beam : asserted s 6 = decide severed := Bool.eq_iff_iff.2 (by simp [asserted, severed])
  have read : pointRead w (asserted s 6) = { w with hits := hits, misses := misses, timer := none } := by
    by_cases h : severed <;> simp [pointRead, beam, hits, misses, h]
  refine ⟨fun h hu => exec_event rfl ?next hu, fun h hu => exec_event rfl ?verdict hu⟩
  all_goals rw [if_pos run, checkPoint_eq hw, read]
  case next =>
    have undecided := probeDecision_undecided (w := { w with hits := hits, misses := misses, timer := none }) hmode h
    simp only [undecided, presentProbeMove_eq]
    rfl
  case verdict =>
    have decides := probeDecision_decided (w := { w with hits := hits, misses := misses, timer := none }) hmode h
    simp only [decides]
    rfl

/-- The order in flight stopped, the position unknown, the router and the probe IDLE (R76, R77, R93). -/
theorem dropRouter_flying {s : State} (hf : s.ports.router.inFlight = true) :
    dropRouter s = ((s.withPorts { s.ports with router := stopped s.ports.router }).withRouter
      { s.router with state := .idle, operation := none, presented := false, timer := none, clearance := true }).withProbe
      { s.probe with state := .idle, work := none, moveTimer := none } := by
  simp only [dropRouter, stopRouterPort, Port.stop, hf, if_true]
  rfl

/-- What a timeout raises, where the operation ends by one (R93, R95, R119). -/
def timedOut (raise : Raiser) (timeout : Bool) (t : Fin 256) (s : State) : State :=
  if timeout then raise Source.routerTimeout (.tab t) s else s

theorem interruptRouter_cut {rz : Raiser} {timeout : Bool} {op : Operation} {s : State} (hc : s.router.state = .cut)
    (ho : s.router.operation = some op) :
    interruptRouter rz timeout s = tabInterrupted rz true op
      (if s.router.presented then addWear rz ((cutWear op.record + 1) / 2) (timedOut rz timeout op.tab (dropRouter s))
        else timedOut rz timeout op.tab (dropRouter s)) := by
  simp only [interruptRouter, hc, ho]
  rfl

theorem interruptRouter_verify {rz : Raiser} {timeout : Bool} {w : Verify} {s : State} (hv : s.router.state = .verify)
    (hw : s.probe.work = some w) :
    interruptRouter rz timeout s = tabInterrupted rz false w.op (timedOut rz timeout w.op.tab (dropRouter s)) := by
  simp only [interruptRouter, hv, hw]
  rfl

/-- Settles O32. -/
theorem routerInterruptions : Obligations.RouterInterruptions := by
  refine ⟨fun op w o s hf hr ht => ⟨fun hc ho hp hk hu => exec_event rfl ?cut hu,
      fun hc ho hp hk hu => exec_event rfl ?clear hu, fun hv hw hk hu => exec_event rfl ?verifyClear hu,
      fun hv hw hk hu => exec_event rfl ?verify hu⟩,
    fun op s ho hn hs => ?tab⟩
  case tab =>
    have kept : heldUnderStop s op = false := by simp [heldUnderStop, hs]
    refine ⟨?_, fun h => ?_, fun h => ?_⟩
    · simp [tabInterrupted, ho, hn, kept, setTab, modTab]
    · simp [tabInterrupted, ho, hn, kept, setTab, modTab, Nat.not_le.2 h]
    · simp [tabInterrupted, ho, hn, kept, h]
  all_goals
    have times {ofKind : Order → Bool} (hk : ofKind o = true) : routerTimes ofKind s = true := by
      simpa [routerTimes, flying_of hf hr, hk] using ht
  case cut =>
    obtain ⟨x, y, dir, l, f, rfl⟩ := hk
    rw [if_pos (times rfl), interruptRouter_cut hc ho, if_pos hp, dropRouter_flying hf]
    rfl
  case clear =>
    rw [if_pos (times (by rw [hk]; rfl)), interruptRouter_cut hc ho, if_neg (by simp [hp]), dropRouter_flying hf]
    rfl
  case verifyClear =>
    rw [if_pos (times (by rw [hk]; rfl)), interruptRouter_verify hv hw, dropRouter_flying hf]
    rfl
  case verify =>
    obtain ⟨x, y, rfl⟩ := hk
    rw [if_pos (times rfl), interruptRouter_verify hv hw, dropRouter_flying hf]
    rfl

end Sys2Proof.Machine

/-! ### The tach and the spindle's timers (R103 to R110) -/

namespace Sys2Proof.Machine

theorem tachRises_late {time : Nat} {s : State}
    (h : s.spindle.lastEdge = none ∨ ∃ t, s.spindle.lastEdge = some t ∧ 50000 < time - t) :
    tachRises time s = noteEdge time s := by
  unfold tachRises
  rcases h with h | ⟨t, h, late⟩
  · simp only [h]
  · simp only [h, if_neg (Nat.not_le.2 late)]

/-- The spindle after an edge that measures a speed (R104, R109). -/
def measured (time rpm : Nat) (p : Spindle) : Spindle :=
  { p with
    lastEdge := some time, edgeCounts := decide (p.state = .spinup) && p.stabilise.isNone
    watch := if p.watch = .disarmed then .armed else p.watch, rpm := rpm }

/-- A period within 50 ms is measured (R104). -/
theorem tachRises_period {time last : Nat} {s : State} (h : s.spindle.lastEdge = some last) (pos : 0 < time - last)
    (within : time - last ≤ 50000) :
    tachRises time s = sagPeriod (60000000 / (time - last)) (qualifyPeriod s.spindle.edgeCounts (60000000 / (time - last))
      (s.withSpindle (measured time (60000000 / (time - last)) s.spindle))) := by
  have hne : time - last ≠ 0 := by omega
  simp only [tachRises, h, if_pos within, measurePeriod, periodRpm, if_neg hne]
  rfl

theorem sagPeriod_away {rpm : Nat} {s : State} (h : s.router.state ≠ .cut) : sagPeriod rpm s = s := by
  simp [sagPeriod, cutInFlight, h]

/-- A period of the CUT in flight whose eighth sagging period is not past (R110). -/
theorem sagPeriod_cut {rpm : Nat} {op : Operation} {s : State} (h : cutInFlight s = some op) (h8 : s.router.sag < 8) :
    sagPeriod rpm s =
      if rpm * 10 < 9 * s.spindle.setpoint then
        if s.router.sag = 7 then raise Source.spindleSag (.tab op.tab) (s.withRouter { s.router with sag := 8 })
        else s.withRouter { s.router with sag := s.router.sag + 1 }
      else s.withRouter { s.router with sag := 0 } := by
  simp only [sagPeriod, h, if_neg (Nat.not_le.2 h8)]
  by_cases slow : rpm * 10 < 9 * s.spindle.setpoint
  · by_cases h7 : s.router.sag = 7
    · simp [sagging, slow, h7]
    · simp [sagging, slow, h7, show ¬ 7 ≤ s.router.sag by omega]
  · simp [sagging, slow]

theorem qualifyPeriod_away {counted : Bool} {rpm : Nat} {s : State} (h : s.spindle.state ≠ .spinup) :
    qualifyPeriod counted rpm s = s := by
  simp [qualifyPeriod, h]

theorem qualifyPeriod_counted {rpm : Nat} {s : State} (h : s.spindle.state = .spinup) (hs : s.spindle.stabilise = none) :
    qualifyPeriod true rpm s =
      let n := if inTolerance rpm s.spindle.setpoint then s.spindle.qualify + 1 else 0
      if 3 ≤ n then reachSpeed (s.withSpindle { s.spindle with qualify := n })
      else s.withSpindle { s.spindle with qualify := n } := by
  simp only [qualifyPeriod, h, hs]
  rfl

theorem inTolerance_iff (rpm setpoint : Nat) :
    inTolerance rpm setpoint = true ↔ (rpm - setpoint) * 100 ≤ 3 * setpoint ∧ (setpoint - rpm) * 100 ≤ 3 * setpoint := by
  simp [inTolerance]

/-- A cell that does not wake takes no part in the spindle's reaching its speed (R63). -/
theorem reachSpeed_awake {s : State} (h : s.cell.mode ≠ .waking) :
    reachSpeed s = s.withSpindle { s.spindle with
      state := .atSpeed, stabilise := none, deadline := none
      watch := if s.spindle.watch = .delay then .armed else s.spindle.watch } := by
  rw [reachSpeed_eq]
  unfold wakeComplete
  split
  · next hw _ => exact absurd hw h
  · rfl

/-- Settles O33. -/
theorem tachEdges : Obligations.TachEdges := by
  refine ⟨fun time last s hs => ⟨fun h hu => exec_event rfl ?late hu, fun hl pos within hr hu => exec_event rfl ?period hu⟩,
    fun time last s hs hst hc hl pos within hr hm => ⟨fun h hq hu => exec_event rfl ?fast hu,
      fun h hq hu => exec_event rfl ?counts hu, fun h hu => exec_event rfl ?again hu⟩⟩
  case late =>
    rw [tachRises_late h]
    simp [noteEdge, hs]
  case period =>
    rw [tachRises_period hl pos within, qualifyPeriod_away, sagPeriod_away]
    · simp [measured, hs]
    · exact hr
    · exact hs
  all_goals
    let t := s.withSpindle (measured time (60000000 / (time - last)) s.spindle)
    have seen : t.spindle = { s.spindle with
        lastEdge := some time, edgeCounts := true, rpm := 60000000 / (time - last)
        watch := if s.spindle.watch = .disarmed then .armed else s.spindle.watch } := by
      simp [t, measured, hs, hst]
    have ht : t.spindle.state = .spinup := hs
    have hsp : t.spindle.setpoint = s.spindle.setpoint := rfl
    have hqt : t.spindle.qualify = s.spindle.qualify := rfl
    rw [tachRises_period hl pos within, hc, qualifyPeriod_counted (s := t) ht hst, hsp, hqt]
  case fast =>
    rw [if_pos ((inTolerance_iff _ _).2 h), hq]
    dsimp only
    rw [if_pos (by decide), reachSpeed_awake, sagPeriod_away, seen]
    · rfl
    · exact hr
    · exact hm
  case counts =>
    rw [if_pos ((inTolerance_iff _ _).2 h)]
    dsimp only
    rw [if_neg (by omega), sagPeriod_away, seen]
    · rfl
    · exact hr
  case again =>
    rw [if_neg (mt (inTolerance_iff _ _).1 h)]
    dsimp only
    rw [if_neg (by decide), sagPeriod_away, seen]
    · rfl
    · exact hr

/-- Settles O34. -/
theorem spindleWatches : Obligations.SpindleWatches := by
  refine ⟨fun ms s => ⟨fun h hu => exec_event rfl ?stabilise hu, fun h hd hu => exec_event rfl ?deadline hu,
      fun h hm hu => exec_event rfl ?coast hu, fun m h hm hr hu => exec_event rfl ?parked hu,
      fun h hw hu => exec_event rfl ?lost hu, fun h hw hu => exec_event rfl ?lostSpinup hu,
      fun h hu => exec_event rfl ?arm hu⟩,
    fun rpm op s hr hp hf ho => ?sag, fun s => ⟨fun h => ?start, fun h => ?stop⟩⟩
  case stabilise => rw [h]; rfl
  case deadline => rw [if_pos (by simp [h, hd])]
  case coast =>
    rw [if_pos h]
    exact if_neg hm
  case parked =>
    rw [if_pos h]
    dsimp only
    rw [if_pos (by exact hm), raiseParked]
    simp [hr, optByte]
  case lost =>
    rw [if_pos (by simp [watchArmed, h, hw]), tachSilent, if_pos h]
    rfl
  case lostSpinup => rw [if_pos (by simp [watchArmed, h, hw]), tachSilent, if_neg (by simp [h])]
  case arm => rcases h with h | h <;> rw [h]
  case sag =>
    have flies : cutInFlight s = some op := by simp [cutInFlight, hr, hp, hf, ho]
    refine ⟨fun h7 hs => ?_, fun h7 hs => ?_, fun h8 hs => ?_, fun h8 => ?_⟩
    · rw [sagPeriod_cut flies (by omega), if_pos hs, if_neg (by omega)]
    · rw [sagPeriod_cut flies (by omega), if_pos hs, if_pos h7]
    · rw [sagPeriod_cut flies h8, if_neg (by omega)]
    · simp only [sagPeriod, flies, if_pos h8]
  case start =>
    rcases h with h | h
    · exact ⟨by simp only [startSpindle, h]; rfl, by simp only [stopSpindle, h]⟩
    · exact ⟨by simp only [startSpindle, h]; rfl, by simp only [stopSpindle, h]⟩
  case stop =>
    rcases h with h | h
    · exact ⟨by simp only [startSpindle, h], by simp only [stopSpindle, h]; rfl⟩
    · exact ⟨by simp only [startSpindle, h], by simp only [stopSpindle, h]; rfl⟩

end Sys2Proof.Machine

/-! ### The picker's moves and timers (R129 to R138, R145) -/

namespace Sys2Proof.Machine

theorem boardState_congr {s t : State} (h : s.seq = t.seq) (b : Fin 64) : boardState s b = boardState t b := by
  simp only [boardState, boardRun, h]

/-- A picker that goes home (R129, R137 to R139). -/
theorem enterReturning_eq (s : State) : enterReturning s = homeward s := by
  unfold enterReturning dueMove homeward
  cases h : s.faults.allStop <;> simp only [State.withPicker_faults, h] <;> rfl

/-- A grip begins: the vacuum on and the grip timer running (R131). -/
def gripBegun (s : State) : State :=
  (s.withPicker { s.picker with gripTimer := some s.picker.gripTime, vacOffTimer := none }).withOutputs
    { s.outputs with vacuumOn := true }

theorem startGrip_eq (s : State) : startGrip s = if asserted s 5 then gripped (gripBegun s) else gripBegun s := rfl

/-- GRIPPING entered by an arrival (R130). -/
def gripEntered (s : State) : State := gripBegun (s.withPicker { s.picker with state := .gripping, retry := false })

theorem enterGrip_eq (s : State) :
    enterGrip s = if asserted s 5 then gripped (gripEntered s) else gripEntered s := rfl

/-- A board gripped is HELD (R133). -/
theorem gripped_ready {b : Fin 64} {s : State} (hb : s.picker.board = some b) (hr : boardState s b = some .ready) :
    gripped s = setBoard b .held (s.withPicker { s.picker with state := .holding, gripTimer := none }) := by
  have kept : boardState (s.withPicker { s.picker with state := .holding, gripTimer := none }) b = some .ready := hr
  simp only [gripped, State.withPicker_picker, hb]
  exact if_pos kept

/-- The picker when its move has ended (R129). -/
def arrived (s : State) : State :=
  (s.withPorts { s.ports with picker := landed s.ports.picker }).withPicker { s.picker with moveTimer := none }

theorem completeMove_eq (s : State) :
    completeMove s =
      match s.picker.state with
      | .approach => if s.picker.withdrawn then homeward (arrived s) else enterGrip (arrived s)
      | .carrying =>
        match s.picker.board with
        | some _ => ((arrived s).withOutputs { s.outputs with vacuumOn := false, blowOff := true }).withPicker
            { (arrived s).picker with state := .placing, blowTimer := some s.picker.blowTime }
        | none => homeward (arrived s)
      | .returning => (arrived s).withPicker { (arrived s).picker with
          state := .idle, board := none, serial := none, nest := none, target := none
          retry := false, withdrawn := false, stalled := false }
      | .idle | .gripping | .holding | .placing => arrived s := by
  simp only [← enterReturning_eq]
  rfl

section
variable {s : State}

theorem completeMove_withdrawn (h : s.picker.state = .approach) (hw : s.picker.withdrawn = true) :
    completeMove s = homeward (arrived s) := by
  simp only [completeMove_eq, h, hw, if_true]

theorem completeMove_approach (h : s.picker.state = .approach) (hw : s.picker.withdrawn = false) :
    completeMove s = enterGrip (arrived s) := by
  simp only [completeMove_eq, h, hw, Bool.false_eq_true, if_false]

theorem completeMove_carried {b : Fin 64} (h : s.picker.state = .carrying) (hb : s.picker.board = some b) :
    completeMove s = ((arrived s).withOutputs { s.outputs with vacuumOn := false, blowOff := true }).withPicker
      { (arrived s).picker with state := .placing, blowTimer := some s.picker.blowTime } := by
  simp only [completeMove_eq, h, hb]

theorem completeMove_empty (h : s.picker.state = .carrying) (hb : s.picker.board = none) :
    completeMove s = homeward (arrived s) := by
  simp only [completeMove_eq, h, hb]

theorem completeMove_home (h : s.picker.state = .returning) :
    completeMove s = (arrived s).withPicker { (arrived s).picker with
      state := .idle, board := none, serial := none, nest := none, target := none
      retry := false, withdrawn := false, stalled := false } := by
  simp only [completeMove_eq, h]

theorem pickerDone_flying (hf : s.ports.picker.inFlight = true) :
    edge 1 (accepted 1 true s) = completeMove (accepted 1 true s) := if_pos hf

end

/-- Settles O39. -/
theorem pickerMovesComplete : Obligations.PickerMovesComplete := by
  refine ⟨fun x y h b s hf hr hstate hb => ⟨fun hw hv hu => exec_event rfl ?grips hu,
      fun hw hv hready hu => exec_event rfl ?holds hu, fun hw hu => exec_event rfl ?withdrawn hu⟩,
    fun n s hf hr hstate => ⟨fun hb hu => exec_event rfl ?places hu, fun hb hu => exec_event rfl ?lost hu⟩,
    fun s hf hr hstate hu => exec_event rfl ?home hu⟩
  all_goals rw [namedDone_of_flying hf hr rfl (by decide), pickerDone_flying hf]
  case grips =>
    have silent : asserted (arrived (accepted 1 true s)) 5 = false :=
      (asserted_accepted (by decide) true s).trans ((not_asserted_iff s 5).2 hv)
    rw [completeMove_approach (s := accepted 1 true s) hstate hw, enterGrip_eq, silent]
    rfl
  case holds =>
    have made : asserted (arrived (accepted 1 true s)) 5 = true :=
      (asserted_accepted (by decide) true s).trans ((asserted_iff s 5).2 hv)
    have hb' : (gripEntered (arrived (accepted 1 true s))).picker.board = some b := hb
    have ready : boardState (gripEntered (arrived (accepted 1 true s))) b = some .ready := by
      rw [boardState_congr (t := s) (by simp [gripEntered, gripBegun, arrived]) b, hready]
    rw [completeMove_approach (s := accepted 1 true s) hstate hw, enterGrip_eq, made, if_pos rfl, gripped_ready hb' ready]
    rfl
  case withdrawn =>
    rw [completeMove_withdrawn (s := accepted 1 true s) hstate hw]
    rfl
  case places =>
    obtain ⟨b, hb⟩ := Option.isSome_iff_exists.1 hb
    rw [completeMove_carried (s := accepted 1 true s) hstate hb]
    rfl
  case lost =>
    rw [completeMove_empty (s := accepted 1 true s) hstate hb]
    rfl
  case home =>
    rw [completeMove_home (s := accepted 1 true s) hstate]
    rfl

/-- The blow-off ended, with the nest window running (R137). -/
def blown (s : State) : State :=
  (s.withOutputs { s.outputs with blowOff := false }).withPicker { s.picker with blowTimer := none, windowTimer := some 200 }

theorem blowEnds_eq {b : Fin 64} {n : Fin 3} {s : State} (hb : s.picker.board = some b) (hn : s.picker.nest = some n) :
    blowEnds s = if asserted s (nestLine n) then placementConfirmed b n (blown s) else blown s := by
  have hb' : (blown s).picker.board = some b := hb
  have hn' : (blown s).picker.nest = some n := hn
  have whole : blowEnds s = match (blown s).picker.board, (blown s).picker.nest with
    | some b, some n => if asserted (blown s) (nestLine n) then placementConfirmed b n (blown s) else blown s
    | _, _ => blown s := rfl
  rw [whole, hb', hn']
  rfl

/-- Settles O40. -/
theorem pickerTimers : Obligations.PickerTimers := by
  refine fun ms b n s hb => ⟨fun hf ht hu => exec_event rfl ?move hu, fun hs ht hr hu => exec_event rfl ?pause hu,
    fun hs ht hr hu => exec_event rfl ?fails hu, fun hs ht hv hu => exec_event rfl ?again hu,
    fun hs ht hn => ⟨fun hv hu => exec_event rfl ?window hu, fun hv hu => exec_event rfl ?placed hu⟩,
    fun hs ht hn hu => exec_event rfl ?missed hu⟩
  case move =>
    rw [if_pos (by simp [hf, ht])]
    simp [pickerDetail, hb, stallMove, hf, Port.stop, stopped]
  case pause =>
    rw [if_pos (by simp [hs, ht]), hr, if_neg (by decide)]
    simp [vacuumPause, setVacuum, hs]
  case fails =>
    rw [if_pos (by simp [hs, ht]), hr, if_pos rfl]
    simp only [gripFails, hb, enterReturning_eq]
    rfl
  case again =>
    rw [if_pos (by simp [hs, ht]), startGrip_eq, (not_asserted_iff s 5).2 hv]
    rfl
  case window =>
    rw [if_pos (by simp [hs, ht])]
    rw [blowEnds_eq hb hn, (not_asserted_iff s (nestLine n)).2 hv]
    rfl
  case placed =>
    rw [if_pos (by simp [hs, ht]), blowEnds_eq hb hn, (asserted_iff s (nestLine n)).2 hv]
    rfl
  case missed =>
    rw [if_pos (by simp [hs, ht])]
    simp only [windowEnds, hb, hn, placementRefused, enterReturning_eq]

end Sys2Proof.Machine

/-! ### What the Run Sequencer makes of an outcome (R51, R88, R89, R144) -/

namespace Sys2Proof.Machine

/-- The Run Sequencer after the outcome of a QUEUED board (R51, R89). -/
def outcomeSeq (serial : Serial) (b : Fin 64) (tally : PanelRec → PanelRec) (becomes : BoardRun → BoardRun)
    (q : Sequencer) : Sequencer :=
  { q with
    records := q.records.map fun r => if r.serial = serial then tally { r with outstanding := r.outstanding - 1 } else r
    boards := if q.runOf = some serial then Table.modify b becomes q.boards else q.boards }

theorem reportOutcome_eq (serial : Serial) (b : Fin 64) (tally : PanelRec → PanelRec) (f : BoardRun → BoardRun) (s : State) :
    reportOutcome serial b tally f s = s.withSeq (outcomeSeq serial b tally f s.seq) := by
  by_cases h : s.seq.runOf = some serial <;> simp [reportOutcome, tallySerial, modRecords, modBoard, outcomeSeq, h]

theorem reportLost_eq (serial : Serial) (b : Fin 64) (s : State) :
    reportLost serial b s = s.withSeq
      (outcomeSeq serial b (fun r => { r with lost := r.lost + 1 }) (fun r => { r with state := .lost }) s.seq) :=
  reportOutcome_eq ..

theorem reportChuted_eq (serial : Serial) (b : Fin 64) (s : State) :
    reportChuted serial b s = s.withSeq
      (outcomeSeq serial b (fun r => { r with chuted := r.chuted + 1 }) (fun r => { r with state := .chuted }) s.seq) :=
  reportOutcome_eq ..

theorem reportStacked_eq (serial : Serial) (b : Fin 64) (x : Bay) (slot : Nat) (s : State) :
    reportStacked serial b x slot s = s.withSeq (outcomeSeq serial b (fun r => { r with stacked := r.stacked + 1 })
      (fun r => { r with state := .stacked, bay := some x, slot := some slot }) s.seq) :=
  reportOutcome_eq ..

theorem Table.modify_modify {n : Nat} {α : Type} (i : Fin n) (f g : α → α) (t : Table n α) :
    Table.modify i g (Table.modify i f t) = Table.modify i (g ∘ f) t := by
  induction t with
  | nil => rfl
  | cons e t ih =>
    obtain ⟨k, x⟩ := e
    by_cases h : k = i <;> simp [Table.modify, h, ih]

theorem releaseReservation_eq (b : Fin 64) (s : State) :
    releaseReservation b s =
      (s.withNests (s.nests.filter fun e => !decide (e.board = b ∧ e.state = .reserved))).withSeq
        { s.seq with boards := Table.modify b (fun r => { r with nest := none }) s.seq.boards } := by
  simp [releaseReservation, modBoard]

theorem boardLostEarly_eq (b : Fin 64) (s : State) :
    boardLostEarly b s =
      (s.withNests (s.nests.filter fun e => !decide (e.board = b ∧ e.state = .reserved))).withSeq
        { s.seq with
          boards := Table.modify b (fun r => { r with nest := none, state := .lost }) s.seq.boards
          records := s.seq.records.map fun p => if p.state = .cutting then { p with lost := p.lost + 1 } else p } := by
  rw [boardLostEarly, releaseReservation_eq]
  simp only [setBoard, modBoard, tallyCutting, modRecords, State.withSeq_seq, State.withSeq_nests,
    Table.modify_modify, decide_eq_true_eq]
  rfl

end Sys2Proof.Machine

/-! ### Transfer orders, the chute and the nest lines (R137, R146, R147, R155, R159, R164, R167, R168) -/

namespace Sys2Proof.Machine

theorem freeToMove_iff (s : State) : freeToMove s = true ↔ mayMove s := by
  simp only [freeToMove, mayMove, recordIn, Bool.and_eq_true, Bool.not_eq_true', List.any_eq_false, Bool.and_eq_true,
    decide_eq_true_eq]
  refine and_congr_right fun _ => forall₂_congr fun r _ => ?_
  rw [inRange, Bool.and_eq_true, decide_eq_true_eq, decide_eq_true_eq, not_and_or, Nat.not_le, Nat.not_le]

/-- The transfer port when its order has ended (R155). -/
def transferred (s : State) : State :=
  (s.withPorts { s.ports with transfer := landed s.ports.transfer }).withStacker { s.stacker with transferTimer := none }

section
variable {s : State} (hf : s.ports.transfer.inFlight = true)
include hf

theorem completeTransfer_fromNest {n : Fin 3} (hr : s.ports.transfer.record = some (.fromNest n)) :
    completeTransfer s = completeFromNest (transferred s) := by
  simp only [completeTransfer, flying_of hf hr]; rfl

theorem completeTransfer_toMouth (hr : s.ports.transfer.record = some .toMouth) :
    completeTransfer s = completeToMouth (transferred s) := by
  simp only [completeTransfer, flying_of hf hr]; rfl

theorem completeTransfer_toChute (hr : s.ports.transfer.record = some .toChute) :
    completeTransfer s = completeToChute (transferred s) := by
  simp only [completeTransfer, flying_of hf hr]; rfl

end

/-- Settles O47. -/
theorem chuteDiverts : Obligations.ChuteDiverts := by
  refine fun h ms s hh => ⟨fun hf hr hu => exec_event rfl ?chute hu, fun hg hw hu => exec_event rfl ?passed hu,
    fun hg hu => exec_event rfl ?shut hu, fun hw hu => exec_event rfl ?missed hu⟩
  case chute =>
    rw [namedDone_of_flying hf hr rfl (by decide)]
    exact (completeTransfer_toChute (s := accepted 2 true s) hf hr).trans rfl
  case passed =>
    rw [acceptEdge_eq (by decide)]
    show chutePassed _ = _
    simp [chutePassed, hh, hg, hw, endDivert, stackerIdle, reportChuted_eq]
  case shut =>
    rw [acceptEdge_eq (by decide)]
    show chutePassed _ = _
    simp [chutePassed, hh, hg]
  case missed =>
    rw [if_pos (by simp [hw])]
    simp only [chuteMissed, hh]
    rfl

/-- Settles O48. -/
theorem stackerOrdersTimeOut : Obligations.StackerOrdersTimeOut := by
  refine fun h x height ms o s hh => ⟨fun hf hr ht hu => exec_event rfl ?transfer hu,
    fun hf hr ht hu => exec_event rfl ?elevator hu⟩
  case transfer =>
    rw [if_pos (by simp [ht])]
    simp [transferTimesOut, flying_of hf hr, hh, Port.stop, hf, stopped]
  case elevator =>
    rw [if_pos (by simp [ht])]
    simp [elevatorTimesOut, flying_of hf hr, Port.stop, hf, stopped]

/-- A line that no consumer follows is only stored (R164). -/
theorem acceptLine_stored {l : Fin 16} (h : l = 6 ∨ l = 8) (v : Bool) (s : State) : acceptLine l v s = accepted l v s := by
  have change (u : State) : levelChange l v u = u := by rcases h with rfl | rfl <;> rfl
  have edges (u : State) : edge l u = u := by rcases h with rfl | rfl <;> rfl
  simp only [acceptLine, setDed_accept, handOver, change, edges, ite_self]
  split <;> simp

/-- DOOR_CLOSED is handed over at its first acceptance too (R165, R168). -/
theorem acceptLine_door {s : State} (h : (getAt s.lines.ded 15).filter.level ≠ some false) :
    acceptLine 15 false s = raise Source.doorOpen (.line 15) (accepted 15 false s) := by
  simp only [acceptLine, setDed_accept, handOver, Bool.false_and, Bool.false_eq_true, if_false]
  cases hl : (getAt s.lines.ded 15).filter.level with
  | none => rfl
  | some v =>
    cases v with
    | false => exact absurd hl h
    | true => rfl

/-- Settles O51. -/
theorem linesAreHandedOver : Obligations.LinesAreHandedOver := by
  refine fun v l s => ⟨fun h hu => exec_event rfl ?opens hu, fun hu => exec_event rfl ?closes hu,
    fun h hu => exec_event rfl ?drive hu, fun h hu => exec_event rfl ?driveGone hu,
    fun h hu => exec_event rfl ?door hu, fun h hu => exec_event rfl ?doorShut hu,
    fun h hu => exec_event rfl (acceptLine_stored h v s) hu⟩
  case opens => simp [acceptStop, h, Filter.accept_eq]
  case closes => simp [acceptStop, Filter.accept_eq]
  case drive => rw [acceptLine_low h]; rfl
  case driveGone => rw [acceptLine_high h]; rfl
  case door => exact acceptLine_door h
  case doorShut => rw [acceptLine_low h]; rfl

/-! ### The nest lines -/

/-- An assertion of a nest line (R147). -/
theorem acceptLine_nest_low {n : Fin 3} {s : State} (h : low s (nestLine n)) :
    acceptLine (nestLine n) true s = nestAsserted n (accepted (nestLine n) true s) := by
  rw [acceptLine_low h]
  match n with
  | 0 => rfl
  | 1 => rfl
  | 2 => rfl

/-- A deassertion of a nest line (R146, R147). -/
theorem acceptLine_nest_high {n : Fin 3} {s : State} (h : (getAt s.lines.ded (nestLine n)).filter.level = some true) :
    acceptLine (nestLine n) false s = nestDeasserted n (accepted (nestLine n) false s) := by
  rw [acceptLine_high h]
  match n with
  | 0 => rfl
  | 1 => rfl
  | 2 => rfl

theorem placingOn_away {s : State} (h : s.picker.state ≠ .placing) (n : Fin 3) : placingOn s n = false := by
  simp [placingOn, h]

theorem placingOn_accepted (l : Fin 16) (v : Bool) (s : State) (n : Fin 3) :
    placingOn (accepted l v s) n = placingOn s n := rfl

theorem fetchingFrom_away {s : State} (h : s.stacker.state ≠ .fetch) (n : Fin 3) : fetchingFrom s n = none := by
  unfold fetchingFrom
  split
  · simp [h]
  · rfl

/-- A deassertion on a nest that nothing is placed on or fetched from (R147). -/
theorem nestDeasserted_away {n : Fin 3} {s : State} (hp : s.picker.state ≠ .placing) (hf : s.stacker.state ≠ .fetch) :
    nestDeasserted n s =
      let alarm := raise Source.nestMismatch (.nest n) s
      match occupiedOn alarm n with
      | some e => nestTaken e alarm
      | none => alarm := by
  simp only [nestDeasserted, placingOn_away hp, fetchingFrom_away hf, Bool.false_eq_true, if_false] <;> rfl

/-- Settles O43. -/
theorem nestLinesChange : Obligations.NestLinesChange := by
  refine ⟨fun n e s hp hst => ⟨fun hl hu => exec_event rfl ?alarm hu,
      fun hl => ⟨fun hq hu => exec_event rfl ?gone hu, fun hq hu => exec_event rfl ?taken hu⟩⟩,
    fun n b e h others s => ⟨fun hl hp hn hb hw hq hu => exec_event rfl ?placed hu,
      fun hl hp hs hn he hh hhn hst hc hu => exec_event rfl ?fetched hu⟩⟩
  case alarm =>
    rw [acceptLine_nest_low hl, nestAsserted, placingOn_accepted, placingOn_away hp, if_neg (by decide)]
  case gone =>
    have none_on : occupiedOn (raise Source.nestMismatch (.nest n) (accepted (nestLine n) false s)) n = none := by
      simpa [occupiedOn, ← not_and_or] using hq
    rw [acceptLine_nest_high hl, nestDeasserted_away (s := accepted (nestLine n) false s) hp hst]
    simp only [none_on]
  case taken =>
    have on : occupiedOn (raise Source.nestMismatch (.nest n) (accepted (nestLine n) false s)) n = some e := by
      simpa [occupiedOn] using hq
    have he : e.nest = n := by
      have := List.find?_some hq
      simp only [decide_eq_true_eq] at this
      exact this.1
    rw [acceptLine_nest_high hl, nestDeasserted_away (s := accepted (nestLine n) false s) hp hst]
    simp only [on, nestTaken, he]
  case placed =>
    obtain ⟨w, hw⟩ := Option.isSome_iff_exists.1 hw
    have placing : placingOn (accepted (nestLine n) true s) n = true := by
      simpa [placingOn, hp, hn] using hq
    rw [acceptLine_nest_low hl, nestAsserted, placing, if_pos rfl]
    simp only [accepted_picker, hw, hb]
  case fetched =>
    have fetching : fetchingFrom (accepted (nestLine n) false s) n = some h := by
      simp [fetchingFrom, hs, hh, hn, he, hst, hhn]
    rw [acceptLine_nest_high hl, nestDeasserted, placingOn_accepted, placingOn_away hp, if_neg (by decide), fetching]
    exact if_pos hc

end Sys2Proof.Machine

/-! ### The stages of the stacker (R146, R153 to R158) -/

namespace Sys2Proof.Machine

theorem clearBoardNest_eq (serial : Serial) (b : Fin 64) (s : State) :
    clearBoardNest serial b s = s.withSeq
      { s.seq with
        boards := if s.seq.runOf = some serial then Table.modify b (fun r => { r with nest := none }) s.seq.boards
          else s.seq.boards } := by
  unfold clearBoardNest modBoard
  split <;> rfl

/-! ### An order that falls due (R153, R155) -/

theorem dueTransfer_moves {o : Order} {s : State} (h : mayMove s) :
    dueTransfer o s = (s.withPorts { s.ports with transfer := strobed o s.ports.transfer }).withStacker
      { s.stacker with transferTimer := some 3000, heldTransfer := none } := by
  rw [dueTransfer, if_pos ((freeToMove_iff s).2 h)]
  rfl

theorem dueTransfer_held {o : Order} {s : State} (h : ¬ mayMove s) :
    dueTransfer o s = s.withStacker { s.stacker with heldTransfer := some o } := by
  rw [dueTransfer, if_neg (mt (freeToMove_iff s).1 h)]

theorem dueElevate_moves {o : Order} {s : State} (h : mayMove s) :
    dueElevate o s = (s.withPorts { s.ports with elevator := strobed o s.ports.elevator }).withStacker
      { s.stacker with elevateTimer := some 4000, heldElevate := none } := by
  rw [dueElevate, if_pos ((freeToMove_iff s).2 h)]
  rfl

theorem dueElevate_held {o : Order} {s : State} (h : ¬ mayMove s) :
    dueElevate o s = s.withStacker { s.stacker with heldElevate := some o } := by
  rw [dueElevate, if_neg (mt (freeToMove_iff s).1 h)]

/-! ### The reading of a slot (R156) -/

theorem tryCheck_waits {s : State}
    (h : s.stacker.state ≠ .checkSlot ∨ s.stacker.elevated = false ∨ s.ports.transfer.inFlight = true) :
    tryCheck s = s := by
  unfold tryCheck
  split
  · rw [if_neg]
    rcases h with h | h | h <;> simp [transferBusy, h]
  · rfl

theorem tryCheck_reads {x : Bay} {slot : Nat} {s : State} (ht : s.stacker.target = some x) (hs : s.stacker.slot = some slot)
    (hc : s.stacker.state = .checkSlot) (he : s.stacker.elevated = true) (hf : s.ports.transfer.inFlight = false)
    (hh : s.stacker.heldTransfer = none) : tryCheck s = checkSlot x slot s := by
  simp only [tryCheck, ht, hs]
  exact if_pos (by simp [hc, he, transferBusy, hf, hh])

theorem checkSlot_free {x : Bay} {slot : Nat} {s : State} (h : asserted s 8 = false) :
    checkSlot x slot s = dueTransfer .toMouth (s.withStacker { s.stacker with state := .present }) := by
  rw [checkSlot, h, if_neg (by decide)]

theorem checkSlot_occupied {x : Bay} {slot : Nat} {s : State} (h : asserted s 8 = true) :
    checkSlot x slot s =
      let passed := advance x (setSlot x slot .blocked s)
      if (bayOf passed x).state = .active then elevateFor x passed else loseTarget passed := by
  rw [checkSlot, h, if_pos rfl]

/-! ### The end of a fetch (R89, R146) -/

/-- The entry gone from the queue and from the board's record (R89, R146). -/
def fetchGone (h : Hand) (s : State) : State :=
  (s.withNests (s.nests.filter fun e => decide (e.nest ≠ h.nest))).withSeq
    { s.seq with
      boards :=
        if s.seq.runOf = some h.serial then Table.modify h.board (fun r => { r with nest := none }) s.seq.boards
        else s.seq.boards }

/-- The stage that follows a fetch, its clear window over. -/
def fetchTo (h : Hand) (st : StackerState) (s : State) : State :=
  (fetchGone h s).withStacker { s.stacker with state := st, nestClear := none }

theorem fetchEnds_eq (h : Hand) (s : State) :
    fetchEnds h s =
      if h.disposition = .good then
        match s.stacker.target with
        | some _ => tryCheck (fetchTo h .checkSlot s)
        | none => fetchTo h .waitBay s
      else dueTransfer .toChute (fetchTo h .divert s) := by
  have gone : clearBoardNest h.serial h.board (s.withNests (s.nests.filter fun e => decide (e.nest ≠ h.nest))) =
      fetchGone h s := clearBoardNest_eq ..
  unfold fetchEnds
  dsimp only
  rw [gone]
  rfl

theorem completeFromNest_eq {h : Hand} {s : State} (hh : s.stacker.hand = some h) :
    completeFromNest s = if asserted s (nestLine h.nest) then s.withStacker { s.stacker with nestClear := some 200 }
      else fetchEnds h s := by
  simp only [completeFromNest, hh]

theorem nestLine_ne {l : Fin 16} (hl : l.val < 11) (n : Fin 3) : l ≠ nestLine n := by
  rintro rfl
  exact absurd hl (by simp [nestLine])

/-- Settles O44. -/
theorem fetchFromTheNest : Obligations.FetchFromTheNest := by
  refine ⟨fun n h ms s hh => ⟨fun hf hr => ⟨fun hv hu => exec_event rfl ?waits hu, fun hv hu => exec_event rfl ?ends hu⟩,
      fun ht hu => exec_event rfl ?fails hu⟩,
    fun h s => ⟨fun hg ht => ?waitBay, fun x hg ht => ⟨fun hw => ?moving, fun slot he hslot hf hheld =>
      ⟨fun hv hm => ?mouth, fun hv hm => ?mouthHeld, fun hv => ?blocked⟩⟩, fun hg hm => ?chute, fun hg hm => ?chuteHeld⟩⟩
  case' waits | ends =>
    have done : edge 2 (accepted 2 true s) = completeFromNest (transferred (accepted 2 true s)) :=
      completeTransfer_fromNest (s := accepted 2 true s) hf hr
    have hand : (transferred (accepted 2 true s)).stacker.hand = some h := hh
    have level : asserted (transferred (accepted 2 true s)) (nestLine h.nest) = asserted s (nestLine h.nest) :=
      asserted_accepted (nestLine_ne (l := 2) (by decide) h.nest) true s
    rw [namedDone_of_flying hf hr rfl (by decide), done, completeFromNest_eq hand, level]
  case waits =>
    rw [(asserted_iff s _).2 hv]
    rfl
  case ends =>
    rw [(not_asserted_iff s _).2 hv]
    rfl
  case fails =>
    split
    · next h' hh' =>
      obtain rfl : h = h' := Option.some.inj (hh.symm.trans hh')
      rw [if_pos (by simp [ht])]
      rfl
    · next hno => simp [hh] at hno
  all_goals rw [fetchEnds_eq]
  case waitBay =>
    rw [if_pos hg, ht]
    rfl
  case chute =>
    rw [if_neg hg, dueTransfer_moves (s := fetchTo h .divert s) hm]
    rfl
  case chuteHeld =>
    rw [if_neg hg, dueTransfer_held (s := fetchTo h .divert s) hm]
    rfl
  all_goals rw [if_pos hg, ht]
  case moving =>
    refine (tryCheck_waits (s := fetchTo h .checkSlot s) (.inr ?_)).trans rfl
    exact hw
  all_goals
    have reads : tryCheck (fetchTo h .checkSlot s) = checkSlot x slot (fetchTo h .checkSlot s) :=
      tryCheck_reads (s := fetchTo h .checkSlot s) ht hslot rfl he hf hheld
    dsimp only
    rw [reads]
  case blocked =>
    rw [checkSlot_occupied]
    · rfl
    · exact (asserted_iff s 8).2 hv
  all_goals
    have free : asserted (fetchTo h .checkSlot s) 8 = false := (not_asserted_iff s 8).2 hv
    rw [checkSlot_free free]
  case mouth =>
    rw [dueTransfer_moves]
    · rfl
    · exact hm
  case mouthHeld =>
    rw [dueTransfer_held]
    · rfl
    · exact hm

end Sys2Proof.Machine

/-! ### The mouth and the push (R156 to R158) -/

namespace Sys2Proof.Machine

/-- The elevator port when its order has ended, its mark set (R156). -/
def lifted (s : State) : State :=
  (s.withPorts { s.ports with elevator := landed s.ports.elevator }).withStacker
    { s.stacker with elevateTimer := none, elevated := true }

theorem elevatorDone_flying {s : State} (hf : s.ports.elevator.inFlight = true) :
    edge 3 (accepted 3 true s) = tryCheck (lifted (accepted 3 true s)) := if_pos hf

/-- PUSH with the stacker free to move: the stroke at once (R157). -/
theorem enterPush_moves {s : State} (h : mayMove s) :
    enterPush s = startStroke (s.withStacker { s.stacker with state := .push }) := by
  rw [enterPush]
  exact if_pos ((freeToMove_iff s).2 h)

theorem startStroke_home {s : State} (h : asserted s 7 = true) : startStroke s = startLeave s := if_pos h

theorem startStroke_away {s : State} (h : asserted s 7 = false) :
    startStroke s = s.withStacker { s.stacker with homeWait := some 1500 } := by
  rw [startStroke, h, if_neg (by decide)]

theorem completeToMouth_present {x : Bay} {s : State} (hs : s.stacker.state = .present) (ht : s.stacker.target = some x) :
    completeToMouth s = enterPush s := by
  simp only [completeToMouth, hs, ht]

/-- Settles O45. -/
theorem boardGoesToTheMouth : Obligations.BoardGoesToTheMouth := by
  refine ⟨fun y x height slot s hf hr ht hs => ⟨fun h hu => exec_event rfl ?marked hu,
      fun hc hb hh hv hall hrec hu => exec_event rfl ?mouth hu, fun hc hb hh hv hu => exec_event rfl ?blocked hu⟩,
    fun x s hf hr hs ht hall hrec => ⟨fun hv hu => exec_event rfl ?leaves hu, fun hv hu => exec_event rfl ?waits hu⟩⟩
  case' marked | mouth | blocked => rw [namedDone_of_flying hf hr rfl (by decide), elevatorDone_flying hf]
  case marked =>
    refine (tryCheck_waits (s := lifted (accepted 3 true s)) ?_).trans rfl
    exact h.imp_right .inr
  case' mouth | blocked =>
    have reads : tryCheck (lifted (accepted 3 true s)) = checkSlot x slot (lifted (accepted 3 true s)) :=
      tryCheck_reads (s := lifted (accepted 3 true s)) ht hs hc rfl hb hh
    have level : asserted (lifted (accepted 3 true s)) 8 = asserted s 8 := asserted_accepted (by decide) true s
    rw [reads]
  case mouth =>
    have free : asserted (lifted (accepted 3 true s)) 8 = false := level.trans ((not_asserted_iff s 8).2 hv)
    rw [checkSlot_free free, dueTransfer_moves]
    · rfl
    · exact ⟨hall, hrec⟩
  case blocked =>
    rw [checkSlot_occupied (level.trans ((asserted_iff s 8).2 hv))]
    rfl
  all_goals
    have push : edge 2 (accepted 2 true s) = startStroke ((transferred (accepted 2 true s)).withStacker
        { (transferred (accepted 2 true s)).stacker with state := .push }) := by
      show completeTransfer _ = _
      rw [completeTransfer_toMouth (s := accepted 2 true s) hf hr,
        completeToMouth_present (s := transferred (accepted 2 true s)) hs ht, enterPush_moves]
      exact ⟨hall, hrec⟩
    have level : asserted ((transferred (accepted 2 true s)).withStacker
        { (transferred (accepted 2 true s)).stacker with state := .push }) 7 = asserted s 7 :=
      asserted_accepted (by decide) true s
    rw [namedDone_of_flying hf hr rfl (by decide), push]
  case leaves =>
    rw [startStroke_home (level.trans ((asserted_iff s 7).2 hv))]
    rfl
  case waits =>
    rw [startStroke_away (level.trans ((not_asserted_iff s 7).2 hv))]
    rfl

end Sys2Proof.Machine

/-! ### The stroke and the reading that settles its slot (R157, R158) -/

namespace Sys2Proof.Machine

@[simp] theorem setBay_setBay (x : Bay) (a b : BayRec) (s : State) : setBay x b (setBay x a s) = setBay x b s := by
  cases x <;> rfl

theorem bayOf_congr {s t : State} (h : s.bays = t.bays) (x : Bay) : bayOf s x = bayOf t x := by
  cases x <;> simp [bayOf, h]

theorem setSlot_eq (x : Bay) (slot : Nat) (v : SlotState) (s : State) :
    setSlot x slot v s = setBay x { bayOf s x with map := (bayOf s x).map.set slot v } s := rfl

/-- The slot FILLED and counted, the board STACKED (R158). -/
theorem slotFilled_eq {h : Hand} {x : Bay} {slot : Nat} {d : FillDesc} {s : State} (hd : (bayOf s x).desc = some d) :
    slotFilled h x slot s = advance x (reportStacked h.serial h.board x slot (setBay x
      { bayOf s x with
        map := (bayOf s x).map.set slot (.filled h.board h.serial), desc := some { d with filled := d.filled + 1 } }
      (stackerIdle s))) := by
  have same : bayOf (stackerIdle s) x = bayOf s x := bayOf_congr rfl x
  simp only [slotFilled, setSlot_eq, bayOf_setBay, setBay_setBay, same, hd, Option.map_some]

/-- Home reached within its wait: the leave step begins (R157). -/
theorem pusherHome_begins {rz : Raiser} {ms : Nat} {s : State} (hw : s.stacker.homeWait = some ms)
    (hr : s.stacker.recovering = false) : pusherHome rz s = startLeave s := by
  rw [pusherHome, if_pos (by simp [hw]), hr, if_neg (by decide)]

/-- The push back home, PUSH off (R158). -/
def pushReturned (s : State) : State := setPush false (s.withStacker { s.stacker with return_ := none })

theorem pusherHome_returns {rz : Raiser} {ms : Nat} {s : State} (hw : s.stacker.homeWait = none)
    (hr : s.stacker.return_ = some ms) : pusherHome rz s = confirm rz (pushReturned s) := by
  rw [pusherHome, if_neg (by simp [hw]), if_pos (by simp [hr])]
  rfl

theorem confirm_eq {rz : Raiser} {h : Hand} {x : Bay} {slot : Nat} {s : State} (hh : s.stacker.hand = some h)
    (ht : s.stacker.target = some x) (hs : s.stacker.slot = some slot) :
    confirm rz s =
      let t := s.withStacker { s.stacker with state := .confirm }
      if asserted s 8 then slotFilled h x slot t
      else advance x (rz Source.pushFault (.bay x) (reportLost h.serial h.board (setSlot x slot .blocked (stackerIdle t)))) := by
  simp only [confirm, hh, ht, hs]
  rfl

theorem pushFails_eq {h : Hand} {x : Bay} {slot : Nat} {s : State} (hh : s.stacker.hand = some h)
    (ht : s.stacker.target = some x) (hs : s.stacker.slot = some slot) :
    pushFails raise s = advance x (reportLost h.serial h.board (setSlot x slot .blocked
      (raise Source.pushFault (.bay x) (setPush false (stackerIdle s))))) := by
  simp only [pushFails, hh, ht, hs]

/-- Settles O46. -/
theorem pushSettlesTheSlot : Obligations.PushSettlesTheSlot := by
  refine ⟨fun ms h x slot d s hh ht hs => ⟨fun hl hw hr hu => exec_event rfl ?begins hu,
      fun hl hw hu => exec_event rfl ?leaves hu, fun hl hw hr hd => ⟨fun hv hu => exec_event rfl ?filled hu,
        fun hv hu => exec_event rfl ?missed hu⟩⟩,
    fun ms h x slot s hh ht hs hu => ⟨fun hw => exec_event rfl ?homeWait hu, fun hw => exec_event rfl ?leave hu,
      fun hw => exec_event rfl ?return_ hu⟩,
    fun serial b x slot s => ⟨reportStacked_eq .., reportChuted_eq .., reportLost_eq ..⟩,
    fun b s => ⟨releaseReservation_eq b s, boardLostEarly_eq b s⟩⟩
  case homeWait | leave | return_ =>
    rw [if_pos (by simp [hw]), pushFails_eq hh ht hs]
    rfl
  case begins =>
    rw [acceptLine_low hl]
    show pusherHome raise (accepted 7 true s) = _
    rw [pusherHome_begins (s := accepted 7 true s) hw hr]
    rfl
  case leaves =>
    rw [acceptLine_high hl]
    show pusherLeaves (accepted 7 false s) = _
    exact if_pos (by simp [hw])
  case' filled | missed =>
    have home : acceptLine 7 true s = confirm raise (pushReturned (accepted 7 true s)) := by
      rw [acceptLine_low hl]
      exact pusherHome_returns (s := accepted 7 true s) hw hr
    have level : asserted (pushReturned (accepted 7 true s)) 8 = asserted s 8 := asserted_accepted (by decide) true s
    rw [home, confirm_eq (s := pushReturned (accepted 7 true s)) hh ht hs, level]
  case filled =>
    rw [(asserted_iff s 8).2 hv, if_pos rfl, slotFilled_eq (d := d)]
    · cases x <;> rfl
    · rw [bayOf_congr (t := s) (by simp [pushReturned, setPush]) x, hd]
  case missed =>
    rw [(not_asserted_iff s 8).2 hv, if_neg (by decide)]
    refine congrArg (fun t => advance x (raise Source.pushFault (.bay x) (reportLost h.serial h.board t))) ?_
    rw [setSlot_eq, bayOf_congr (t := s) (by simp [pushReturned, setPush, stackerIdle]) x]
    cases x <;> rfl

end Sys2Proof.Machine

/-! ### Bays that come, go and fill (R149, R151, R152, R160) -/

namespace Sys2Proof.Machine

/-- A presence line asserts (R149). -/
theorem acceptLine_presence_low {x : Bay} {s : State} (h : low s (presenceLine x)) :
    acceptLine (presenceLine x) true s = bayInserted x (accepted (presenceLine x) true s) := by
  rw [acceptLine_low h]
  cases x <;> rfl

/-- A presence line deasserts (R149). -/
theorem acceptLine_presence_high {x : Bay} {s : State} (h : (getAt s.lines.ded (presenceLine x)).filter.level = some true) :
    acceptLine (presenceLine x) false s = bayWithdrawn raise x (accepted (presenceLine x) false s) := by
  rw [acceptLine_high h]
  cases x <;> rfl

theorem bayOf_accepted (l : Fin 16) (v : Bool) (s : State) (x : Bay) : bayOf (accepted l v s) x = bayOf s x :=
  bayOf_congr rfl x

section
variable {x : Bay} {s : State}

theorem bayInserted_absent (h : (bayOf s x).state = .absent) :
    bayInserted x s = raiseNotice (bayChangedNotice x) [1] (setBay x { bayOf s x with state := .present } s) := by
  rw [bayInserted, if_pos h, bayChanged, bayOf_setBay]
  rfl

/-- A bay out of use withdrawn (R149). -/
theorem bayWithdrawn_unused {rz : Raiser} (h : (bayOf s x).state = .present ∨ (bayOf s x).state = .complete) :
    bayWithdrawn rz x s = raiseNotice (bayChangedNotice x) [0] (setBay x BayRec.reset s) := by
  have changed : bayChanged x (setBay x BayRec.reset s) =
      raiseNotice (bayChangedNotice x) [0] (setBay x BayRec.reset s) := by
    rw [bayChanged, bayOf_setBay]
    rfl
  rcases h with h | h <;> simp only [bayWithdrawn, h, changed]

theorem bayWithdrawn_ready {rz : Raiser} (h : (bayOf s x).state = .ready) :
    bayWithdrawn rz x s = rz Source.bayPulled (.bay x) (setBay x BayRec.reset s) := by
  simp only [bayWithdrawn, h]

theorem bayWithdrawn_active {rz : Raiser} (h : (bayOf s x).state = .active) :
    bayWithdrawn rz x s = targetWithdrawn x (rz Source.bayPulled (.bay x) (setBay x BayRec.reset s)) := by
  simp only [bayWithdrawn, h]

theorem targetWithdrawn_other (h : s.stacker.target ≠ some x) : targetWithdrawn x s = s := if_neg h

/-- The board in PUSH toward the bay is LOST (R160). -/
theorem targetWithdrawn_push {h : Hand} (ht : s.stacker.target = some x) (hh : s.stacker.hand = some h)
    (hs : s.stacker.state = .push) :
    targetWithdrawn x s = ((reportLost h.serial h.board s).withOutputs { s.outputs with push := false }).withStacker
      Stacker.reset := by
  rw [targetWithdrawn, if_pos ht, hs, hh]
  simp [stackerIdle, setPush, reportLost_eq]

/-- Before its push the board loses the bay (R160). -/
theorem targetWithdrawn_before (ht : s.stacker.target = some x)
    (hs : s.stacker.state = .fetch ∨ s.stacker.state = .checkSlot ∨ s.stacker.state = .present) :
    targetWithdrawn x s = loseTarget s := by
  rw [targetWithdrawn, if_pos ht]
  rcases hs with hs | hs | hs <;> rw [hs]

end

theorem loseTarget_eq (s : State) :
    loseTarget s = (s.withPorts
      { s.ports with elevator := if s.ports.elevator.inFlight then stopped s.ports.elevator else s.ports.elevator }).withStacker
      { s.stacker with target := none, slot := none, elevated := false, elevateTimer := none, heldElevate := none } := by
  simp [loseTarget, stopElevate, Port.stop, stopped]

/-- The slot of a visit (R42). -/
theorem visitSlot_eq (p : Profile) (k : Nat) :
    Profile.visitSlot p k = if Profile.visits p ≤ k then none
      else some (if p.dir = .bottomUp then k * p.step else p.slots - 1 - k * p.step) := by
  unfold Profile.visitSlot
  cases h : p.dir <;> rfl

/-- A settled slot advances the descriptor, which may end the bay (R152). -/
theorem advance_eq {x : Bay} {d : FillDesc} {s : State} (hd : (bayOf s x).desc = some d) :
    advance x s =
      let r : BayRec := { bayOf s x with desc := some (FillDesc.step d) }
      if FillDesc.ends (FillDesc.step d) (bayOf s x).retire then
        raiseNotice (bayCompleteNotice x) [b8 d.filled] (setBay x { r with state := .complete, retire := false } s)
      else setBay x r s := by
  have ended (d' : FillDesc) : completeBay x (setBay x { bayOf s x with desc := some d' } s) =
      raiseNotice (bayCompleteNotice x) [b8 d'.filled]
        (setBay x { bayOf s x with desc := some d', state := .complete, retire := false } s) := by
    rw [completeBay_eq (d := d') (by rw [bayOf_setBay]), bayOf_setBay, setBay_setBay]
  simp only [advance, hd, ended]
  rfl

theorem ends_iff (d : FillDesc) (retire : Bool) :
    FillDesc.ends d retire = true ↔ retire = true ∨ Profile.visits d.values ≤ d.visit ∨ d.values.limit ≤ d.filled := by
  simp [FillDesc.ends, or_assoc]

/-- Settles O49. -/
theorem baysFillAndChange : Obligations.BaysFillAndChange := by
  refine ⟨fun x s => ⟨fun hl hb hu => exec_event rfl ?inserted hu, fun hl =>
      ⟨fun hb hu => exec_event rfl ?unused hu, fun hb hu => exec_event rfl ?pulled hu,
       fun h hb ht hh => ⟨fun hs hu => exec_event rfl ?push hu, fun hs hu => exec_event rfl ?before hu⟩⟩⟩,
    fun x d s hd => ⟨fun he => ?goesOn, fun he => ?ends⟩⟩
  case inserted =>
    rw [acceptLine_presence_low hl, bayInserted_absent (by rw [bayOf_accepted, hb]), bayOf_accepted]
  case unused =>
    rw [acceptLine_presence_high hl, bayWithdrawn_unused (by rw [bayOf_accepted]; exact hb)]
    rfl
  case pulled =>
    rw [acceptLine_presence_high hl]
    rcases hb with hb | ⟨hb, ht⟩
    · rw [bayWithdrawn_ready (by rw [bayOf_accepted, hb])]
      rfl
    · rw [bayWithdrawn_active (by rw [bayOf_accepted, hb])]
      exact targetWithdrawn_other ht
  case push =>
    rw [acceptLine_presence_high hl, bayWithdrawn_active (by rw [bayOf_accepted, hb])]
    exact targetWithdrawn_push ht hh hs
  case before =>
    rw [acceptLine_presence_high hl, bayWithdrawn_active (by rw [bayOf_accepted, hb])]
    exact (targetWithdrawn_before ht hs).trans (loseTarget_eq _)
  case goesOn =>
    rw [advance_eq hd, if_neg (mt (ends_iff _ _).1 he), FillDesc.step, visitSlot_eq]
    rfl
  case ends =>
    rw [advance_eq hd, if_pos ((ends_iff _ _).2 he), FillDesc.step, visitSlot_eq]
    rfl

end Sys2Proof.Machine

/-! ### Detections on the aux lines (R169, R170) -/

namespace Sys2Proof.Machine

/-- What the role of a line reads: the line, its notice's raised mark, and the cell. -/
theorem auxStill_congr {s t : State} {m : Fin 4} (ha : getAt s.lines.aux m = getAt t.lines.aux m)
    (hn : (getAt s.notices (auxNotice m)).raised = (getAt t.notices (auxNotice m)).raised) (hc : s.cell = t.cell) :
    auxStill s m = auxStill t m := by
  simp only [auxStill, ha, hn, holdTakeable, standingHold, hc]

theorem auxNotice_ne {n m : Fin 4} (h : m ≠ n) : auxNotice n ≠ auxNotice m := fun e =>
  h (Fin.ext (by have := congrArg Fin.val e; rw [auxNotice_val, auxNotice_val] at this; omega))

/-- A line after the acceptance of a level (R164). -/
def auxHeard (high : Bool) (latch : Latch) (a : AuxLine) : AuxLine :=
  { a with filter := { level := some high, count := 0, seen := high }, latch := latch }

/-- A changed level on a line without a latch (R169). -/
theorem acceptAux_eq {n : Fin 4} {high : Bool} {s : State} (hl : (getAt s.lines.aux n).filter.level = some (!high))
    (hc : (getAt s.lines.aux n).latch = .clear) :
    acceptAux n high s = setAux n (auxHeard high
      (if DetectMode.detects (getAt s.lines.aux n).mode high then .set else .clear) (getAt s.lines.aux n)) s := by
  have changed : ¬ (getAt s.lines.aux n).filter.level = some high := by rw [hl]; cases high <;> simp
  rw [acceptAux]
  rw [if_neg changed, AuxLine.detect, AuxLine.accept, Filter.accept_eq]
  simp only [hc]
  split <;> simp [auxHeard, *]

/-- What a role leaves of the latch that it has acted on (R169). -/
theorem taken_auxHeard {high : Bool} {a : AuxLine} (hd : DetectMode.detects a.mode high = true) :
    AuxLine.taken (auxHeard high .set a) =
      auxHeard high (if a.mode = .lowLevel ∨ a.mode = .highLevel then .standing else .clear) a := by
  cases hm : a.mode <;> cases high <;> simp_all [AuxLine.taken, auxHeard, levelStands, DetectMode.detects]

theorem setAux_setAux (n : Fin 4) (a b : AuxLine) (s : State) : setAux n b (setAux n a s) = setAux n b s := by
  have twice : setAt (setAt s.lines.aux n a) n b = setAt s.lines.aux n b := by unfold setAt; simp
  simp [setAux, twice]

theorem getAt_raiseNotice_ne {n m : Notice} (h : n ≠ m) (p : List Byte) (s : State) :
    getAt (raiseNotice n p s).notices m = getAt s.notices m := by
  unfold raiseNotice
  dsimp only
  split
  · rfl
  · simp [getAt_setAt, h]

theorem takeHold_running {s : State} (hm : s.cell.mode = .running) (hf : latched s.faults = false) :
    takeHold s = s.withCell { s.cell with mode := .holding, holdLatch := true } := by
  have taken : takeHold s = enterMode .holding (s.withCell { s.cell with holdLatch := true }) := by
    simp only [takeHold, State.withCell_cell, hm]
  rw [taken, enterMode_unlatched (s := s.withCell { s.cell with holdLatch := true }) hf, if_neg (by decide)]
  rfl

/-- A wake without a halt latch (R62). -/
theorem startWake_unlatched {s : State} (hall : s.faults.allStop = false) (hcut : s.faults.cutStop = false) :
    startWake s = startSpindle (((clearNotice Notice.parked s).withLines
      { s.lines with aux := s.lines.aux.map AuxLine.woken }).withCell { s.cell with mode := .waking }) := by
  unfold startWake
  dsimp only
  rw [if_neg (by simp [hall]), if_neg (by simp [hcut])]
  rfl

section
variable {n : Fin 4} {s : State} (hen : (getAt s.lines.aux n).enable = true) (hl : (getAt s.lines.aux n).latch = .set)
include hen hl

theorem auxRole_notice (hr : (getAt s.lines.aux n).role = .notice) : auxRole s n = raiseNotice (auxNotice n) [] s := by
  simp [auxRole, hen, hr, hl]

theorem auxRole_fault (hr : (getAt s.lines.aux n).role = .fault) :
    auxRole s n = raise (auxSource n) (.line (auxDetail n)) (setAux n (AuxLine.taken (getAt s.lines.aux n)) s) := by
  simp [auxRole, hen, hr, hl]

/-- The hold taken in RUNNING (R54, R170). -/
theorem auxRole_hold (hr : (getAt s.lines.aux n).role = .hold) (hm : s.cell.mode = .running)
    (hf : latched s.faults = false) :
    auxRole s n = (setAux n (AuxLine.taken (getAt s.lines.aux n)) s).withCell
      { s.cell with mode := .holding, holdLatch := true } := by
  have may : holdTakeable s = true := by simp [holdTakeable, hm]
  have role : auxRole s n = takeHold (setAux n (AuxLine.taken (getAt s.lines.aux n)) s) := by
    simp [auxRole, auxHold, hen, hr, hl, may]
  rw [role, takeHold_running (s := setAux n (AuxLine.taken (getAt s.lines.aux n)) s) hm hf]
  rfl

theorem auxRole_wake (hr : (getAt s.lines.aux n).role = .wake) (hm : s.cell.mode = .parked) :
    auxRole s n = startWake s := by
  simp [auxRole, hen, hr, hl, hm]

end

/-- The latches that a wake clears, where one WAKE line alone has one (R62). -/
theorem map_woken_setAt {v : Vector AuxLine 4} {n : Fin 4} {a : AuxLine} (hr : a.role = .wake) (hen : a.enable = true)
    (hl : a.latch = .set) (h : ∀ m, m ≠ n → (getAt v m).role = .wake → (getAt v m).latch = .clear) :
    (setAt v n a).map AuxLine.woken = setAt v n (AuxLine.taken a) := by
  have woken : AuxLine.woken a = AuxLine.taken a := by simp [AuxLine.woken, hr, hen, hl]
  refine Vector.ext fun i hi => ?_
  rw [Vector.getElem_map]
  by_cases e : n.val = i
  · simp [setAt, e, woken]
  · have kept : (setAt v n a)[i] = v[i] := by simp [setAt, e]
    have kept' : (setAt v n (AuxLine.taken a))[i] = v[i] := by simp [setAt, e]
    rw [kept, kept']
    refine if_neg ?_
    simp only [Bool.and_eq_true, decide_eq_true_eq]
    rintro ⟨⟨role, -⟩, latch⟩
    exact latch (h ⟨i, hi⟩ (fun eq => e (congrArg Fin.val eq).symm) role)

/-- The moment in which an aux line acts on its new latch, alone. -/
theorem finish_auxHeard {n : Fin 4} {a : AuxLine} {s u : State} (hs : still s = true)
    (hn : auxRole (setAux n a s) n = u) (hu : still u = true) : finish (setAux n a s) = rest u := by
  have hrec : recordsStill s = true := by
    simp only [still, Bool.and_eq_true] at hs
    obtain ⟨⟨⟨⟨⟨h, -⟩, -⟩, -⟩, -⟩, -⟩ := hs
    exact h
  refine finish_auxRole (n := n) hrec hn (fun m hm => ?_) hu
  have line : getAt (setAux n a s).lines.aux m = getAt s.lines.aux m := (getAt_setAux n m a s).trans (if_neg (Ne.symm hm))
  rw [auxStill_congr line rfl rfl]
  exact auxStill_of_still hs m

/-- Settles O52. -/
theorem auxLinesDetect : Obligations.AuxLinesDetect := by
  intro n high a s ha hlev hlat put detects
  have hdet : DetectMode.detects a.mode high = detects := by cases hm : a.mode <;> simp [DetectMode.detects, detects, hm]
  have heard (latch : Latch) : put latch = setAux n (auxHeard high latch a) s := rfl
  have accept : acceptAux n high s = put (if detects then .set else .clear) := by
    rw [acceptAux_eq (by rw [ha, hlev]) (by rw [ha, hlat]), ha, hdet]
    rfl
  have e {u : State} (hf : finish (acceptAux n high s) = rest u) : exec (.auxLineAccept n high) s = .next (rest u) :=
    congrArg Host.Outcome.next hf
  refine ⟨fun hd hu => exec_event rfl (by rw [accept, hd]; rfl) hu, fun hd hen hu => exec_event rfl (by rw [accept, hd]; rfl) hu,
    fun hd hen hr hu => e ?notice, fun hd hen hr hs hu => e ?fault, fun hd hen hr hs hm hl hu => e ?hold,
    fun hd hen hr hs hm hall hcut hw hu => e ?wake⟩
  all_goals
    rw [accept, hd, if_pos rfl, heard]
    have line : getAt (setAux n (auxHeard high .set a) s).lines.aux n = auxHeard high .set a :=
      (getAt_setAux n n _ s).trans (if_pos rfl)
    have enabled : (getAt (setAux n (auxHeard high .set a) s).lines.aux n).enable = true := by rw [line]; exact hen
    have latch : (getAt (setAux n (auxHeard high .set a) s).lines.aux n).latch = .set := by rw [line]; rfl
    have role : (getAt (setAux n (auxHeard high .set a) s).lines.aux n).role = a.role := by rw [line]; rfl
    rw [hr] at role
  case notice =>
    have others (m : Fin 4) (h : m ≠ n) : auxStill (setAux n (auxHeard high .set a) s) m = true := by
      rw [← auxStill_of_still hu m]
      exact auxStill_congr (by rw [heard, raiseNotice_lines])
        (by rw [heard, getAt_raiseNotice_ne (auxNotice_ne h)]) (by rw [heard, raiseNotice_cell])
    have hrec : recordsStill (setAux n (auxHeard high .set a) s) = true := by
      have hrec : recordsStill (raiseNotice (auxNotice n) [] (put .set)) = true := by
        simp only [still, Bool.and_eq_true] at hu
        obtain ⟨⟨⟨⟨⟨h, -⟩, -⟩, -⟩, -⟩, -⟩ := hu
        exact h
      have seq : (raiseNotice (auxNotice n) [] (put .set)).seq = s.seq := by rw [heard, raiseNotice_seq]; rfl
      rw [← hrec]
      simp only [recordsStill, cuttingRecord, noneBeforeQueued, seq]
      rfl
    exact finish_auxRole hrec (auxRole_notice enabled latch role) others hu
  all_goals
    have taken := taken_auxHeard (a := a) (high := high) (by rw [hdet, hd])
    refine finish_auxHeard hs ?_ hu
  case fault => rw [auxRole_fault enabled latch role, line, taken, setAux_setAux]; rfl
  case hold => 
    rw [auxRole_hold enabled latch role hm hl, line, taken, setAux_setAux]
    rfl
  case wake =>
    have woken : (setAt s.lines.aux n (auxHeard high .set a)).map AuxLine.woken =
        setAt s.lines.aux n (AuxLine.taken (auxHeard high .set a)) := map_woken_setAt hr hen rfl hw
    rw [auxRole_wake enabled latch role hm,
      startWake_unlatched (s := setAux n (auxHeard high .set a) s) hall hcut]
    show startSpindle (((clearNotice Notice.parked (setAux n (auxHeard high .set a) s)).withLines
      { s.lines with aux := (setAt s.lines.aux n (auxHeard high .set a)).map AuxLine.woken }).withCell _) = _
    rw [woken, taken]
    rfl

end Sys2Proof.Machine

/-! ### A raise at the Fault Service (R57, R176, R178, R179) -/

namespace Sys2Proof.Machine

@[simp] theorem haltCell_notices (s : State) : (haltCell s).notices = s.notices := by
  unfold haltCell; split
  · split <;> rfl
  · rfl

theorem setLatch_allStop (level : Nat) (f : Faults) :
    (setLatch level f).allStop = true ↔ f.allStop = true ∨ level ≤ 1 := by
  unfold setLatch
  split
  · simp [*]
  · split <;> simp [*]

theorem setLatch_cutStop (level : Nat) (f : Faults) :
    (setLatch level f).cutStop = true ↔ f.cutStop = true ∨ (2 ≤ level ∧ level ≤ 4) := by
  unfold setLatch
  split
  · next h => simp; omega
  · split
    · next h h' => simp; omega
    · next h h' => simp; omega

theorem haltCell_latched {s : State} (h : latched s.faults = true) :
    haltCell s =
      match s.cell.mode with
      | .running | .holding | .held | .idle =>
        s.withCell { s.cell with mode := .halted, ret := some s.cell.mode, idleTimer := none }
      | .waking => s.withCell { s.cell with mode := .halted, idleTimer := none }
      | .unconfigured | .halted | .parked => s := if_pos h

/-- A repeat (R178). -/
theorem raiseRecord_repeat {src : Source} {r : FaultRec} {s : State} (h : recordOf s.faults src = some r) (d : Detail) :
    raiseRecord src d s = haltCell (s.withFaults (setLatch r.level
      { s.faults with
        waiting := s.faults.waiting.map (FaultRec.count src)
        stack := s.faults.stack.map (FaultRec.count src) })) := by
  simp only [raiseRecord, h]

/-- A source's first record waits until the take rule moves it (R178, R179). -/
def recordAdded (r : FaultRec) (s : State) : State :=
  haltCell (s.withFaults (setLatch r.level { s.faults with waiting := s.faults.waiting ++ [r] }))

theorem raiseRecord_first {src : Source} {s : State} (h : recordOf s.faults src = none) (d : Detail) :
    raiseRecord src d s =
      takeRule (recordAdded { source := src, level := getAt s.faults.levels src, detail := d, repeats := 0 } s) := by
  simp only [raiseRecord, h]
  rfl

theorem recordAdded_faults (r : FaultRec) (s : State) :
    (recordAdded r s).faults = setLatch r.level { s.faults with waiting := s.faults.waiting ++ [r] } := by
  simp [recordAdded]

/-- The take rule leaves the latches. -/
theorem takeRule_latches (s : State) :
    (takeRule s).faults.allStop = s.faults.allStop ∧ (takeRule s).faults.cutStop = s.faults.cutStop := by
  obtain ⟨-, e⟩ | ⟨r, -, ⟨-, e⟩ | ⟨-, e⟩⟩ := takeRule_cases s <;> rw [e] <;> simp

/-- Settles O53. -/
theorem raisesAreRecorded : Obligations.RaisesAreRecorded := by
  refine ⟨fun src d r s h => ?again, fun src d s h => ?first, fun s hl => ⟨fun hm => ?halts, fun hm => ?wakes, fun hm => ?stays⟩⟩
  case again =>
    intro count u
    have hcount : FaultRec.count src = count := by
      funext q
      simp only [FaultRec.count, count]
      split
      · split <;> simp <;> omega
      · rfl
    have hu : u = _ := raiseRecord_repeat h d
    rw [hu, hcount]
    simp [setLatch_allStop, setLatch_cutStop]
  case first =>
    intro r u
    have hu : u = takeRule (recordAdded r s) := raiseRecord_first h d
    obtain ⟨hall, hcut⟩ := takeRule_latches (recordAdded r s)
    rw [hu, hall, hcut, recordAdded_faults, setLatch_allStop, setLatch_cutStop]
    refine ⟨Iff.rfl, Iff.rfl, fun htop hless hne => ?_, fun htop hless => ?_⟩
    · obtain ⟨top, below, hs⟩ := List.exists_cons_of_ne_nil hne
      have waits : takeRule (recordAdded r s) = recordAdded r s := takeRule_waits (.inr ⟨top, below, by
        rw [recordAdded_faults, setLatch_stack]; exact hs, fun q hq => by
        rw [recordAdded_faults, setLatch_waiting, List.mem_append, List.mem_singleton] at hq
        rcases hq with hq | rfl
        · exact hless top (by simp [hs]) q hq
        · exact htop top (by simp [hs])⟩)
      rw [waits, recordAdded_faults, setLatch_waiting, setLatch_stack]
      exact ⟨rfl, rfl⟩
    · have others : ∀ q ∈ s.faults.waiting, q.source ≠ src := fun q hq =>
        recordOf_eq_none.1 h q (List.mem_append_left _ hq)
      have urgent : mostUrgent (recordAdded r s).faults.waiting = some r := by
        rw [recordAdded_faults, setLatch_waiting]
        refine mostUrgent_eq_some (by simp) fun q hq hne => hless q ?_
        exact (List.mem_append.1 hq).resolve_right (by simpa using hne)
      have outs : outranks r (recordAdded r s).faults := by
        unfold outranks
        rw [recordAdded_faults, setLatch_stack]
        exact htop
      have gone : (s.faults.waiting ++ [r]).filter (fun q => decide (q.source ≠ r.source)) = s.faults.waiting := by
        rw [List.filter_append, List.filter_eq_self.2 fun q hq => by simpa using others q hq]
        simp
      rw [takeRule_takes urgent outs]
      refine ⟨?_, ?_, raiseNotice_sets ..⟩
      · rw [raiseNotice_faults, State.withFaults_faults, recordAdded_faults, setLatch_waiting]
        exact gone
      · rw [raiseNotice_faults, State.withFaults_faults, recordAdded_faults, setLatch_stack]
  case halts => rcases hm with hm | hm | hm | hm <;> simp [haltCell_latched hl, hm]
  case wakes => simp only [haltCell_latched hl, hm]
  case stays => rcases hm with hm | hm | hm <;> simp only [haltCell_latched hl, hm]

end Sys2Proof.Machine

/-! ### A raise that sets ALL_STOP anew (R57, R111, R125, R140, R161) -/

namespace Sys2Proof.Machine

/-! #### What the interruption of the router keeps -/

section
variable {B : Parts} {P : State → Prop} (masked : ∀ {s t : State}, mask B t = mask B s → P s → P t)
  (raised : ∀ {src : Source} {d : Detail} {s : State}, P s → P (raiseRecord src d s))
  (released : ∀ {b : Fin 64} {s : State}, P s → P (letGo b s)) (records : B.records = true) (run : B.run = true)
include masked raised released records run

theorem giveUp_maintains {t : Fin 256} {s : State} (h : P s) : P (giveUp raiseRecord t s) := by
  have faulted : P (raiseRecord Source.tabUncut (.tab t) (setTab t .faulted s)) :=
    raised (masked (setTab_mask _ _ _ run) h)
  unfold giveUp
  dsimp only
  split
  · exact faulted
  · exact foldl_keeps (fun _ _ => released) (foldl_keeps (fun _ _ => masked (bypassTabs_mask _ _ run))
      (foldl_keeps (fun _ _ => masked (boardFailed_mask _ _ records run)) faulted))

theorem tabInterrupted_maintains {cut : Bool} {op : Operation} {s : State} (h : P s) :
    P (tabInterrupted raiseRecord cut op s) := by
  have tab (st : TabState) : P (setTab op.tab st s) := masked (setTab_mask _ _ _ run) h
  unfold tabInterrupted
  split
  · exact h
  · split
    · exact tab _
    · split
      · exact released (masked (bypassTabs_mask _ _ run) (masked (boardAbandoned_mask _ _ records run) (tab _)))
      · split
        · exact tab _
        · split
          · exact giveUp_maintains masked raised released records run h
          · exact tab _

theorem interruptRouter_maintains (notices : B.notices = true) (router : B.router = true) (wear : B.wear = true)
    (probe : B.probe = true) (port : B.portRouter = true) {s : State} (h : P s) :
    P (interruptRouter raiseRecord false s) := by
  have dropped : P (dropRouter s) := masked (dropRouter_mask _ router probe port) h
  have ended {cut : Bool} {op : Operation} {t : State} (ht : P t) : P (tabInterrupted raiseRecord cut op t) :=
    tabInterrupted_maintains masked raised released records run ht
  have worn {dw : Nat} {t : State} (ht : P t) : P (addWear raiseRecord dw t) := by
    have quiet : P (addWear noRaise dw t) := masked (addWear_mask _ _ _ (fun _ _ _ => rfl) notices wear) ht
    by_cases hr : reachesLife dw t
    · rw [addWear_of_reachesLife hr] at quiet ⊢
      exact raised quiet
    · rwa [addWear_of_not_reachesLife hr] at quiet ⊢
  unfold interruptRouter
  simp only [Bool.false_eq_true, if_false]
  split
  · exact h
  · split
    · exact dropped
    · split
      · exact ended (worn dropped)
      · exact ended dropped
  · split
    · exact dropped
    · exact ended dropped

end

/-! #### What each part of the stop leaves -/

/-- Every part but those that the interruption of the router changes. -/
def offInterrupted : Parts :=
  { everyPart with
    spindle := false, setpoint := false, timing := false, tach := false, outSpindle := false, outPush := false
    stacker := false, portTransfer := false, portElevator := false }

theorem interruptRouter_units (s : State) :
    mask offInterrupted (interruptRouter raiseRecord false s) = mask offInterrupted s :=
  interruptRouter_mask _ _ _ (fun _ _ _ => raiseRecord_mask _ _ _ rfl rfl rfl rfl rfl) rfl rfl rfl rfl rfl rfl rfl rfl rfl
    rfl rfl

theorem raiseRecord_restart (src : Source) (d : Detail) (s : State) : (raiseRecord src d s).cell.restart = s.cell.restart := by
  have halt (t : State) : (haltCell t).cell.restart = t.cell.restart := by
    unfold haltCell
    split
    · split <;> rfl
    · rfl
  have take (t : State) : (takeRule t).cell.restart = t.cell.restart := by
    obtain ⟨-, e⟩ | ⟨r, -, ⟨-, e⟩ | ⟨-, e⟩⟩ := takeRule_cases t <;> rw [e] <;> simp
  unfold raiseRecord
  split
  · exact halt _
  · exact (take _).trans (halt _)

/-- The restart mark stays while the router is interrupted. -/
theorem interruptRouter_restart (s : State) :
    (interruptRouter raiseRecord false s).cell.restart = s.cell.restart := by
  refine interruptRouter_maintains (B := { everyPart with cell := false }) (P := fun t => t.cell.restart = s.cell.restart)
    (fun e h => (mask_cell_restart e rfl).trans h) (fun h => (raiseRecord_restart ..).trans h)
    (fun h => ?_) rfl rfl rfl rfl rfl rfl rfl rfl
  rw [mask_cell_restart (letGo_mask (B := { everyPart with cell := false }) _ _ rfl rfl rfl rfl rfl) rfl, h]

/-- A raise touches the fault sets, the cell and the notices alone. -/
theorem raiseRecord_part {α : Type} {f : State → α} (hf : ∀ s x, f (State.withFaults s x) = f s)
    (hc : ∀ s x, f (State.withCell s x) = f s) (hn : ∀ s x, f (State.withNotices s x) = f s)
    (src : Source) (d : Detail) (s : State) : f (raiseRecord src d s) = f s := by
  have halt (t : State) : f (haltCell t) = f t := by
    unfold haltCell
    split
    · split <;> simp only [hc]
    · rfl
  have note (n : Notice) (p : List Byte) (t : State) : f (raiseNotice n p t) = f t := by
    unfold raiseNotice
    dsimp only
    split
    · rfl
    · exact hn _ _
  have take (t : State) : f (takeRule t) = f t := by
    obtain ⟨-, e⟩ | ⟨r, -, ⟨-, e⟩ | ⟨-, e⟩⟩ := takeRule_cases t
    · rw [e]
    · rw [e]
    · rw [e, note, hf]
  unfold raiseRecord
  split
  · exact (halt _).trans (hf _ _)
  · exact (take _).trans ((halt _).trans (hf _ _))

theorem raiseRecord_allStop {src : Source} {d : Detail} {s : State} (h : s.faults.allStop = true) :
    (raiseRecord src d s).faults.allStop = true := by
  unfold raiseRecord
  split
  · rw [haltCell_faults]
    exact (setLatch_allStop _ _).2 (.inl h)
  · rw [(takeRule_latches _).1, haltCell_faults]
    exact (setLatch_allStop _ _).2 (.inl h)

/-- The picker's move is stopped under ALL_STOP, with this record on its port. -/
def pickerStopped (p : Port) (s : State) : Prop :=
  s.faults.allStop = true ∧ s.picker.stalled = true ∧ s.ports.picker = p

/-- A board let go under ALL_STOP sends no order (R129, R139). -/
theorem pickerStopped_letGo {p : Port} {b : Fin 64} {s : State} (h : pickerStopped p s) : pickerStopped p (letGo b s) := by
  obtain ⟨hall, hst, hp⟩ := h
  have home {t : State} (ht : t.faults.allStop = true) (hport : t.ports.picker = p) : pickerStopped p (enterReturning t) := by
    rw [enterReturning_eq, homeward, if_pos ht]
    exact ⟨ht, rfl, hport⟩
  unfold letGo
  split
  · split
    · split
      · exact ⟨hall, hst, hp⟩
      · dsimp only
        split
        · exact ⟨hall, hst, hp⟩
        · exact ⟨hall, hst, hp⟩
    · exact home hall hp
    · exact home hall hp
    all_goals exact ⟨hall, hst, hp⟩
  · exact ⟨hall, hst, hp⟩

theorem interruptRouter_picker {p : Port} {s : State} (h : pickerStopped p s) :
    pickerStopped p (interruptRouter raiseRecord false s) := by
  refine interruptRouter_maintains (B := { everyPart with picker := false, portPicker := false, haltLatches := false })
    (fun e h => ?_) (fun h => ?_) pickerStopped_letGo rfl rfl rfl rfl rfl rfl rfl h
  · obtain ⟨hall, hst, hp⟩ := h
    exact ⟨(mask_faults_allStop e rfl).trans hall, (mask_picker_stalled e rfl).trans hst,
      (mask_ports_picker e rfl).trans hp⟩
  · obtain ⟨hall, hst, hp⟩ := h
    exact ⟨raiseRecord_allStop hall,
      (raiseRecord_part (f := fun t => t.picker.stalled) (fun _ _ => rfl) (fun _ _ => rfl) (fun _ _ => rfl) ..).trans hst,
      (raiseRecord_part (f := fun t => t.ports.picker) (fun _ _ => rfl) (fun _ _ => rfl) (fun _ _ => rfl) ..).trans hp⟩

/-- The router ends IDLE, its order stopped (R76, R77, R93). -/
theorem interruptRouter_router (s : State) :
    (interruptRouter raiseRecord false s).router.state = .idle ∧
      (s.router.state ≠ .idle → s.ports.router.inFlight = true →
        (interruptRouter raiseRecord false s).ports.router = stopped s.ports.router ∧
          (interruptRouter raiseRecord false s).router.clearance = true) := by
  have raises (src : Source) (d : Detail) (t : State) :
      mask { everyPart with router := false, portRouter := false } (raiseRecord src d t) =
        mask { everyPart with router := false, portRouter := false } t := raiseRecord_mask _ _ _ rfl rfl rfl rfl rfl
  have after {t : State} (e : mask { everyPart with router := false, portRouter := false } t =
      mask { everyPart with router := false, portRouter := false } (dropRouter s)) :
      t.router.state = .idle ∧ (s.ports.router.inFlight = true →
        t.ports.router = stopped s.ports.router ∧ t.router.clearance = true) := by
    refine ⟨(mask_router_state e rfl).trans rfl, fun hf => ?_⟩
    rw [mask_ports_router e rfl, mask_router_clearance e rfl, dropRouter_flying hf]
    exact ⟨rfl, rfl⟩
  have ends (cut : Bool) (op : Operation) (t : State) :
      mask { everyPart with router := false, portRouter := false } (tabInterrupted raiseRecord cut op t) =
        mask { everyPart with router := false, portRouter := false } t :=
    tabInterrupted_mask _ _ _ _ raises rfl rfl rfl rfl rfl rfl
  have all : s.router.state = .idle ∨
      mask { everyPart with router := false, portRouter := false } (interruptRouter raiseRecord false s) =
        mask { everyPart with router := false, portRouter := false } (dropRouter s) := by
    unfold interruptRouter
    simp only [Bool.false_eq_true, if_false]
    split
    · next h => exact .inl h
    · split
      · exact .inr rfl
      · split
        · exact .inr ((ends ..).trans (addWear_mask _ _ _ raises rfl rfl))
        · exact .inr (ends ..)
    · split
      · exact .inr rfl
      · exact .inr (ends ..)
  obtain idle | e := all
  · refine ⟨?_, fun hne => absurd idle hne⟩
    simp only [interruptRouter, idle]
  · exact ⟨(after e).1, fun _ => (after e).2⟩

end Sys2Proof.Machine

/-! #### The other units under ALL_STOP (R111, R140, R161) -/

namespace Sys2Proof.Machine

/-- The transfer order stopped and held back (R161). -/
def transferHalted (s : State) : State :=
  match Port.flying s.ports.transfer with
  | some o => (s.withPorts { s.ports with transfer := Port.stop s.ports.transfer }).withStacker
      { s.stacker with transferTimer := none, heldTransfer := some o }
  | none => s

/-- The elevator order stopped and held back (R161). -/
def elevatorHalted (s : State) : State :=
  match Port.flying s.ports.elevator with
  | some o => (s.withPorts { s.ports with elevator := Port.stop s.ports.elevator }).withStacker
      { s.stacker with elevateTimer := none, heldElevate := some o }
  | none => s

/-- PUSH off, a push in progress marked for recovery (R161). -/
def pushCut (s : State) : State :=
  if s.stacker.homeWait.isSome || s.stacker.leave.isSome || s.stacker.return_.isSome then
    (setPush false s).withStacker { s.stacker with
      homeWait := none, leave := none, return_ := none, recovering := false, recovery := true }
  else setPush false s

theorem haltStacker_eq (s : State) : haltStacker s = pushCut (elevatorHalted (transferHalted s)) := rfl

theorem pushCut_ports (s : State) : (pushCut s).ports = s.ports := by unfold pushCut; split <;> rfl

theorem pushCut_held (s : State) : (pushCut s).stacker.heldTransfer = s.stacker.heldTransfer ∧
    (pushCut s).stacker.heldElevate = s.stacker.heldElevate := by unfold pushCut; split <;> exact ⟨rfl, rfl⟩

theorem haltStacker_push (s : State) : (haltStacker s).outputs.push = false := by
  rw [haltStacker_eq]
  unfold pushCut
  split <;> rfl

theorem haltStacker_transfer {o : Order} {s : State} (hf : s.ports.transfer.inFlight = true)
    (hr : s.ports.transfer.record = some o) :
    (haltStacker s).ports.transfer = stopped s.ports.transfer ∧ (haltStacker s).stacker.heldTransfer = some o := by
  have kept (t : State) : (elevatorHalted t).ports.transfer = t.ports.transfer ∧
      (elevatorHalted t).stacker.heldTransfer = t.stacker.heldTransfer := by
    unfold elevatorHalted
    split <;> exact ⟨rfl, rfl⟩
  rw [haltStacker_eq, pushCut_ports, (pushCut_held _).1, (kept _).1, (kept _).2, transferHalted, flying_of hf hr]
  exact ⟨if_pos hf, rfl⟩

theorem haltStacker_elevator {o : Order} {s : State} (hf : s.ports.elevator.inFlight = true)
    (hr : s.ports.elevator.record = some o) :
    (haltStacker s).ports.elevator = stopped s.ports.elevator ∧ (haltStacker s).stacker.heldElevate = some o := by
  have kept : (transferHalted s).ports.elevator = s.ports.elevator := by
    unfold transferHalted
    split <;> rfl
  rw [haltStacker_eq, pushCut_ports, (pushCut_held _).2, elevatorHalted, kept, flying_of hf hr]
  exact ⟨if_pos hf, rfl⟩

/-- A running spindle is turned off and marked (R57, R111). -/
theorem haltSpindle_runs {s : State} (hr : s.outputs.spindleRun = true)
    (hs : s.spindle.state = .spinup ∨ s.spindle.state = .atSpeed) :
    (haltSpindle s).spindle.state = .coasting ∧ (haltSpindle s).outputs.spindleRun = false ∧
      (haltSpindle s).outputs.speedRef = 0 ∧ (haltSpindle s).cell.restart = true := by
  rw [haltSpindle, if_pos hr]
  rcases hs with hs | hs <;> simp [stopSpindle, hs]

theorem haltSpindle_off {s : State} (hr : s.outputs.spindleRun = false) : haltSpindle s = s := by
  rw [haltSpindle, if_neg (by simp [hr])]

/-- Every part but those that the stop of the spindle, the picker and the stacker change. -/
def offOrders : Parts :=
  { everyPart with router := false, portRouter := false, haltLatches := false }

/-- The stop of the picker's move and of the stacker. -/
theorem haltOrders_spindle (s : State) :
    (haltStacker (stallMove s)).spindle = s.spindle ∧ (haltStacker (stallMove s)).cell = s.cell ∧
      (haltStacker (stallMove s)).outputs.spindleRun = s.outputs.spindleRun ∧
      (haltStacker (stallMove s)).outputs.speedRef = s.outputs.speedRef := by
  let B : Parts := { everyPart with
    cell := false, idle := false, spindle := false, setpoint := false, timing := false, tach := false, outSpindle := false }
  have e : mask B (haltStacker (stallMove s)) = mask B s :=
    (haltStacker_mask _ rfl rfl rfl rfl).trans (stallMove_mask _ rfl rfl)
  have spindle := congrArg State.spindle e
  have cell := congrArg State.cell e
  exact ⟨spindle, cell, mask_outputs_spindleRun e rfl, mask_outputs_speedRef e rfl⟩

/-- What the stop of the spindle, the picker and the stacker leaves. -/
theorem haltOrders_router (s : State) :
    mask offOrders (haltStacker (stallMove (haltSpindle s))) = mask offOrders s :=
  (haltStacker_mask _ rfl rfl rfl rfl).trans ((stallMove_mask _ rfl rfl).trans (haltSpindle_mask _ rfl rfl rfl))

/-- The stop of the spindle and the picker leaves the stacker's ports. -/
theorem haltOrders_before (s : State) :
    mask { everyPart with portTransfer := false, portElevator := false } (stallMove (haltSpindle s)) =
      mask { everyPart with portTransfer := false, portElevator := false } s :=
  (stallMove_mask _ rfl rfl).trans (haltSpindle_mask _ rfl rfl rfl)

/-- The picker's move stopped and stalled (R140). -/
theorem haltOrders_picker {s : State} (hall : s.faults.allStop = true) (hf : s.ports.picker.inFlight = true) :
    pickerStopped (stopped s.ports.picker) (haltStacker (stallMove (haltSpindle s))) := by
  let B : Parts := { everyPart with picker := false, portPicker := false, haltLatches := false }
  have first : mask B (haltSpindle s) = mask B s := haltSpindle_mask _ rfl rfl rfl
  have port : (haltSpindle s).ports.picker = s.ports.picker := mask_ports_picker first rfl
  have last : mask B (haltStacker (stallMove (haltSpindle s))) = mask B (stallMove (haltSpindle s)) :=
    haltStacker_mask _ rfl rfl rfl rfl
  have stalls : (stallMove (haltSpindle s)).picker.stalled = true ∧
      (stallMove (haltSpindle s)).ports.picker = stopped s.ports.picker := by
    rw [stallMove, port, if_pos hf]
    exact ⟨rfl, if_pos hf⟩
  refine ⟨?_, (mask_picker_stalled last rfl).trans stalls.1, (mask_ports_picker last rfl).trans stalls.2⟩
  exact (mask_faults_allStop (haltOrders_router s) rfl).trans hall

/-- A raise that does not set ALL_STOP anew is the record alone. -/
theorem raise_quiet {src : Source} {d : Detail} {s : State}
    (h : ¬ ((raiseRecord src d s).faults.allStop = true ∧ s.faults.allStop = false)) :
    raise src d s = raiseRecord src d s := by
  rw [raise]
  exact if_neg (by simpa using h)

theorem raise_stops {src : Source} {d : Detail} {s : State} (h : (raiseRecord src d s).faults.allStop = true)
    (hs : s.faults.allStop = false) :
    raise src d s =
      interruptRouter raiseRecord false (haltStacker (stallMove (haltSpindle (raiseRecord src d s)))) := by
  rw [raise]
  exact if_pos (by simp [h, hs])

end Sys2Proof.Machine

/-! #### What was held back goes on (R94, R129, R153, R157, R158, R161) -/

namespace Sys2Proof.Machine

theorem moveMayResume_iff (s : State) :
    moveMayResume s = true ↔ s.faults.allStop = false ∧ s.faults.cutStop = false ∧
      ∀ r ∈ s.faults.waiting ++ s.faults.stack, r.source ≠ Source.pickerTimeout := by
  rw [moveMayResume, Bool.and_eq_true, Option.isNone_iff_eq_none, recordOf_eq_none]
  simp [latched, and_assoc]

theorem presentMove_eq {o : Order} {s : State} (h : moveOrder s = some o) :
    presentMove s = (s.withPorts { s.ports with picker := strobed o s.ports.picker }).withPicker
      { s.picker with moveTimer := some 3000, stalled := false } := by
  simp only [presentMove, h]
  rfl

/-- What presents a CUT that was held back (R94). -/
theorem cutMayPresent_iff (s : State) :
    cutMayPresent s = true ↔ s.faults.allStop = false ∧ s.faults.cutStop = false ∧ s.spindle.state = .atSpeed := by
  simp [cutMayPresent, latched, and_assoc]

theorem presentHeldCut_waiting {op : Operation} {s : State} (hs : s.router.state = .cut)
    (ho : s.router.operation = some op) (hp : s.router.presented = false) (hf : s.ports.router.inFlight = false) :
    presentHeldCut s = presentOrHoldCut op s := by
  simp only [presentHeldCut, hs, ho, hp, hf]
  rfl

/-- A transfer order held back, presented (R153). -/
def transferSent (s : State) : State :=
  (s.withPorts { s.ports with
      transfer := match s.stacker.heldTransfer with | some o => strobed o s.ports.transfer | none => s.ports.transfer
      }).withStacker
    { s.stacker with
      transferTimer := if s.stacker.heldTransfer.isSome then some 3000 else s.stacker.transferTimer
      heldTransfer := none }

/-- An elevator order held back, presented (R153). -/
def elevatorSent (s : State) : State :=
  (s.withPorts { s.ports with
      elevator := match s.stacker.heldElevate with | some o => strobed o s.ports.elevator | none => s.ports.elevator
      }).withStacker
    { s.stacker with
      elevateTimer := if s.stacker.heldElevate.isSome then some 4000 else s.stacker.elevateTimer
      heldElevate := none }

theorem transferSent_some {o : Order} {s : State} (h : mayMove s) (ho : s.stacker.heldTransfer = some o) :
    dueTransfer o s = transferSent s := by
  rw [dueTransfer_moves h]
  simp [transferSent, ho]

theorem transferSent_none {s : State} (ho : s.stacker.heldTransfer = none) : transferSent s = s := by
  have same : { s.stacker with heldTransfer := none } = s.stacker := by rw [← ho]
  simp only [transferSent, ho, Option.isSome_none, Bool.false_eq_true, if_false]
  exact congrArg s.withStacker same

theorem elevatorSent_some {o : Order} {s : State} (h : mayMove s) (ho : s.stacker.heldElevate = some o) :
    dueElevate o s = elevatorSent s := by
  rw [dueElevate_moves h]
  simp [elevatorSent, ho]

theorem elevatorSent_none {s : State} (ho : s.stacker.heldElevate = none) : elevatorSent s = s := by
  have same : { s.stacker with heldElevate := none } = s.stacker := by rw [← ho]
  simp only [elevatorSent, ho, Option.isSome_none, Bool.false_eq_true, if_false]
  exact congrArg s.withStacker same

/-- The orders held back, presented once the stacker is free to move (R153). -/
theorem presentHeldBack_eq {s : State} (h : mayMove s) : presentHeldBack s = elevatorSent (transferSent s) := by
  have second {t : State} (ht : mayMove t) :
      (match t.stacker.heldElevate with | some o => dueElevate o t | none => t) = elevatorSent t := by
    cases ho : t.stacker.heldElevate with
    | none => exact (elevatorSent_none ho).symm
    | some o => exact elevatorSent_some ht ho
  rw [presentHeldBack, if_pos ((freeToMove_iff s).2 h)]
  cases ho : s.stacker.heldTransfer with
  | none => rw [transferSent_none ho]; exact second h
  | some o => 
    dsimp only
    rw [transferSent_some h ho]
    exact second h

/-- The recovery of a push begun (R161). -/
def pushResumed (s : State) : State :=
  s.withStacker { s.stacker with recovery := false, recovering := true, heldStroke := false }

/-- A recovery at home, about to read its slot. -/
def pushRecovered (s : State) : State := s.withStacker { s.stacker with recovering := false, homeWait := none }

section
variable {s : State} (hs : s.stacker.state = .push) (hm : mayMove s)
include hs hm

theorem resumePush_stroke (hr : s.stacker.recovery = false) (hh : s.stacker.heldStroke = true) :
    resumePush s =
      let t := s.withStacker { s.stacker with heldStroke := false }
      if asserted s 7 then startLeave t else t.withStacker { t.stacker with homeWait := some 1500 } := by
  rw [resumePush, if_pos (by simp [hs, (freeToMove_iff s).2 hm]), hr, if_neg (by decide), hh, if_pos rfl]
  rfl

/-- A push cut short, taken up again (R161). -/
theorem resumePush_recovery (hr : s.stacker.recovery = true) :
    resumePush s = if asserted s 7 then recoverPush (pushResumed s)
      else (pushResumed s).withStacker { (pushResumed s).stacker with homeWait := some 1500 } := by
  rw [resumePush, if_pos (by simp [hs, (freeToMove_iff s).2 hm]), hr, if_pos rfl]
  rfl

end

theorem recoverPush_eq {h : Hand} {x : Bay} {slot : Nat} {s : State} (hh : s.stacker.hand = some h)
    (ht : s.stacker.target = some x) (hs : s.stacker.slot = some slot) :
    recoverPush s = if asserted s 8 then slotFilled h x slot (pushRecovered s) else startLeave (pushRecovered s) := by
  have whole : recoverPush s = match s.stacker.hand, s.stacker.target, s.stacker.slot with
    | some h, some x, some slot =>
      if asserted s 8 then slotFilled h x slot (pushRecovered s) else startLeave (pushRecovered s)
    | _, _, _ => pushRecovered s := rfl
  rw [whole, hh, ht, hs]

/-- Settles O54. -/
theorem allStopStopsTheUnits : Obligations.AllStopStopsTheUnits := by
  refine ⟨fun src d s => ⟨fun h => ?quiet, fun h hs => ?stops⟩, fun o s => ?resume, fun op s hs ho hp hf => ?cut,
    fun s => ⟨fun h => (presentHeldBack_eq h).trans rfl, fun h => ?notHeld⟩, fun h x slot d s => ?push⟩
  case quiet =>
    refine ⟨raise_quiet h, ?_, ?_, ?_, ?_, ?_, ?_⟩ <;>
      exact raiseRecord_part (fun _ _ => rfl) (fun _ _ => rfl) (fun _ _ => rfl) ..
  case stops =>
    have ports : (raiseRecord src d s).ports = s.ports := raiseRecord_part (fun _ _ => rfl) (fun _ _ => rfl) (fun _ _ => rfl) ..
    have router : (raiseRecord src d s).router = s.router := raiseRecord_part (fun _ _ => rfl) (fun _ _ => rfl) (fun _ _ => rfl) ..
    have spindle : (raiseRecord src d s).spindle = s.spindle := raiseRecord_part (fun _ _ => rfl) (fun _ _ => rfl) (fun _ _ => rfl) ..
    have outputs : (raiseRecord src d s).outputs = s.outputs := raiseRecord_part (fun _ _ => rfl) (fun _ _ => rfl) (fun _ _ => rfl) ..
    have restart := raiseRecord_restart src d s
    have u := raise_stops h hs
    generalize raiseRecord src d s = r at h u ports router spindle outputs restart
    let halted := haltStacker (stallMove (haltSpindle r))
    have units := interruptRouter_units halted
    have kept := haltOrders_router r
    obtain ⟨spun, celled, runs, refs⟩ := haltOrders_spindle (haltSpindle r)
    have before := haltOrders_before r
    have routed := interruptRouter_router halted
    rw [u]
    refine ⟨?_, routed.1, fun hrun hon => ?_, fun hoff => ?_, fun hne hf => ?_, fun hf => ?_, fun o hf hr => ?_,
      fun o hf hr => ?_⟩
    · exact (mask_outputs_push units rfl).trans (haltStacker_push _)
    · obtain ⟨coasts, off, zero, marked⟩ := haltSpindle_runs (s := r) (by rw [outputs, hon]) (by rw [spindle]; exact hrun)
      refine ⟨(mask_spindle_state units rfl).trans ?_, (mask_outputs_spindleRun units rfl).trans (runs.trans off),
        (mask_outputs_speedRef units rfl).trans (refs.trans zero), ?_⟩
      · rw [spun, coasts]
      · rw [interruptRouter_restart, celled, marked]
    · have same : haltSpindle r = r := haltSpindle_off (by rw [outputs, hoff])
      have last := congrArg State.spindle units
      refine ⟨?_, ?_⟩
      · exact last.trans (spun.trans (by rw [same, spindle]))
      · rw [interruptRouter_restart, celled, same, restart]
    · have port : halted.ports.router = s.ports.router := (mask_ports_router kept rfl).trans (by rw [ports])
      rw [← port]
      refine routed.2 ?_ (by rw [port, hf])
      rw [mask_router_state kept rfl, router]
      exact hne
    · have stops := haltOrders_picker (s := r) h (by rw [ports, hf])
      rw [ports] at stops
      obtain ⟨-, stalled, port⟩ := interruptRouter_picker stops
      exact ⟨port, stalled⟩
    · have port : (stallMove (haltSpindle r)).ports.transfer = s.ports.transfer :=
        (mask_ports_transfer before rfl).trans (by rw [ports])
      obtain ⟨stop, held⟩ := haltStacker_transfer (s := stallMove (haltSpindle r)) (by rw [port, hf]) (by rw [port, hr])
      have last := congrArg State.stacker units
      refine ⟨(mask_ports_transfer units rfl).trans (by rw [stop, port]), ?_⟩
      exact (congrArg Stacker.heldTransfer last).trans held
    · have port : (stallMove (haltSpindle r)).ports.elevator = s.ports.elevator :=
        (mask_ports_elevator before rfl).trans (by rw [ports])
      obtain ⟨stop, held⟩ := haltStacker_elevator (s := stallMove (haltSpindle r)) (by rw [port, hf]) (by rw [port, hr])
      have last := congrArg State.stacker units
      refine ⟨(mask_ports_elevator units rfl).trans (by rw [stop, port]), ?_⟩
      exact (congrArg Stacker.heldElevate last).trans held
  case resume => 
    intro mayGo due
    refine ⟨fun hst hgo hdue => ?_, fun hno => ?_⟩
    · have order : moveOrder s = some o := by
        obtain ⟨hst, g, hg, rfl⟩ | ⟨hst, ⟨n, hn, rfl⟩ | ⟨hn, hr⟩⟩ | ⟨hst, rfl⟩ := hdue
        · simp [moveOrder, hst, hg]
        · simp [moveOrder, hst, hn]
        · simp [moveOrder, hst, hn, hr]
        · simp [moveOrder, hst]
      rw [presentStalled, hst, (moveMayResume_iff s).2 hgo, presentMove_eq order]
      rfl
    · rw [presentStalled, if_neg]
      rw [Bool.and_eq_true, moveMayResume_iff, not_and_or]
      exact hno.imp_left (by simp [·])
  case cut =>
    rw [presentHeldCut_waiting hs ho hp hf, presentOrHoldCut]
    intro mayCut feed time cut
    exact ⟨fun h => by rw [if_pos ((cutMayPresent_iff s).2 h)]; rfl, fun h => if_neg (mt (cutMayPresent_iff s).1 h)⟩
  case notHeld => rw [presentHeldBack, if_neg (mt (freeToMove_iff s).1 h)]
  case push =>
    intro home pushing
    refine ⟨fun hno => ?_, fun hs hm hr hheld => ⟨fun hh => ?_, fun hh => ?_⟩, fun hs hm hr => ⟨fun hh => ?_, fun hh hhand ht hslot hd =>
      ⟨fun hv => ?_, fun hv => ?_⟩⟩⟩
    · rw [resumePush]
      by_cases hgo : s.stacker.state = .push ∧ mayMove s
      · obtain ⟨hr, hheld⟩ := (hno.resolve_left (not_not_intro hgo.1)).resolve_left (not_not_intro hgo.2)
        simp [hr, hheld]
      · rw [if_neg]
        simpa [freeToMove_iff] using hgo
    · rw [resumePush_stroke hs hm hr hheld, (asserted_iff s 7).2 hh]
      rfl
    · rw [resumePush_stroke hs hm hr hheld, (not_asserted_iff s 7).2 hh]
      rfl
    · rw [resumePush_recovery hs hm hr, (not_asserted_iff s 7).2 hh]
      rfl
    all_goals
      have level : asserted (pushResumed s) 8 = asserted s 8 := rfl
      rw [resumePush_recovery hs hm hr, (asserted_iff s 7).2 hh, if_pos rfl,
        recoverPush_eq (s := pushResumed s) hhand ht hslot, level]
    · rw [(not_asserted_iff s 8).2 hv]
      rfl
    · rw [(asserted_iff s 8).2 hv, if_pos rfl,
        slotFilled_eq (d := d) (by rw [bayOf_congr (t := s) (by simp [pushRecovered, pushResumed]) x, hd])]
      cases x <;> rfl

end Sys2Proof.Machine

/-! ### VACUUM_OK (R86, R87, R131, R133 to R136) -/

namespace Sys2Proof.Machine

theorem acceptLine_vacuum_low {s : State} (h : low s 5) : acceptLine 5 true s = vacuumAsserted (accepted 5 true s) := by
  rw [acceptLine_low h]
  rfl

theorem acceptLine_vacuum_high {s : State} (h : (getAt s.lines.ded 5).filter.level = some true) :
    acceptLine 5 false s = vacuumDeasserted (accepted 5 false s) := by
  rw [acceptLine_high h]
  rfl

/-- The order in flight, if any, stopped; the router and the probe IDLE (R76, R77, R93). -/
theorem dropRouter_eq (s : State) :
    dropRouter s = ((s.withPorts
        { s.ports with router := if s.ports.router.inFlight then stopped s.ports.router else s.ports.router }).withRouter
        { s.router with
          state := .idle, operation := none, presented := false, timer := none
          clearance := s.router.clearance || s.ports.router.inFlight }).withProbe
        { s.probe with state := .idle, work := none, moveTimer := none } := by
  cases hf : s.ports.router.inFlight with
  | true => simp [dropRouter_flying hf]
  | false =>
    simp only [dropRouter, stopRouterPort, hf, Bool.false_eq_true, if_false, Bool.or_false]
    rfl

/-- The board whose hold has ended before it was freed returns to READY (R86). -/
def holdReturned (b : Fin 64) (s : State) : State := if boardState s b = some .held then setBoard b .ready s else s

/-- What follows a lost hold: a regrip, or a failed grip where the regrip is used (R134, R135). -/
def gripAgain (used : Bool) (b : Fin 64) (s : State) : State :=
  if s.picker.state = .holding ∧ s.picker.board = some b then
    if used then gripFails raise s else vacuumPause false s
  else s

/-- The regrip mark set (R134). -/
def regripped (b : Fin 64) (s : State) : State := modBoard b (fun r => { r with regrip := true }) s

theorem setBoard_regripped (b : Fin 64) (s : State) :
    setBoard b .ready (regripped b s) = modBoard b (fun r => { r with regrip := true, state := .ready }) s := by
  simp only [setBoard, regripped, modBoard, State.withSeq_seq, Table.modify_modify]
  rfl

theorem holdLost_eq {b : Fin 64} {r : BoardRun} {s : State}
    (hs : (raise Source.vacuumLost (.board b) s).picker.state = .holding)
    (hb : (raise Source.vacuumLost (.board b) s).picker.board = some b)
    (hr : boardRun (raise Source.vacuumLost (.board b) s) b = some r) :
    holdLost raise b s =
      gripAgain r.regrip b (holdEnds raise b (regripped b (raise Source.vacuumLost (.board b) s))) := by
  have used : regripUsed (raise Source.vacuumLost (.board b) s) b = r.regrip := by simp only [regripUsed, hr]
  unfold holdLost gripAgain
  simp only [used, Bool.and_eq_true, decide_eq_true_eq]
  exact if_pos ⟨hs, hb⟩

/-- The hold's end stops the operation on the board's release tab (R86). -/
theorem holdEnds_interrupts {b : Fin 64} {t : Fin 256} {s : State} (ht : releaseTab s b = some t)
    (hs : tabState s t = some .cutting ∨ tabState s t = some .verifying) :
    holdEnds raise b s = holdReturned b (interruptRouter raise false s) := by
  have runs : (decide (tabState s t = some .cutting) || decide (tabState s t = some .verifying)) = true := by
    simpa using hs
  simp only [holdEnds, ht, runs, if_true]
  rfl

theorem holdEnds_quiet {b : Fin 64} {s : State}
    (h : ∀ t, releaseTab s b = some t → tabState s t ≠ some .cutting ∧ tabState s t ≠ some .verifying) :
    holdEnds raise b s = holdReturned b s := by
  unfold holdEnds
  cases ht : releaseTab s b with
  | none => rfl
  | some t =>
    obtain ⟨hc, hv⟩ := h t ht
    simp only [hc, hv, decide_false, Bool.or_false, Bool.false_eq_true, if_false]
    rfl

theorem holdReturned_held {b : Fin 64} {s : State} (h : boardState s b = some .held) :
    holdReturned b s = setBoard b .ready s := if_pos h

theorem holdReturned_other {b : Fin 64} {s : State} (h : boardState s b ≠ some .held) : holdReturned b s = s := if_neg h

/-- A failed grip (R131). -/
theorem gripFails_eq {b : Fin 64} {s : State} (hb : s.picker.board = some b) :
    gripFails raise s = homeward (releaseReservation b (raise Source.gripFailed (.board b)
      ((s.withPicker { s.picker with gripTimer := none, vacOffTimer := none }).withOutputs
        { s.outputs with vacuumOn := false }))) := by
  simp only [gripFails, hb, enterReturning_eq]
  rfl

theorem gripAgain_holds {used : Bool} {b : Fin 64} {s : State} (hs : s.picker.state = .holding)
    (hb : s.picker.board = some b) :
    gripAgain used b s = if used then homeward (releaseReservation b (raise Source.gripFailed (.board b)
        ((s.withPicker { s.picker with gripTimer := none, vacOffTimer := none }).withOutputs
          { s.outputs with vacuumOn := false })))
      else (s.withPicker { s.picker with state := .gripping, retry := false, gripTimer := none, vacOffTimer := some 50 }).withOutputs
          { s.outputs with vacuumOn := false } := by
  rw [gripAgain, if_pos ⟨hs, hb⟩, gripFails_eq hb]
  rfl

theorem gripAgain_released {used : Bool} {b : Fin 64} {s : State} (hs : s.picker.state ≠ .holding) :
    gripAgain used b s = s := if_neg fun h => hs h.1

/-- A board dropped by a move that goes on (R136). -/
theorem boardDropped_moving {b : Fin 64} {s : State}
    (h : (boardLostEarly b (raise Source.boardDropped (.board b) (setVacuum false s))).picker.stalled = false) :
    boardDropped raise b s =
      let dropped := boardLostEarly b (raise Source.boardDropped (.board b) (setVacuum false s))
      dropped.withPicker { dropped.picker with board := none, serial := none, nest := none } := by
  unfold boardDropped
  exact if_neg (by simp [h])

theorem vacuumDeasserted_away {s : State} (hh : s.picker.state ≠ .holding) (hc : s.picker.state ≠ .carrying) :
    vacuumDeasserted s = s := by
  unfold vacuumDeasserted
  split
  · next h _ => exact absurd h hh
  · next h _ => exact absurd h hc
  · rfl

/-- Settles O41. -/
theorem vacuumChanges : Obligations.VacuumChanges := by
  refine ⟨fun ms b s hl => ⟨fun hs ht ho hb hr hu => exec_event rfl ?holds hu, fun hs hu => exec_event rfl ?away hu⟩,
    fun b r s hl => ⟨fun hs hb hs' hb' hr hheld => ?lost, fun hs hb hst hd hu => exec_event rfl ?dropped hu,
      fun hh hc hu => exec_event rfl ?quiet hu⟩⟩
  case holds =>
    have asserted : vacuumAsserted (accepted 5 true s) = gripped (accepted 5 true s) :=
      if_pos (by simp [hs, ht, ho])
    rw [acceptLine_vacuum_low hl, asserted, gripped_ready (s := accepted 5 true s) hb hr]
    rfl
  case away =>
    rw [acceptLine_vacuum_low hl]
    exact if_neg (by simp [hs])
  case dropped =>
    have drops : vacuumDeasserted (accepted 5 false s) = boardDropped raise b (accepted 5 false s) := by
      simp only [vacuumDeasserted, accepted_picker, hs, hb]
    rw [acceptLine_vacuum_high hl, drops]
    exact boardDropped_moving hd
  case quiet =>
    rw [acceptLine_vacuum_high hl]
    exact vacuumDeasserted_away (s := accepted 5 false s) hh hc
  case lost =>
    have e : acceptLine 5 false s = gripAgain r.regrip b
        (holdEnds raise b (regripped b (raise Source.vacuumLost (.board b) (accepted 5 false s)))) := by
      rw [acceptLine_vacuum_high hl, ← holdLost_eq hs' hb' hr]
      simp only [vacuumDeasserted, accepted_picker, hs, hb]
    generalize raise Source.vacuumLost (.board b) (accepted 5 false s) = lost at hs' hb' hr e ⊢
    have held : boardState (regripped b lost) b = some .held := by
      simp [boardState, regripped, boardRun_modBoard, hr, hheld]
    refine ⟨fun hno hu => exec_event rfl (e.trans ?_) hu, fun t ht hcut => ?_⟩
    · rw [holdEnds_quiet (s := regripped b lost) hno, holdReturned_held held, setBoard_regripped]
      exact gripAgain_holds hs' hb'
    · intro port idle follows
      have drop : dropRouter (regripped b lost) = idle := dropRouter_eq _
      have follow {ended : State} (h : interruptRouter raise false (regripped b lost) = ended) : follows ended := by
        have whole : acceptLine 5 false s = gripAgain r.regrip b (holdReturned b ended) := by
          rw [e, holdEnds_interrupts (s := regripped b lost) ht hcut, h]
        refine ⟨fun hst hbd hh hu => exec_event rfl (whole.trans ?_) hu, fun hst hh hu => exec_event rfl (whole.trans ?_) hu⟩
        · rw [holdReturned_held hh]
          exact gripAgain_holds hst hbd
        · rw [holdReturned_other hh]
          exact gripAgain_released hst
      refine ⟨fun op hc ho => follow ?_, fun w hv hw => follow ?_⟩
      · rw [interruptRouter_cut (s := regripped b lost) hc ho, drop]
        rfl
      · rw [interruptRouter_verify (s := regripped b lost) hv hw, drop]
        rfl

end Sys2Proof.Machine

/-! ### Front and window, the picker's grant, and the stacker's choice of a bay (R70, R83, R84, R130, R144, R145, R153, R154, R160) -/

namespace Sys2Proof.Machine

/-! #### Front and window (R70) -/

theorem boardIs_mayFront_iff (s : State) (b : Fin 64) :
    boardIs s BoardState.mayFront b = true ↔
      boardState s b ∈ [some .waiting, some .precut, some .ready, some .held] := by
  unfold boardIs
  rcases boardState s b with _ | x
  · simp
  · cases x <;> simp [BoardState.mayFront]

theorem boardIs_mayWindow_iff (s : State) (b : Fin 64) :
    boardIs s BoardState.mayWindow b = true ↔
      boardState s b ∈ [some .waiting, some .precut, some .ready] := by
  unfold boardIs
  rcases boardState s b with _ | x
  · simp
  · cases x <;> simp [BoardState.mayWindow]

theorem fromFront_eq_cons {s : State} {b : Fin 64} {before after : List (Fin 64)}
    (h : s.seq.order = before ++ b :: after)
    (hbefore : ∀ c ∈ before, boardIs s BoardState.mayFront c = false)
    (hb : boardIs s BoardState.mayFront b = true) : fromFront s = b :: after := by
  rw [fromFront, h, List.dropWhile_append_of_pos (fun c hc => by simp [hbefore c hc]),
    List.dropWhile_cons_of_neg (by simp [hb])]

theorem fromFront_eq_nil {s : State} (h : ∀ b ∈ s.seq.order, boardIs s BoardState.mayFront b = false) :
    fromFront s = [] := by
  rw [fromFront, List.dropWhile_eq_nil_iff]
  exact fun c hc => by simp [h c hc]

/-! #### The grant (R83, R84, R130, R144) -/

theorem canReserve_iff (s : State) :
    canReserve s = true ↔ s.nests.length < 3 ∧ ∀ e ∈ s.nests, e.state = .occupied := by
  simp only [canReserve, Bool.and_eq_true, decide_eq_true_eq, List.all_eq_true]
  refine and_congr_right fun _ => forall₂_congr fun e _ => ?_
  cases e.state <;> decide

theorem freeNest_eq {s : State} {n : Fin 3} (hfree : ∀ e ∈ s.nests, e.nest ≠ n)
    (hlowest : ∀ m, m < n → ∃ e ∈ s.nests, e.nest = m) : freeNest s = some n := by
  have free : (s.nests.all fun e => decide (e.nest ≠ n)) = true := by
    simpa only [List.all_eq_true, decide_eq_true_eq] using hfree
  have used (m : Fin 3) (hm : m < n) : (s.nests.all fun e => decide (e.nest ≠ m)) = false := by
    obtain ⟨e, he, hem⟩ := hlowest m hm
    exact List.all_eq_false.2 ⟨e, he, by simp [hem]⟩
  unfold freeNest
  match n with
  | 0 => simp only [List.find?_cons, free]
  | 1 => simp only [List.find?_cons, used 0 (by decide), free]
  | 2 => simp only [List.find?_cons, used 0 (by decide), used 1 (by decide), free]

theorem recordIn_eq_false {f : Faults} {lo hi : Nat}
    (h : ∀ q ∈ f.waiting ++ f.stack, q.source.val < lo ∨ hi < q.source.val) : recordIn f lo hi = false := by
  rw [recordIn, List.any_eq_false]
  exact fun q hq => by
    rw [inRange, Bool.and_eq_true, decide_eq_true_eq, decide_eq_true_eq, not_and_or, Nat.not_le, Nat.not_le]
    exact h q hq

theorem grantBoard_eq {b : Fin 64} {n : Fin 3} {d : BoardDef} {p : PanelRec} {r : BoardRun} {s : State}
    (h : s.faults.allStop = false) :
    let e : NestEntry := { nest := n, board := b, serial := p.serial, disposition := r.disposition, state := .reserved }
    let order := Order.approach (d.pickX + p.dx) (d.pickY + p.dy) d.height
    grantBoard b n d p r s = (((s.withNests (s.nests ++ [e])).withSeq
        { s.seq with boards := Table.modify b (fun r => { r with nest := some n }) s.seq.boards }).withPorts
        { s.ports with picker := strobed order s.ports.picker }).withPicker
        { s.picker with
          state := .approach, board := some b, serial := some p.serial, nest := some n
          target := some { x := d.pickX + p.dx, y := d.pickY + p.dy, height := d.height }
          retry := false, withdrawn := false, moveTimer := some 3000, stalled := false } := by
  simp only [grantBoard, dueMove]
  rw [if_neg (by simp [modBoard, h]), presentMove_eq rfl]
  rfl

theorem grantable_of {s : State} (hidle : s.picker.state = .idle) (hmode : s.cell.mode = .running)
    (hlatch : latched s.faults = false)
    (hquiet : ∀ q ∈ s.faults.waiting ++ s.faults.stack, q.source.val < 9 ∨ 12 < q.source.val)
    (hocc : ∀ e ∈ s.nests, e.state = .occupied) (hlen : s.nests.length < 3) : grantable s = true := by
  simp [grantable, hidle, hmode, hlatch, recordIn_eq_false hquiet, (canReserve_iff s).2 ⟨hlen, hocc⟩]

theorem placementConfirmed_eq (b : Fin 64) (n : Fin 3) (s : State) :
    placementConfirmed b n s = homeward ((s.withNests (s.nests.map fun e =>
        if e.nest = n ∧ e.state = .reserved then { e with state := .occupied } else e)).withSeq
      { s.seq with
        boards := Table.modify b (fun r => { r with state := .queued }) s.seq.boards
        records := s.seq.records.map fun p =>
          if p.state = .cutting then { p with outstanding := p.outstanding + 1 } else p }) := by
  rw [placementConfirmed, enterReturning_eq]
  simp only [tallyCutting, modRecords, setBoard, modBoard, Bool.and_eq_true, decide_eq_true_eq]
  rfl

/-! #### The bay of a GOOD board (R154, R160) -/

theorem bayChoice_some {s : State} {x : Bay} (h : mayTake s x) : bayChoice s = some x := by
  unfold bayChoice
  cases x with
  | a =>
    rcases h with ⟨hx, -⟩ | ⟨hx, ha, hb, -⟩
    · exact if_pos hx
    · rw [if_neg ha, if_neg hb]
      exact if_pos hx
  | b =>
    rcases h with ⟨hx, ha⟩ | ⟨hx, ha, hb, hr⟩
    · rw [if_neg (ha rfl)]
      exact if_pos hx
    · rw [if_neg ha, if_neg hb, if_neg (hr rfl)]
      exact if_pos hx

theorem mayTake_of_bayChoice {s : State} {x : Bay} (h : bayChoice s = some x) : mayTake s x := by
  unfold bayChoice at h
  split_ifs at h with haa hba har hbr <;> obtain rfl := Option.some.inj h
  · exact .inl ⟨haa, nofun⟩
  · exact .inl ⟨hba, fun _ => haa⟩
  · exact .inr ⟨har, haa, hba, nofun⟩
  · exact .inr ⟨hbr, haa, hba, fun _ => har⟩

theorem bayChoice_none {s : State} (h : ∀ x, ¬ mayTake s x) : bayChoice s = none :=
  Option.eq_none_iff_forall_ne_some.2 fun x hx => h x (mayTake_of_bayChoice hx)

/-- The board in hand takes the bay with this slot. -/
def bayTaken (x : Bay) (slot : Nat) (s : State) : State :=
  (setBay x { bayOf s x with state := .active } s).withStacker
    { s.stacker with target := some x, slot := some slot, elevated := false }

theorem elevateFor_takeBay {x : Bay} {d : FillDesc} {slot : Nat} {s : State} (hd : (bayOf s x).desc = some d)
    (hslot : d.next = some slot) :
    elevateFor x (takeBay x s) = dueElevate (.elevate x (d.values.base + slot * d.values.pitch)) (bayTaken x slot s) := by
  have desc : (bayOf (takeBay x s) x).desc = some d := by cases x <;> exact hd
  simp only [elevateFor, desc, hslot]
  cases x <;> rfl

theorem mayMove_bayTaken {x : Bay} {slot : Nat} {s : State} : mayMove (bayTaken x slot s) ↔ mayMove s := by
  cases x <;> rfl

/-! #### A cycle begins (R154) -/

/-- The head entry's board in hand and fetched. -/
def cycleBegun (e : NestEntry) (s : State) : State :=
  (s.withPorts { s.ports with transfer := strobed (.fromNest e.nest) s.ports.transfer }).withStacker
    { s.stacker with
      state := .fetch
      hand := some { board := e.board, serial := e.serial, disposition := e.disposition, nest := e.nest }
      target := none, slot := none, elevated := false, transferTimer := some 3000, heldTransfer := none }

theorem startCycle_stays {s : State} (h : s.stacker.state ≠ .idle ∨ ¬ mayMove s) : startCycle s = s := by
  refine if_neg fun hc => ?_
  rw [Bool.and_eq_true, decide_eq_true_eq, freeToMove_iff] at hc
  exact h.elim (· hc.1) (· hc.2)

theorem startCycle_occupied {e : NestEntry} {more : List NestEntry} {s : State} (hn : s.nests = e :: more)
    (he : e.state = .occupied) (hidle : s.stacker.state = .idle) (hm : mayMove s) :
    startCycle s =
      if e.disposition = .good then
        match bayChoice (cycleBegun e s) with
        | some x => elevateFor x (takeBay x (cycleBegun e s))
        | none => cycleBegun e s
      else cycleBegun e s := by
  rw [startCycle, if_pos (by simp [hidle, (freeToMove_iff s).2 hm])]
  simp only [hn, he, if_true]
  rw [dueTransfer_moves (by exact hm)]
  rfl

/-! #### The bay choice made again (R154, R160) -/

/-- A GOOD board is in hand without a target bay, before its push. -/
theorem untargeted_iff {h : Hand} {s : State} (hh : s.stacker.hand = some h) :
    untargeted s = true ↔ h.disposition = .good ∧ s.stacker.target = none ∧
      (s.stacker.state = .fetch ∨ s.stacker.state = .checkSlot ∨ s.stacker.state = .present ∨
        s.stacker.state = .waitBay) := by
  simp only [untargeted, hh, Bool.and_eq_true, decide_eq_true_eq, Option.isNone_iff_eq_none, and_assoc]
  refine and_congr_right fun _ => and_congr_right fun _ => ?_
  cases s.stacker.state <;> decide

theorem retarget_takes {x : Bay} {s : State} (hopen : untargeted s = true) (hx : bayChoice s = some x) :
    retarget s =
      let u := elevateFor x (takeBay x s)
      u.withStacker { u.stacker with state := if u.stacker.state = .fetch then .fetch else .checkSlot } := by
  rw [retarget, if_pos hopen]
  simp only [hx]
  split_ifs with hf
  · rw [← hf]
    rfl
  · rfl

theorem awaitBay_waits {s : State} (hopen : untargeted s = true) (hfetch : s.stacker.state ≠ .fetch)
    (hport : s.ports.transfer.inFlight = false) (hheld : s.stacker.heldTransfer = none) :
    awaitBay s = s.withStacker { s.stacker with state := .waitBay } :=
  if_pos (by simp [hopen, transferBusy, hport, hheld, hfetch])

theorem retarget_moves {x : Bay} {d : FillDesc} {slot : Nat} {s : State} (hopen : untargeted s = true)
    (hx : mayTake s x) (hd : (bayOf s x).desc = some d) (hslot : d.next = some slot) (hm : mayMove s) :
    retarget s = ((setBay x { bayOf s x with state := .active } s).withPorts
        { s.ports with
          elevator := strobed (.elevate x (d.values.base + slot * d.values.pitch)) s.ports.elevator }).withStacker
      { s.stacker with
        state := if s.stacker.state = .fetch then .fetch else .checkSlot
        target := some x, slot := some slot, elevated := false, elevateTimer := some 4000, heldElevate := none } := by
  rw [retarget_takes hopen (bayChoice_some hx), elevateFor_takeBay hd hslot, dueElevate_moves (mayMove_bayTaken.2 hm)]
  cases x <;> rfl

theorem retarget_held {x : Bay} {d : FillDesc} {slot : Nat} {s : State} (hopen : untargeted s = true)
    (hx : mayTake s x) (hd : (bayOf s x).desc = some d) (hslot : d.next = some slot) (hm : ¬ mayMove s) :
    retarget s = (setBay x { bayOf s x with state := .active } s).withStacker
      { s.stacker with
        state := if s.stacker.state = .fetch then .fetch else .checkSlot
        target := some x, slot := some slot, elevated := false
        heldElevate := some (.elevate x (d.values.base + slot * d.values.pitch)) } := by
  rw [retarget_takes hopen (bayChoice_some hx), elevateFor_takeBay hd hslot,
    dueElevate_held (mt mayMove_bayTaken.1 hm)]
  cases x <;> rfl

/-- Settles O42: the front by the split of the release order at it, the grant and the cycle by their conditions, the
choice made again by whether the stacker may move. -/
theorem grantReserves : Obligations.GrantReserves := by
  unfold Obligations.GrantReserves
  refine ⟨fun s => ⟨fun b before after horder hbefore hb => ?_, fun hnone => ?_⟩,
    fun b d p r n s hidle hmode hlatch hquiet hocc hlen hfree hlowest hfront hrun hready hdef hrec => ?_,
    placementConfirmed_eq,
    fun e more s => ⟨startCycle_stays, fun hn => ?_, fun hn he => ?_, fun hn he hidle hm => ?_⟩,
    fun h x d slot s hh => ⟨fun hstays => ?_, fun hopen hx hd hslot => ?_, fun hopen hfetch hport hheld => ?_,
      fun hstays => ?_⟩⟩
  · have starts : fromFront s = b :: after :=
      fromFront_eq_cons horder (fun c hc => Bool.eq_false_iff.2 (mt (boardIs_mayFront_iff s c).1 (hbefore c hc)))
        ((boardIs_mayFront_iff s b).2 hb)
    have follow : boardIs s BoardState.mayWindow =
        fun c => decide (boardState s c ∈ [some .waiting, some .precut, some .ready]) :=
      funext fun c => by rw [Bool.eq_iff_iff, boardIs_mayWindow_iff, decide_eq_true_eq]
    exact ⟨by rw [front, starts]; rfl, by simp only [window, starts, follow]⟩
  · have starts : fromFront s = [] :=
      fromFront_eq_nil fun c hc => Bool.eq_false_iff.2 (mt (boardIs_mayFront_iff s c).1 (hnone c hc))
    exact ⟨by rw [front, starts]; rfl, by simp only [window, starts]⟩
  · have stops : s.faults.allStop = false := (Bool.or_eq_false_iff.1 hlatch).1
    rw [grant, if_pos (grantable_of hidle hmode hlatch hquiet hocc hlen)]
    simp only [hfront, hrun, freeNest_eq hfree hlowest, hdef, hrec, hready, if_true]
    exact grantBoard_eq stops
  · simp only [startCycle, hn, ite_self]
  · simp only [startCycle, hn, he, if_neg (show ¬ EntryState.reserved = .occupied by decide), ite_self]
  · refine ⟨fun hnone => ?_, fun x d slot hgood hx hd hslot => ?_⟩
    · rw [startCycle_occupied hn he hidle hm]
      rcases hnone with hscrap | hbay
      · exact if_neg hscrap
      · rw [show bayChoice (cycleBegun e s) = none from bayChoice_none (s := s) hbay]
        exact ite_self _
    · have choice : bayChoice (cycleBegun e s) = some x := bayChoice_some (s := s) hx
      rw [startCycle_occupied hn he hidle hm, if_pos hgood]
      simp only [choice]
      rw [elevateFor_takeBay (s := cycleBegun e s) hd hslot,
        dueElevate_moves (mayMove_bayTaken.2 (show mayMove (cycleBegun e s) from hm))]
      cases x <;> rfl
  · by_cases hopen : untargeted s = true
    · have none : bayChoice s = none :=
        bayChoice_none (hstays.resolve_left (not_not.2 ((untargeted_iff hh).1 hopen)))
      simp only [retarget, if_pos hopen, none]
    · exact if_neg hopen
  · exact ⟨retarget_moves ((untargeted_iff hh).2 hopen) hx hd hslot,
      retarget_held ((untargeted_iff hh).2 hopen) hx hd hslot⟩
  · exact awaitBay_waits ((untargeted_iff hh).2 hopen) hfetch hport hheld
  · refine if_neg fun hc => ?_
    simp only [Bool.and_eq_true, Bool.not_eq_true', decide_eq_true_eq, transferBusy, Bool.or_eq_false_iff] at hc
    obtain ⟨⟨hopen, hport, hheld⟩, hfetch⟩ := hc
    rcases hstays with hstays | hstays | hstays | hstays
    · exact hstays ((untargeted_iff hh).1 hopen)
    · exact hfetch hstays
    · exact Bool.false_ne_true (hport.symm.trans hstays)
    · exact Bool.false_ne_true (hheld.symm.trans hstays)

end Sys2Proof.Machine

/-! ### UNIT CLEAR (R112, R141, R162, R183) -/

namespace Sys2Proof.Machine

/-- The pending records of the sources `lo` to `hi` discarded (R183). -/
def groupCleared (lo hi : Nat) (s : State) : State :=
  s.withFaults
    { s.faults with waiting := s.faults.waiting.filter fun r => !decide (lo ≤ r.source.val ∧ r.source.val ≤ hi) }

theorem inRange_eq (lo hi n : Nat) : inRange lo hi n = decide (lo ≤ n ∧ n ≤ hi) := by simp [inRange]

theorem unitClear_unit {k : Byte} {lo hi : Nat} {clear : State → State} {s : State} (hm : s.cell.mode = .halted)
    (hk : unitOf k.toNat = some (lo, hi, clear)) :
    unitClear [k] s =
      done .ok [b8 (s.faults.waiting.filter fun r => decide (lo ≤ r.source.val ∧ r.source.val ≤ hi)).length]
        (clear (groupCleared lo hi s)) := by
  rw [unitClear, if_neg (by simp [hm])]
  simp only [show u8 [k] 0 = k.toNat from rfl, hk, inRange_eq]
  rfl

/-- A unit's clear, answered with the count of the records it discards. -/
theorem exec_unitClear {tag k : Byte} {lo hi : Nat} {clear : State → State} {s u : State} (hs : s.link.slot = none)
    (hm : s.cell.mode = .halted) (hk : unitOf k.toNat = some (lo, hi, clear)) (e : clear (groupCleared lo hi s) = u)
    (hu : still u = true) :
    exec (.unitClear tag [k]) s = .next (rest (replied 0x62 tag [k]
      [0, b8 (s.faults.waiting.filter fun r => decide (lo ≤ r.source.val ∧ r.source.val ≤ hi)).length] u)) :=
  exec_answered rfl hs (by rw [unitClear_unit hm hk, e]; rfl) hu

/-! #### The ROUTER (R112) -/

/-- The router and the probe with nothing under way, the head's position unknown. -/
def routerCleared (s : State) : State :=
  ((s.withPorts { s.ports with router := Port.stop s.ports.router }).withRouter
      { s.router with state := .idle, operation := none, presented := false, timer := none, clearance := true }).withProbe
    { s.probe with state := .idle, work := none, moveTimer := none }

theorem dropRouter_unclear (s : State) :
    dropRouter (s.withRouter { s.router with clearance := true }) = routerCleared s := by
  rw [dropRouter_eq]
  rfl

theorem clearRouter_idle {s : State}
    (h : s.router.state = .idle ∨ (s.router.state = .cut ∧ s.router.operation = none) ∨
      (s.router.state = .verify ∧ s.probe.work = none)) : clearRouter s = routerCleared s := by
  rw [← dropRouter_unclear]
  rcases h with hi | ⟨hc, ho⟩ | ⟨hv, hw⟩
  · simp [clearRouter, hi]
  · simp [clearRouter, interruptRouter, hc, ho]
  · simp [clearRouter, interruptRouter, hv, hw]

theorem clearRouter_cut {op : Operation} {s : State} (hc : s.router.state = .cut) (ho : s.router.operation = some op) :
    clearRouter s = tabInterrupted raise true op
      (if s.router.presented then addWear raise ((cutWear op.record + 1) / 2) (routerCleared s) else routerCleared s) := by
  rw [clearRouter, ← dropRouter_unclear]
  rw [if_neg (by simp [hc]), interruptRouter_cut (s := s.withRouter { s.router with clearance := true }) hc ho]
  rfl

theorem clearRouter_verify {w : Verify} {s : State} (hv : s.router.state = .verify) (hw : s.probe.work = some w) :
    clearRouter s = tabInterrupted raise false w.op (routerCleared s) := by
  rw [clearRouter, ← dropRouter_unclear]
  rw [if_neg (by simp [hv]), interruptRouter_verify (s := s.withRouter { s.router with clearance := true }) hv hw]
  rfl

/-! #### The PICKER (R141) -/

/-- The picker IDLE with nothing in hand, its outputs off, its times kept. -/
def pickerCleared (s : State) : State :=
  ((s.withPorts { s.ports with picker := Port.stop s.ports.picker }).withOutputs
      { s.outputs with vacuumOn := false, blowOff := false }).withPicker
    { Picker.reset with gripTime := s.picker.gripTime, blowTime := s.picker.blowTime }

theorem clearPicker_empty {s : State} (hb : s.picker.board = none) : clearPicker s = pickerCleared s := by
  simp only [clearPicker, hb]
  rfl

section
variable {b : Fin 64} {s : State} (hb : s.picker.board = some b)
include hb

theorem clearPicker_withdrawn (hst : s.picker.state = .approach) (hw : s.picker.withdrawn = true) :
    clearPicker s = pickerCleared s := by
  simp only [clearPicker, hb, hst, hw]
  rfl

theorem clearPicker_reserved (h : s.picker.state = .gripping ∨ (s.picker.state = .approach ∧ s.picker.withdrawn = false)) :
    clearPicker s = releaseReservation b (pickerCleared s) := by
  rcases h with hst | ⟨hst, hw⟩
  · simp only [clearPicker, hb, hst]
    rfl
  · simp only [clearPicker, hb, hst, hw, Bool.false_eq_true, if_false]
    rfl

theorem clearPicker_holding (hst : s.picker.state = .holding) :
    clearPicker s = releaseReservation b (holdEnds raise b (pickerCleared s)) := by
  simp only [clearPicker, hb, hst]
  rfl

theorem clearPicker_carried (h : s.picker.state = .carrying ∨ s.picker.state = .placing) :
    clearPicker s = boardLostEarly b (pickerCleared s) := by
  rcases h with hst | hst <;> simp only [clearPicker, hb, hst] <;> rfl

end

/-! #### The STACKER (R162) -/

/-- The stacker IDLE with nothing in hand, its outputs off. -/
def stackerCleared (s : State) : State :=
  ((s.withPorts
      { s.ports with transfer := Port.stop s.ports.transfer, elevator := Port.stop s.ports.elevator }).withOutputs
      { s.outputs with push := false, chuteGate := false }).withStacker Stacker.reset

theorem clearStacker_eq (s : State) : clearStacker s = settleHand s.stacker (stackerCleared s) := rfl

theorem clearStacker_empty {s : State} (hh : s.stacker.hand = none) : clearStacker s = stackerCleared s := by
  simp only [clearStacker_eq, settleHand, hh]

section
variable {h : Hand} {s : State} (hh : s.stacker.hand = some h)
include hh

theorem clearStacker_armed (hst : s.stacker.state = .checkSlot ∨ s.stacker.state = .present ∨
    s.stacker.state = .divert ∨ s.stacker.state = .waitBay) :
    clearStacker s = reportLost h.serial h.board (stackerCleared s) := by
  rcases hst with hst | hst | hst | hst <;> simp only [clearStacker_eq, settleHand, hh, hst] <;> rfl

theorem clearStacker_pushed {x : Bay} {n : Nat} (hst : s.stacker.state = .push) (hx : s.stacker.target = some x)
    (hn : s.stacker.slot = some n) :
    clearStacker s = advance x (reportLost h.serial h.board (setSlot x n .blocked (stackerCleared s))) := by
  simp only [clearStacker_eq, settleHand, hh, hst, hx, hn]
  rfl

theorem clearStacker_fetch (hst : s.stacker.state = .fetch) :
    clearStacker s =
      if (∃ e ∈ s.nests, e.nest = h.nest ∧ e.state = .occupied) ∧
          (getAt s.lines.ded (nestLine h.nest)).filter.level = some true then stackerCleared s
      else reportLost h.serial h.board (clearBoardNest h.serial h.board
        ((stackerCleared s).withNests (s.nests.filter fun e => decide (e.nest ≠ h.nest)))) := by
  simp only [clearStacker_eq, settleHand, hh, hst, Bool.and_eq_true, List.any_eq_true, decide_eq_true_eq]
  simp only [asserted_iff]
  rfl

end

/-- Settles O26: each unit's clear by what it has in hand and by its stage. -/
theorem unitClearClears : Obligations.UnitClearClears := by
  refine fun tag s hs => ⟨fun hm hu k => exec_answered rfl hs (if_pos hm) hu,
    fun hm => ⟨⟨fun hst => exec_unitClear hs hm rfl ?idle,
        fun op hc ho hp => exec_unitClear hs hm rfl ?waiting,
        fun op hc ho hp => exec_unitClear hs hm rfl ?cut,
        fun w hv hw => exec_unitClear hs hm rfl (clearRouter_verify hv hw)⟩,
      ⟨fun hb => exec_unitClear hs hm rfl (clearPicker_empty hb),
        fun b hb => ⟨fun hst => exec_unitClear hs hm rfl (clearPicker_reserved hb hst),
          fun hst hw => exec_unitClear hs hm rfl (clearPicker_withdrawn hb hst hw),
          fun hst hheld htab => exec_unitClear hs hm rfl ?held,
          fun hst => exec_unitClear hs hm rfl (clearPicker_holding hb hst),
          fun hst => exec_unitClear hs hm rfl (clearPicker_carried hb hst)⟩⟩,
      ⟨fun hh => exec_unitClear hs hm rfl (clearStacker_empty hh),
        fun h hh => ⟨fun hst => exec_unitClear hs hm rfl (clearStacker_armed hh hst),
          fun x n hst hx hn => exec_unitClear hs hm rfl (clearStacker_pushed (s := groupCleared 13 18 s) hh hst hx hn),
          fun hst hocc hlevel => exec_unitClear hs hm rfl ?onNest,
          fun hst hgone => exec_unitClear hs hm rfl ?gone⟩⟩⟩⟩
  case idle => exact clearRouter_idle hst
  case waiting =>
    rw [clearRouter_cut (s := groupCleared 3 8 s) hc ho,
      if_neg (show ¬ (groupCleared 3 8 s).router.presented = true from ne_true_of_eq_false hp)]
    rfl
  case cut =>
    rw [clearRouter_cut (s := groupCleared 3 8 s) hc ho,
      if_pos (show (groupCleared 3 8 s).router.presented = true from hp)]
    rfl
  case held =>
    have held : boardState (pickerCleared (groupCleared 9 12 s)) b = some .held :=
      (boardState_congr (t := s) rfl b).trans hheld
    have quiet : holdEnds raise b (pickerCleared (groupCleared 9 12 s)) =
        setBoard b .ready (pickerCleared (groupCleared 9 12 s)) := by
      rw [holdEnds_quiet (s := pickerCleared (groupCleared 9 12 s)) htab, holdReturned_held held]
    exact (clearPicker_holding (s := groupCleared 9 12 s) hb hst).trans (by rw [quiet]; rfl)
  case onNest => exact (clearStacker_fetch (s := groupCleared 13 18 s) hh hst).trans (if_pos ⟨hocc, hlevel⟩)
  case gone =>
    refine (clearStacker_fetch (s := groupCleared 13 18 s) hh hst).trans (if_neg fun hc => ?_)
    obtain ⟨⟨e, he, hn, hocc⟩, hlevel⟩ := hc
    exact hgone.elim (fun hg => hg e he hn hocc) (fun hg => hg hlevel)

end Sys2Proof.Machine

/-! ### PANEL START (R47, R48, R66, R67) -/

namespace Sys2Proof.Machine

/-! #### The body of PANEL START (R47) -/

theorem dispositionOf_eq_skip_iff {marks : List (Fin 64 × Disposition)} (hn : (marks.map Prod.fst).Nodup) (b : Fin 64) :
    dispositionOf marks b = .skip ↔ (b, Disposition.skip) ∈ marks := by
  unfold dispositionOf
  constructor
  · intro h
    split at h
    · next e he =>
      obtain rfl : e.1 = b := by simpa using List.find?_some he
      exact h ▸ List.mem_of_find?_eq_some he
    · exact absurd h (by decide)
  · intro h
    split
    · next e he =>
      have same : e.1 = b := by simpa using List.find?_some he
      rw [List.inj_on_of_nodup_map hn (List.mem_of_find?_eq_some he) h same]
    · next he => exact absurd (List.find?_eq_none.1 he _ h) (by simp)

theorem markBytes_cons (e : Fin 64 × Disposition) (l : List (Fin 64 × Disposition)) :
    markBytes (e :: l) = b8 e.1.val :: (if e.2 = .scrap then 1 else 2) :: markBytes l := rfl

theorem length_markBytes (l : List (Fin 64 × Disposition)) : (markBytes l).length = 2 * l.length := by
  simp [markBytes, List.length_flatMap, Nat.mul_comm]

/-- A list of marks of distinct defined boards is read back from its bytes (R47 step 6). -/
theorem readMarks_markBytes {s : State} {l : List (Fin 64 × Disposition)} (pre : List Byte) {j : Nat}
    {seen : List (Fin 64 × Disposition)} (hj : pre.length = 8 + 2 * j) (hn : ((seen ++ l).map Prod.fst).Nodup)
    (hdef : ∀ e ∈ l, (Table.get s.recipe.boards e.1).isSome ∧ e.2 ≠ .good) :
    readMarks s (pre ++ markBytes l) l.length j seen = .ok (seen ++ l) := by
  induction l generalizing pre j seen with
  | nil => rw [List.append_nil]; rfl
  | cons e l ih =>
    obtain ⟨⟨known, marked⟩, hdef⟩ := List.forall_mem_cons.1 hdef
    have fresh : ∀ a ∈ seen, a.1 ≠ e.1 := fun a ha same =>
      (List.nodup_append.1 (List.map_append ▸ hn)).2.2 a.1 (List.mem_map_of_mem ha) e.1 (by simp) same
    have first : u8 (pre ++ markBytes (e :: l)) (8 + 2 * j) = e.1.val := by
      rw [← hj, ← Nat.add_zero pre.length, u8_append_right]
      exact b8_value (by omega)
    have second : u8 (pre ++ markBytes (e :: l)) (9 + 2 * j) = if e.2 = .scrap then 1 else 2 := by
      rw [show 9 + 2 * j = pre.length + 1 by omega, u8_append_right, markBytes_cons]
      split_ifs <;> rfl
    have board : markBoard s (pre ++ markBytes (e :: l)) j seen = some e.1 := by
      simp only [markBoard, first, index?_val]
      exact if_pos (by simpa [known] using fresh)
    have disposition : markDisposition (u8 (pre ++ markBytes (e :: l)) (9 + 2 * j)) = some e.2 := by
      rw [second]
      match e, marked with
      | (_, .scrap), _ => rfl
      | (_, .skip), _ => rfl
    simp only [List.length_cons, readMarks, board, disposition]
    have next := ih (pre ++ [b8 e.1.val, if e.2 = .scrap then 1 else 2]) (j := j + 1) (seen := seen ++ [e])
      (by simp [hj]; omega) (by simpa using hn) hdef
    simpa [markBytes_cons] using next

theorem s16_le16 {v : Int} (hlo : -500 ≤ v) (hhi : v ≤ 500) (l : List Byte) :
    s16 (le16 (BitVec.ofInt 16 v).toNat ++ l) 0 = v := by
  rw [s16, u16_le16 (BitVec.ofInt 16 v).isLt, BitVec.ofNat_toNat, BitVec.setWidth_eq, BitVec.toInt_ofInt,
    Int.bmod_eq_of_le (by omega) (by omega)]

/-! #### The runtime records at the start (R66 to R68) -/

/-- A defined board that no mark skips. -/
def singulates (s : State) (marks : List (Fin 64 × Disposition)) (b : Fin 64) : Bool :=
  (Table.get s.recipe.boards b).isSome && !decide ((b, Disposition.skip) ∈ marks)

/-- A tab that touches a board to be singulated (R68). -/
def startNeeds (s : State) (marks : List (Fin 64 × Disposition)) (t : Fin 256) : Bool :=
  (Table.get s.recipe.tabs t).any fun d => singulates s marks d.owner || d.neighbour.any (singulates s marks)

/-- A board's runtime record at the start (R66). -/
def startBoard (s : State) (marks : List (Fin 64 × Disposition)) (b : Fin 64) : BoardRun :=
  let d := dispositionOf marks b
  let n := if d = .skip then 0 else (nonRelease s b).length
  { state := if d = .skip then .skipped else if n = 0 then .ready else .waiting
    disposition := d, remaining := n, regrip := false, nest := none, bay := none, slot := none }

theorem startBoards_eq (s : State) (marks : List (Fin 64 × Disposition)) :
    startBoards s marks = s.recipe.boards.map fun e => (e.1, startBoard s marks e.1) := rfl

theorem startBoard_live (s : State) (marks : List (Fin 64 × Disposition)) (b : Fin 64) :
    (startBoard s marks b).live = true ↔ dispositionOf marks b ≠ .skip := by
  by_cases hd : dispositionOf marks b = .skip
  · simp [startBoard, BoardRun.live, hd]
  · simp only [startBoard, BoardRun.live, hd, if_false]
    split_ifs <;> simp

theorem startBoard_beforeQueued {s : State} {marks : List (Fin 64 × Disposition)} {b : Fin 64}
    (hd : dispositionOf marks b ≠ .skip) : BoardState.beforeQueued (startBoard s marks b).state = true := by
  simp only [startBoard, hd, if_false]
  split_ifs <;> rfl

/-- The Run Sequencer of a panel just started, without its Panel Record. -/
def startSequencer (serial : Serial) (marks : List (Fin 64 × Disposition)) (s : State) : Sequencer :=
  { records := s.seq.records
    runOf := some serial
    boards := startBoards s marks
    tabs := s.recipe.tabs.map fun e =>
      (e.1, { state := if startNeeds s marks e.1 then .uncut else .bypassed, attempts := 0 })
    order := (s.recipe.boards.map Prod.fst).filter fun b => !decide ((b, Disposition.skip) ∈ marks) }

theorem Table.get_map_key {n : Nat} {α β : Type} (f : Fin n → β) (t : Table n α) (i : Fin n) :
    Table.get (t.map fun e => (e.1, f e.1)) i = (Table.get t i).map fun _ => f i := by
  induction t with
  | nil => rfl
  | cons e t ih =>
    obtain ⟨j, x⟩ := e
    simp only [List.map_cons, Table.get, ih]
    split_ifs with h
    · rw [h]; rfl
    · rfl

section
variable {marks : List (Fin 64 × Disposition)} (hn : (marks.map Prod.fst).Nodup)
include hn

theorem singulated_startBoards (s : State) :
    singulated (startBoards s marks) =
      (s.recipe.boards.map Prod.fst).filter fun b => !decide ((b, Disposition.skip) ∈ marks) := by
  simp only [singulated, startBoards, List.filter_map, List.map_map, Function.comp_def]
  congr 1
  exact List.filter_congr fun e _ => by simp [dispositionOf_eq_skip_iff hn]

theorem boardLive_start {s t : State} (h : t.seq.boards = startBoards s marks) (b : Fin 64) :
    boardLive t b = singulates s marks b := by
  simp only [boardLive, boardRun, h, startBoards_eq, Table.get_map_key]
  unfold singulates
  cases Table.get s.recipe.boards b with
  | none => rfl
  | some d =>
    simp only [Option.map_some, Option.isSome_some, Bool.true_and]
    rw [Bool.eq_iff_iff, startBoard_live, ne_eq, dispositionOf_eq_skip_iff hn, Bool.not_eq_true', decide_eq_false_iff_not]

theorem tabNeeded_start {s t : State} (hr : t.recipe = s.recipe) (h : t.seq.boards = startBoards s marks) (i : Fin 256) :
    tabNeeded t i = startNeeds s marks i := by
  simp only [tabNeeded, hr, startNeeds, funext (boardLive_start hn h)]
  cases Table.get s.recipe.tabs i with
  | none => rfl
  | some d => cases hd : d.neighbour <;> simp [TabDef.boards, hd]

theorem buildRuntime_eq (serial : Serial) (s : State) :
    buildRuntime serial marks s = orphanOperation (s.withSeq (startSequencer serial marks s)) := by
  have tabs (t : State) (hr : t.recipe = s.recipe) (h : t.seq.boards = startBoards s marks) :
      startTabs t = s.recipe.tabs.map fun e =>
        (e.1, { state := if startNeeds s marks e.1 then .uncut else .bypassed, attempts := 0 }) := by
    simp only [startTabs, hr, tabNeeded_start hn hr h]
  unfold buildRuntime
  dsimp only
  rw [tabs, singulated_startBoards hn]
  all_goals rfl

end

theorem neededTabs_start (serial : Serial) (marks : List (Fin 64 × Disposition)) (s : State) :
    neededTabs (startSequencer serial marks s).tabs = (s.recipe.tabs.filter fun e => startNeeds s marks e.1).length := by
  simp only [neededTabs, startSequencer, List.filter_map, List.length_map, Function.comp_def]
  congr 1
  exact List.filter_congr fun e _ => by cases startNeeds s marks e.1 <;> rfl

/-! #### What PANEL START does (R48) -/

theorem auxHold_clear {n : Fin 4} {s : State}
    (h : (getAt s.lines.aux n).role = .hold → (getAt s.lines.aux n).latch = .clear) :
    auxHold n s = s := by
  by_cases hr : (getAt s.lines.aux n).role = .hold
  · simp only [auxHold, h hr, ite_self]
  · simp [auxHold, hr]

theorem holdLines_clear {s : State}
    (h : ∀ n, (getAt s.lines.aux n).role = .hold → (getAt s.lines.aux n).latch = .clear) : holdLines s = s := by
  simp only [holdLines, List.foldl_cons, List.foldl_nil, auxHold_clear (h _)]

/-- The test of the records while a board is before QUEUED and none is complete (R49, R50). -/
theorem recordTest_busy {s : State} {e : Fin 64 × BoardRun} (he : e ∈ s.seq.boards)
    (hb : BoardState.beforeQueued e.2.state = true) (hd : s.seq.records.filter PanelRec.done = []) : recordTest s = s := by
  have busy : ¬ noneBeforeQueued s = true := fun h =>
    Bool.false_ne_true ((((noneBeforeQueued_iff s).1 h) e he).symm.trans hb)
  unfold recordTest
  split
  · rw [if_neg busy, removeComplete_none hd]
  · exact removeComplete_none hd

/-- The state after PANEL START, its Panel Record the last (R48). -/
def panelStarted (serial : Serial) (marks : List (Fin 64 × Disposition)) (r : PanelRec) (s : State) : State :=
  (startSpindle (orphanOperation ((clearNotice Notice.panelCutDone s).withSeq
    { startSequencer serial marks s with records := s.seq.records ++ [r] }))).withCell
    { s.cell with mode := .running, idleTimer := none }

theorem startSpindle_keeps_seq (s : State) : (startSpindle s).seq = s.seq := by
  unfold startSpindle
  split <;> rfl

theorem startSpindle_keeps_lines (s : State) : (startSpindle s).lines = s.lines := by
  unfold startSpindle
  split <;> rfl

theorem startSpindle_keeps_faults (s : State) : (startSpindle s).faults = s.faults := by
  unfold startSpindle
  split <;> rfl

theorem startSpindle_keeps_cell (s : State) : (startSpindle s).cell = s.cell := by
  unfold startSpindle
  split <;> rfl

/-- The runtime records built and the Panel Record appended (R48). -/
theorem buildRuntime_appended {marks : List (Fin 64 × Disposition)} (hn : (marks.map Prod.fst).Nodup) (serial : Serial)
    (r : PanelRec) (s : State) :
    (buildRuntime serial marks (clearNotice Notice.panelCutDone s)).withSeq
        { (buildRuntime serial marks (clearNotice Notice.panelCutDone s)).seq with
          records := (buildRuntime serial marks (clearNotice Notice.panelCutDone s)).seq.records ++ [r] } =
      orphanOperation ((clearNotice Notice.panelCutDone s).withSeq
        { startSequencer serial marks s with records := s.seq.records ++ [r] }) := by
  rw [buildRuntime_eq hn]
  rfl

theorem panelStarted_lines (serial : Serial) (marks : List (Fin 64 × Disposition)) (r : PanelRec) (s : State) :
    (panelStarted serial marks r s).lines = s.lines := startSpindle_keeps_lines _

theorem panelStarted_seq (serial : Serial) (marks : List (Fin 64 × Disposition)) (r : PanelRec) (s : State) :
    (panelStarted serial marks r s).seq = { startSequencer serial marks s with records := s.seq.records ++ [r] } :=
  startSpindle_keeps_seq _

section
variable {serial : Serial} {marks : List (Fin 64 × Disposition)} {s : State} {b : Fin 64}
  (hn : (marks.map Prod.fst).Nodup)
  (hhold : ∀ n, (getAt s.lines.aux n).role = .hold → (getAt s.lines.aux n).latch = .clear)
  (hrec : ∀ r ∈ s.seq.records, r.state = .stacking ∧ r.outstanding ≠ 0)
  (hb : b ∈ s.recipe.boards.map Prod.fst) (hskip : (b, Disposition.skip) ∉ marks)
include hn hhold hrec hb hskip

/-- Nothing more falls due at a start that leaves a board to cut (R48, R49). -/
theorem panelStarted_settled {r : PanelRec} (hr : r.state = .cutting) :
    recordTest (holdLines (panelStarted serial marks r s)) = panelStarted serial marks r s := by
  obtain ⟨e, he, rfl⟩ := List.mem_map.1 hb
  have waits : (e.1, startBoard s marks e.1) ∈ (panelStarted serial marks r s).seq.boards := by
    rw [panelStarted_seq]
    exact List.mem_map_of_mem he
  have open_ : (panelStarted serial marks r s).seq.records.filter PanelRec.done = [] := by
    rw [panelStarted_seq, done_eq, List.filter_eq_nil_iff]
    intro q hq
    rcases List.mem_append.1 hq with hq | hq
    · simpa using fun _ => (hrec q hq).2
    · obtain rfl := List.mem_singleton.1 hq
      simp [hr]
  rw [holdLines_clear (by rw [panelStarted_lines]; exact hhold)]
  exact recordTest_busy waits (startBoard_beforeQueued (mt (dispositionOf_eq_skip_iff hn e.1).1 hskip)) open_

theorem startPanel_eq {dx dy : Int} (hl : latched s.faults = false) :
    startPanel serial dx dy marks s = panelStarted serial marks
      { serial := serial, dx := dx, dy := dy, marks := marks, state := .cutting, stop := false, stacked := 0
        chuted := 0, failed := 0, lost := 0, abandoned := 0, outstanding := 0 } s := by
  unfold startPanel
  dsimp only
  rw [buildRuntime_appended hn, enterMode_withCell (by rw [startSpindle_keeps_faults]; exact hl), if_neg (by decide),
    startSpindle_keeps_cell]
  exact panelStarted_settled hn hhold hrec hb hskip rfl

end

/-- PANEL START that passes every test of R47. -/
theorem panelStart_passes {serial : Serial} {dx dy : Int} {marks : List (Fin 64 × Disposition)} {body : List Byte}
    {s : State} (hm : s.cell.mode = .idle) (hbit : s.router.bit ≠ .unknown) (hroom : s.seq.records.length < 2)
    (hnew : ∀ r ∈ s.seq.records, r.serial ≠ serial) (hdx : -500 ≤ dx ∧ dx ≤ 500) (hdy : -500 ≤ dy ∧ dy ≤ 500)
    (eserial : startSerial body = serial) (edx : s16 body 4 = dx) (edy : s16 body 6 = dy)
    (emarks : readMarks s body ((body.length - 8) / 2) 0 [] = .ok marks) :
    panelStart body s =
      done .accepted
        (b8 (buildRuntime serial marks s).seq.order.length :: le16 (neededTabs (buildRuntime serial marks s).seq.tabs))
        (startPanel serial dx dy marks s) := by
  simp only [panelStart, eserial, edx, edy, emarks]
  rw [if_neg (by simp [hm]), if_neg hbit, if_neg (by omega), if_neg (by simpa using hnew),
    if_neg (by simpa [offsetOk] using hdx), if_neg (by simpa [offsetOk] using hdy)]

/-- Settles O16: the body is read back, the runtime records are those of R66 to R68, and a board is left to cut. -/
theorem panelStartBuildsTheRun : Obligations.PanelStartBuildsTheRun := by
  refine fun tag serial dx dy marks s hs hm hl hbit hroom hnew hrec hdx hdx' hdy hdy' hn hdef hhold hcut => ?_
  intro body boards live needed tabs order record built u hu
  have length : body.length = 8 + 2 * marks.length := by
    simp only [body, List.length_append, length_markBytes]
    rfl
  have few : marks.length ≤ 64 := by
    have := hn.length_le_card
    rwa [List.length_map, Fintype.card_fin] at this
  have eserial : startSerial body = serial := by
    simp only [startSerial, body, List.append_assoc, u32_le32 serial.isLt, BitVec.ofNat_toNat, BitVec.setWidth_eq]
  have edx : s16 body 4 = dx := by
    simp only [body, List.append_assoc]
    exact s16_le16 hdx hdx' (le16 (BitVec.ofInt 16 dy).toNat ++ markBytes marks)
  have edy : s16 body 6 = dy := s16_le16 hdy hdy' (markBytes marks)
  have emarks : readMarks s body ((body.length - 8) / 2) 0 [] = .ok marks := by
    rw [length, show (8 + 2 * marks.length - 8) / 2 = marks.length by omega]
    exact readMarks_markBytes _ rfl hn hdef
  have fits : (inRange 8 136 body.length && decide (body.length % 2 = 0)) = true := by
    simp only [length, inRange, Bool.and_eq_true, decide_eq_true_eq]
    omega
  obtain ⟨e, he, hskip⟩ := hcut
  have taken : exec (.panelStart tag body) s = .next (finish (takeRequest 0x20 true panelStart tag body s)) :=
    congrArg (fun fit => Host.Outcome.next (finish (takeRequest 0x20 fit panelStart tag body s))) fits
  refine exec_answered taken hs ?_ hu
  rw [panelStart_passes hm hbit hroom hnew ⟨hdx, hdx'⟩ ⟨hdy, hdy'⟩ eserial edx edy emarks, buildRuntime_eq hn,
    startPanel_eq hn hhold hrec (List.mem_map_of_mem he) (by simpa using hskip) hl]
  refine Prod.ext rfl (congrArg (fun l => (1 : Byte) :: b8 order.length :: le16 l) ?_)
  exact neededTabs_start serial marks s

end Sys2Proof.Machine

/-! ### CELL RESET (R26, R64, R113, R127, R142, R163, R174, R184) -/

namespace Sys2Proof.Machine

/-! #### The lines (R174) -/

/-- The stop chain and the level of every dedicated line stay. -/
def levelsKept (a b : Lines) : Prop :=
  b.stop = a.stop ∧ ∀ l, (getAt b.ded l).filter.level = (getAt a.ded l).filter.level

/-- Nothing but the lines changes, and of these no level. -/
def linesOnly (s t : State) : Prop := ∃ L, t = s.withLines L ∧ levelsKept s.lines L

theorem linesOnly_refl (s : State) : linesOnly s s := ⟨s.lines, rfl, rfl, fun _ => rfl⟩

theorem linesOnly_trans {s t u : State} (h : linesOnly s t) (h' : linesOnly t u) : linesOnly s u := by
  obtain ⟨L, rfl, stop, levels⟩ := h
  obtain ⟨L', rfl, stop', levels'⟩ := h'
  exact ⟨L', rfl, stop'.trans stop, fun l => (levels' l).trans (levels l)⟩

/-- Steps taken once for each of distinct lines that are ready, related by a relation that composes. -/
theorem foldl_distinct {α : Type} {f : State → α → State} {ready : State → α → Prop} {R : State → State → Prop}
    (refl : ∀ s, R s s) (trans : ∀ {s t u}, R s t → R t u → R s u)
    (step : ∀ s a, ready s a → R s (f s a) ∧ ∀ b, b ≠ a → ready s b → ready (f s a) b)
    {l : List α} (hn : l.Nodup) {s : State} (h : ∀ a ∈ l, ready s a) : R s (l.foldl f s) := by
  induction l generalizing s with
  | nil => exact refl s
  | cons a l ih =>
    obtain ⟨fresh, hn⟩ := List.nodup_cons.1 hn
    obtain ⟨ha, h⟩ := List.forall_mem_cons.1 h
    obtain ⟨first, others⟩ := step s a ha
    exact trans first (ih hn fun b hb => others b (fun e => fresh (e ▸ hb)) (h b hb))

/-- A settled line restarts at the level it had, so nothing is handed over (R174). -/
theorem resetLine_steady {s : State} {l : Fin 16} (h : lineSteady (getAt s.lines.ded l)) :
    ∃ v, (getAt s.lines.ded l).filter.level = some v ∧
      resetLine s l = setDed l { getAt s.lines.ded l with filter := Filter.restart v, pin := none } s := by
  obtain ⟨v, hpin, hlevel⟩ := h
  refine ⟨_, hlevel, ?_⟩
  simp only [resetLine, restartDed, presentInput, hpin, hlevel, handOver_same, ite_self]

theorem resetLine_linesOnly {s : State} {l : Fin 16} (h : lineSteady (getAt s.lines.ded l)) :
    linesOnly s (resetLine s l) ∧
      ∀ m, m ≠ l → lineSteady (getAt s.lines.ded m) → lineSteady (getAt (resetLine s l).lines.ded m) := by
  obtain ⟨v, hlevel, e⟩ := resetLine_steady h
  rw [e]
  refine ⟨⟨_, rfl, rfl, fun m => ?_⟩, fun m hm hs => ?_⟩
  · rw [getAt_setAt]
    split_ifs with hml
    · rw [← hml]
      exact hlevel.symm
    · rfl
  · rw [setDed, State.withLines_lines, getAt_setAt, if_neg hm.symm]
    exact hs

theorem resetAux_linesOnly {s : State} {n : Fin 4} (h : (getAt s.lines.aux n).pin.isSome = true) :
    linesOnly s (resetAux s n) ∧
      ∀ m, m ≠ n → (getAt s.lines.aux m).pin.isSome = true → (getAt (resetAux s n).lines.aux m).pin.isSome = true := by
  obtain ⟨v, hv⟩ := Option.isSome_iff_exists.1 h
  simp only [resetAux, restartAux, presentInput, hv, setAux, State.withLines_lines]
  refine ⟨⟨_, rfl, rfl, fun _ => rfl⟩, fun m hm hs => ?_⟩
  rw [getAt_setAt, if_neg hm.symm]
  exact hs

/-- The restart of settled lines is silent (R174). -/
theorem resetLines_linesOnly {s : State} (hd : ∀ l, lineSteady (getAt s.lines.ded l))
    (ha : ∀ n, (getAt s.lines.aux n).pin.isSome = true) :
    linesOnly s ([(0 : Fin 4), 1, 2, 3].foldl resetAux ((List.finRange 16).foldl resetLine s)) := by
  have auxKept {t : State} {l : Fin 16} (h : lineSteady (getAt t.lines.ded l)) :
      (resetLine t l).lines.aux = t.lines.aux := by
    obtain ⟨v, -, e⟩ := resetLine_steady h
    rw [e]
    rfl
  obtain ⟨lines, same⟩ := foldl_distinct (f := resetLine) (ready := fun t l => lineSteady (getAt t.lines.ded l))
    (R := fun s t => linesOnly s t ∧ t.lines.aux = s.lines.aux) (fun s => ⟨linesOnly_refl s, rfl⟩)
    (fun h h' => ⟨linesOnly_trans h.1 h'.1, h'.2.trans h.2⟩)
    (fun t l h => ⟨⟨(resetLine_linesOnly h).1, auxKept h⟩, (resetLine_linesOnly h).2⟩) (List.nodup_finRange 16)
    (s := s) fun l _ => hd l
  refine linesOnly_trans lines (foldl_distinct (ready := fun t n => (getAt t.lines.aux n).pin.isSome = true)
    linesOnly_refl linesOnly_trans (fun t n h => resetAux_linesOnly h) (by decide) fun n _ => ?_)
  rw [same]
  exact ha n

/-- No condition stands, so none is raised (R177, R184). -/
theorem raiseStanding_none {src : Source} {d : Detail} {s : State} (h : conditionStands s src = false) :
    raiseStanding src d s = s := if_neg (by simp [h])

/-! #### The bays (R163) -/

theorem bayOf_setBay_ne {x y : Bay} (h : y ≠ x) (r : BayRec) (s : State) : bayOf (setBay x r s) y = bayOf s y :=
  match x, y, h with
  | .a, .b, _ | .b, .a, _ => rfl
  | .a, .a, h | .b, .b, h => absurd rfl h

/-- What neither a Bay Record of bay x nor BAY_x_COMPLETE touches, the reset of the bay leaves. -/
theorem resetBay_part {α : Type} {f : State → α} {x : Bay} (hb : ∀ s r, f (setBay x r s) = f s)
    (hn : ∀ s p, f (raiseNotice (bayCompleteNotice x) p s) = f s) (push : Option Nat) (s : State) :
    f (resetBay x push s) = f s := by
  have advanced (t : State) : f (advance x t) = f t := by
    cases hd : (bayOf t x).desc with
    | none => simp only [advance, hd]
    | some d =>
      rw [advance_eq hd]
      split
      · rw [hn, hb]
      · rw [hb]
  cases push with
  | none => exact hb _ _
  | some n => rw [resetBay, hb, advanced, setSlot_eq, hb]

theorem resetBay_other {x y : Bay} (h : y ≠ x) (push : Option Nat) (s : State) :
    bayOf (resetBay x push s) y = bayOf s y :=
  resetBay_part (f := fun t => bayOf t y) (fun t r => bayOf_setBay_ne h r t)
    (fun _ _ => bayOf_congr (raiseNotice_bays ..) y) push s

theorem resetBay_notice {x : Bay} {n : Notice} (h : n ≠ bayCompleteNotice x) (push : Option Nat) (s : State) :
    getAt (resetBay x push s).notices n = getAt s.notices n :=
  resetBay_part (f := fun t => getAt t.notices n) (fun _ _ => by cases x <;> rfl)
    (fun s p => getAt_raiseNotice_ne h.symm p s) push s

/-- A reset bay is not ACTIVE and awaits no retirement (R163). -/
theorem resetBay_idle (x : Bay) (push : Option Nat) (s : State) :
    (bayOf (resetBay x push s) x).state ≠ .active ∧ (bayOf (resetBay x push s) x).retire = false := by
  unfold resetBay
  rw [bayOf_setBay]
  refine ⟨?_, rfl⟩
  dsimp only
  split_ifs with h
  · decide
  · exact h

/-- Both bays reset, the rest left but the notices (R163). -/
theorem resetBays_eq (pushA pushB : Option Nat) (s : State) :
    resetBay .b pushB (resetBay .a pushA s) =
      (s.withBays (resetBay .b pushB (resetBay .a pushA s)).bays).withNotices
        (resetBay .b pushB (resetBay .a pushA s)).notices := by
  have rest (x : Bay) (push : Option Nat) (B : Bays) (N : Vector NoticeRec 16) (t : State) :
      ((resetBay x push t).withBays B).withNotices N = (t.withBays B).withNotices N :=
    resetBay_part (f := fun t => (t.withBays B).withNotices N) (fun _ _ => by cases x <;> rfl)
      (fun s p => by unfold raiseNotice; dsimp only; split <;> rfl) push t
  rw [← rest .a pushA, ← rest .b pushB]
  rfl

/-! #### The wear of a cut under way (R101, R102, R113) -/

theorem addWear_noRaise (dw : Nat) (s : State) :
    ∃ bit, addWear noRaise dw s =
      (s.withNotices (wearAndWarn dw s).notices).withRouter { s.router with wear := wearAfter dw s, bit := bit } := by
  have worn : wearAndWarn dw s =
      (s.withNotices (wearAndWarn dw s).notices).withRouter { s.router with wear := wearAfter dw s } := by
    unfold wearAndWarn raiseNotice
    dsimp only
    split_ifs <;> rfl
  by_cases h : reachesLife dw s
  · rw [addWear_of_reachesLife h, worn]
    exact ⟨.expired, rfl⟩
  · rw [addWear_of_not_reachesLife h, worn]
    exact ⟨s.router.bit, rfl⟩

/-- A cut that is presented: the one whose half wear a CELL RESET adds (R101). -/
def cutPresented (op : Operation) (s : State) : Prop :=
  s.router.state = .cut ∧ s.router.operation = some op ∧ s.router.presented = true

theorem resetWear_presented {op : Operation} {s : State} (h : cutPresented op s) :
    resetWear s = addWear noRaise ((cutWear op.record + 1) / 2) s := by
  obtain ⟨hc, ho, hp⟩ := h
  simp only [resetWear, hc, ho, hp, if_true]
  rfl

theorem resetWear_none {s : State}
    (h : s.router.state ≠ .cut ∨ s.router.operation = none ∨ s.router.presented = false) : resetWear s = s := by
  unfold resetWear
  split
  · next op hc ho =>
    rcases h with h | h | h
    · exact absurd hc h
    · exact absurd (ho.symm.trans h) (by simp)
    · rw [if_neg (by simp [h])]
  · rfl

/-- What the wear of a CELL RESET changes: the notices, the wear and the bit. -/
theorem resetWear_eq (s : State) :
    ∃ bit, resetWear s = (s.withNotices (resetWear s).notices).withRouter
      { s.router with wear := (resetWear s).router.wear, bit := bit } := by
  unfold resetWear
  split
  · next op _ _ =>
    split_ifs
    · obtain ⟨bit, e⟩ := addWear_noRaise (ceilDiv (cutWear op.record) 2) s
      rw [e]
      exact ⟨bit, rfl⟩
    · exact ⟨s.router.bit, rfl⟩
  · exact ⟨s.router.bit, rfl⟩

/-! #### The whole (R26, R64) -/

theorem getAt_map {α β : Type} {n : Nat} (f : α → β) (v : Vector α n) (i : Fin n) : getAt (v.map f) i = f (getAt v i) := by
  simp [getAt]

/-- A notice cleared, its enabled mark kept (R26). -/
def noticeCleared (r : NoticeRec) : NoticeRec := { raised := false, sent := false, enabled := r.enabled, payload := [] }

theorem resetNotices_notice (n : Notice) (s : State) :
    getAt (resetNotices s).notices n = noticeCleared (getAt s.notices n) := getAt_map ..

theorem resetWear_notice {n : Notice} (h : n ≠ Notice.bitWearWarn) (s : State) :
    getAt (resetWear s).notices n = getAt s.notices n := by
  have worn (dw : Nat) : getAt (addWear noRaise dw s).notices n = getAt s.notices n := by
    obtain ⟨bit, e⟩ := addWear_noRaise dw s
    rw [e]
    by_cases hc : crossesHalf dw s
    · simp only [State.withRouter_notices, State.withNotices_notices, wearAndWarn_of_crossesHalf hc]
      rw [getAt_raiseNotice_ne h.symm]
      rfl
    · simp only [State.withRouter_notices, State.withNotices_notices, wearAndWarn_of_not_crossesHalf hc]
  unfold resetWear
  split
  · split_ifs
    · exact worn _
    · rfl
  · rfl

/-- The wear of a presented cut, and what its crossing of the half point raises (R101, R102). -/
theorem resetWear_worn {op : Operation} {s : State} (h : cutPresented op s)
    (hclear : (getAt s.notices Notice.bitWearWarn).raised = false) :
    (resetWear s).router.wear = wearAfter ((cutWear op.record + 1) / 2) s ∧
      getAt (resetWear s).notices Notice.bitWearWarn =
        if crossesHalf ((cutWear op.record + 1) / 2) s then
          { getAt s.notices Notice.bitWearWarn with
            raised := true, sent := false
            payload := le32 (wearAfter ((cutWear op.record + 1) / 2) s) ++ le32 s.router.life }
        else getAt s.notices Notice.bitWearWarn := by
  obtain ⟨bit, e⟩ := addWear_noRaise ((cutWear op.record + 1) / 2) s
  rw [resetWear_presented h, e]
  refine ⟨rfl, ?_⟩
  simp only [State.withRouter_notices, State.withNotices_notices]
  split_ifs with hc
  · rw [wearAndWarn_of_crossesHalf hc]
    simp [raiseNotice, hclear]
  · rw [wearAndWarn_of_not_crossesHalf hc]
    rfl

/-- The units, the runs, the faults and the cell after a CELL RESET. -/
def resetCore (s : State) : State := resetCell (resetUnits (resetWear (resetNotices s)))

/-- Both bays after a CELL RESET. -/
def resetBoth (s : State) : State :=
  resetBay .b (pushedSlot s .b) (resetBay .a (pushedSlot s .a) (resetCore s))

/-- With every line settled and no condition standing, the restart of the lines changes the lines alone (R174, R184). -/
theorem resetAll_steady {s : State} (hd : ∀ l, lineSteady (getAt s.lines.ded l))
    (ha : ∀ n, (getAt s.lines.aux n).pin.isSome = true) (hstop : s.lines.stop.level = some false)
    (hdrive : asserted s 4 = false) (hdoor : asserted s 15 = true) :
    ∃ L, resetAll s = (resetBoth s).withLines L := by
  have lines : (resetBoth s).lines = s.lines := by
    obtain ⟨bit, wear⟩ := resetWear_eq (resetNotices s)
    rw [resetBoth, resetBays_eq, resetCore, wear]
    rfl
  obtain ⟨L, e, stop, levels⟩ := resetLines_linesOnly (s := resetBoth s) (by rwa [lines]) (by rwa [lines])
  rw [lines] at stop levels
  refine ⟨L, ?_⟩
  have quietStop : conditionStands ((resetBoth s).withLines L) Source.stopChain = false := by
    change (L.stop.level == some true) = false
    rw [stop, hstop]
    rfl
  have quietDoor : conditionStands ((resetBoth s).withLines L) Source.doorOpen = false := by
    change ((getAt L.ded 15).filter.level == some false) = false
    rw [levels, (asserted_iff s 15).1 hdoor]
    rfl
  have quietDrive : conditionStands ((resetBoth s).withLines L) Source.driveFault = false := by
    change ((getAt L.ded 4).filter.level == some true) = false
    rw [levels]
    simpa using (not_asserted_iff s 4).1 hdrive
  calc resetAll s
      = raiseStanding Source.driveFault (.line 4) (raiseStanding Source.doorOpen (.line 15)
          (raiseStanding Source.stopChain .none ([(0 : Fin 4), 1, 2, 3].foldl resetAux
            ((List.finRange 16).foldl resetLine (resetBoth s))))) := rfl
    _ = (resetBoth s).withLines L := by
      rw [e, raiseStanding_none quietStop, raiseStanding_none quietDoor, raiseStanding_none quietDrive]

theorem port_stop_inFlight (p : Port) : (Port.stop p).inFlight = false := by
  unfold Port.stop
  split_ifs with h
  · rfl
  · exact Bool.eq_false_iff.2 h

theorem resetCore_notices (s : State) : (resetCore s).notices = (resetWear (resetNotices s)).notices := by
  simp [resetCore, resetCell, resetUnits]

theorem resetBoth_notice {n : Notice} (h : ∀ x, n ≠ bayCompleteNotice x) (s : State) :
    getAt (resetBoth s).notices n = getAt (resetWear (resetNotices s)).notices n := by
  rw [resetBoth, resetBay_notice (h .b), resetBay_notice (h .a), resetCore_notices]

theorem resetBoth_bays (s : State) (x : Bay) :
    (bayOf (resetBoth s) x).state ≠ .active ∧ (bayOf (resetBoth s) x).retire = false := by
  cases x with
  | a =>
    rw [resetBoth, resetBay_other (by decide)]
    exact resetBay_idle ..
  | b => exact resetBay_idle ..

theorem bitWearWarn_ne_bayComplete (x : Bay) : Notice.bitWearWarn ≠ bayCompleteNotice x := by cases x <;> decide

/-- Settles O20: the reset of the units, with the wear, the bays and the lines taken apart. -/
theorem cellResetClears : Obligations.CellResetClears := by
  intro tag s hs hd ha hstop hdrive hdoor hu
  obtain ⟨L, all⟩ := resetAll_steady hd ha hstop hdrive hdoor
  obtain ⟨bit, wear⟩ := resetWear_eq (resetNotices s)
  have core : resetCore s = resetCell (resetUnits (((resetNotices s).withNotices
      (resetWear (resetNotices s)).notices).withRouter { s.router with
        wear := (resetWear (resetNotices s)).router.wear, bit := bit })) := by
    rw [resetCore, wear]
    rfl
  have both : resetAll s =
      (((resetCore s).withBays (resetBoth s).bays).withNotices (resetBoth s).notices).withLines L := by
    rw [all]
    exact congrArg (State.withLines · L) (resetBays_eq _ _ _)
  refine ⟨resetAll s, exec_answered rfl hs rfl hu, ?_⟩
  rw [both, core]
  refine ⟨rfl, rfl, rfl, rfl, port_stop_inFlight _, port_stop_inFlight _, port_stop_inFlight _, port_stop_inFlight _,
    rfl, rfl, rfl, rfl, rfl, rfl, rfl, rfl, rfl, rfl, rfl, rfl, rfl, rfl, rfl, rfl, rfl, fun n hn => ?_,
    ⟨fun op hc ho hp => ?_, fun hnone => ?_⟩, resetBoth_bays s⟩
  · by_cases hb : ∃ x, n = bayCompleteNotice x
    · exact .inr hb
    · refine .inl ((resetBoth_notice (fun x e => hb ⟨x, e⟩) s).trans ?_)
      rw [resetWear_notice hn, resetNotices_notice]
      rfl
  · obtain ⟨worn, warned⟩ := resetWear_worn (s := resetNotices s) ⟨hc, ho, hp⟩
      (congrArg NoticeRec.raised (resetNotices_notice ..))
    refine ⟨worn, ?_⟩
    rw [resetNotices_notice] at warned
    split_ifs with half
    · exact (resetBoth_notice bitWearWarn_ne_bayComplete s).trans (warned.trans (if_pos half))
    · exact (resetBoth_notice bitWearWarn_ne_bayComplete s).trans (warned.trans (if_neg half))
  · have kept : resetWear (resetNotices s) = resetNotices s := resetWear_none hnone
    have unworn : (resetWear (resetNotices s)).router.wear = s.router.wear := by
      rw [kept]
      rfl
    refine ⟨unworn, (resetBoth_notice bitWearWarn_ne_bayComplete s).trans ?_⟩
    rw [kept]
    exact resetNotices_notice ..

end Sys2Proof.Machine

/-! ### PANEL STOP (R50 to R53, R56) -/

namespace Sys2Proof.Machine

/-! #### The boards abandoned (R51, R52) -/

theorem exists_get_of_mem_keys {n : Nat} {α : Type} {t : Table n α} {i : Fin n} (h : i ∈ Table.keys t) :
    ∃ x, Table.get t i = some x := by
  induction t with
  | nil => simp [Table.keys] at h
  | cons e t ih =>
    obtain ⟨j, x⟩ := e
    by_cases hj : j = i
    · exact ⟨x, by simp [Table.get, hj]⟩
    · obtain ⟨y, hy⟩ := ih (by simpa [Table.keys, Ne.symm hj] using h)
      exact ⟨y, by simp [Table.get, hj, hy]⟩

/-- The entry of a table without a repeated index. -/
theorem get_of_mem {n : Nat} {α : Type} {t : Table n α} (hn : (t.map Prod.fst).Nodup) {e : Fin n × α} (he : e ∈ t) :
    Table.get t e.1 = some e.2 := by
  induction t with
  | nil => simp at he
  | cons a t ih =>
    obtain ⟨fresh, hn⟩ := List.nodup_cons.1 hn
    rcases List.mem_cons.1 he with rfl | he
    · simp [Table.get]
    · have hne : a.1 ≠ e.1 := fun h => fresh (h ▸ List.mem_map_of_mem he)
      rw [← ih hn he, Table.get, if_neg hne]

/-- The boards of a list in this state. -/
def endBoards (st : BoardState) (l : List (Fin 64)) (t : Table 64 BoardRun) : Table 64 BoardRun :=
  l.foldl (fun t b => Table.modify b (fun r => { r with state := st }) t) t

theorem get_endBoards (st : BoardState) (l : List (Fin 64)) (t : Table 64 BoardRun) (b : Fin 64) :
    Table.get (endBoards st l t) b =
      if b ∈ l then (Table.get t b).map fun r => { r with state := st } else Table.get t b := by
  induction l generalizing t with
  | nil => rfl
  | cons a l ih =>
    rw [endBoards, List.foldl_cons, ← endBoards, ih, Table.get_modify]
    by_cases hb : b = a
    · subst hb
      cases Table.get t b <;> simp
    · simp [hb]

theorem keys_endBoards (st : BoardState) (l : List (Fin 64)) (t : Table 64 BoardRun) :
    Table.keys (endBoards st l t) = Table.keys t := by
  induction l generalizing t with
  | nil => rfl
  | cons a l ih => rw [endBoards, List.foldl_cons, ← endBoards, ih, Table.keys_modify]

/-- Boards that end in a state, each adding one to a tally of the CUTTING record (R51). -/
theorem foldl_endBoard {step : State → Fin 64 → State} {st : BoardState} {tally : Nat → PanelRec → PanelRec}
    (hstep : ∀ s b, step s b = tallyCutting (tally 1) (setBoard b st s)) (zero : ∀ r, tally 0 r = r)
    (add : ∀ n r, tally n (tally 1 r) = tally (n + 1) r) (keeps : ∀ r, (tally 1 r).state = r.state)
    (l : List (Fin 64)) (s : State) :
    l.foldl step s = s.withSeq
      { s.seq with
        boards := endBoards st l s.seq.boards
        records := s.seq.records.map fun r => if r.state = .cutting then tally l.length r else r } := by
  induction l generalizing s with
  | nil =>
    simp only [List.foldl_nil, endBoards, List.length_nil, zero, ite_self, List.map_id']
    rfl
  | cons a l ih =>
    have twice : (fun r : PanelRec => if r.state = .cutting then tally l.length r else r) ∘
        (fun r => if r.state = .cutting then tally 1 r else r) =
        fun r => if r.state = .cutting then tally (a :: l).length r else r := by
      funext r
      by_cases hr : r.state = .cutting
      · simp [hr, keeps, add]
      · simp [hr]
    rw [List.foldl_cons, ih, hstep]
    simp only [setBoard, modBoard, tallyCutting, modRecords, State.withSeq_seq, decide_eq_true_eq, List.map_map, twice]
    rfl

theorem foldl_boardAbandoned (l : List (Fin 64)) (s : State) :
    l.foldl (fun s b => boardAbandoned b s) s = s.withSeq
      { s.seq with
        boards := endBoards .abandoned l s.seq.boards
        records := s.seq.records.map fun r =>
          if r.state = .cutting then { r with abandoned := r.abandoned + l.length } else r } :=
  foldl_endBoard (tally := fun n r => { r with abandoned := r.abandoned + n }) (fun _ _ => rfl) (fun _ => rfl)
    (fun n r => by simp [Nat.add_assoc, Nat.add_comm 1]) (fun _ => rfl) l s

theorem foldl_boardFailed (l : List (Fin 64)) (s : State) :
    l.foldl (fun s b => boardFailed b s) s = s.withSeq
      { s.seq with
        boards := endBoards .failed l s.seq.boards
        records := s.seq.records.map fun r =>
          if r.state = .cutting then { r with failed := r.failed + l.length } else r } :=
  foldl_endBoard (tally := fun n r => { r with failed := r.failed + n }) (fun _ _ => rfl) (fun _ => rfl)
    (fun n r => by simp [Nat.add_assoc, Nat.add_comm 1]) (fun _ => rfl) l s

/-! #### The tabs bypassed (R68) -/

theorem bypassTab_seq (s : State) (t : Fin 256) : ∃ T, bypassTab s t = s.withSeq { s.seq with tabs := T } := by
  unfold bypassTab
  split
  · split_ifs
    · exact ⟨_, rfl⟩
    · exact ⟨s.seq.tabs, rfl⟩
  · exact ⟨s.seq.tabs, rfl⟩

theorem foldl_bypassTab_seq (l : List (Fin 256)) (s : State) :
    ∃ T, l.foldl bypassTab s = s.withSeq { s.seq with tabs := T } := by
  induction l generalizing s with
  | nil => exact ⟨s.seq.tabs, rfl⟩
  | cons a l ih =>
    obtain ⟨T, e⟩ := bypassTab_seq s a
    rw [List.foldl_cons, e]
    obtain ⟨T', e'⟩ := ih (s.withSeq { s.seq with tabs := T })
    exact ⟨T', e'⟩

theorem tabNeeded_congr {s u : State} (hr : u.recipe = s.recipe)
    (hb : ∀ b, boardLive u b = boardLive s b) (t : Fin 256) : tabNeeded u t = tabNeeded s t := by
  simp only [tabNeeded, hr, funext hb]

theorem waits_iff (st : TabState) :
    TabState.waits st = true ↔ st = .uncut ∨ st = .recutPending ∨ st = .verifyPending := by
  cases st <;> simp [TabState.waits]

/-- A tab's record where the tab is no longer needed (R68). -/
def tabBypassed (needed : Bool) (r : TabRun) : TabRun :=
  if TabState.waits r.state && !needed then { r with state := .bypassed } else r

theorem tabBypassed_twice (needed : Bool) (r : TabRun) :
    tabBypassed needed (tabBypassed needed r) = tabBypassed needed r := by
  by_cases h : (TabState.waits r.state && !needed) = true
  · have gone : tabBypassed needed r = { r with state := .bypassed } := if_pos h
    rw [gone]
    rfl
  · have kept : tabBypassed needed r = r := if_neg h
    rw [kept, kept]

theorem tabRun_setTab (t i : Fin 256) (st : TabState) (s : State) :
    tabRun (setTab t st s) i = if i = t then (tabRun s t).map fun r => { r with state := st } else tabRun s i :=
  Table.get_modify ..

theorem tabRun_bypassTab (s : State) (t i : Fin 256) :
    tabRun (bypassTab s t) i = if i = t then (tabRun s t).map (tabBypassed (tabNeeded s t)) else tabRun s i := by
  unfold bypassTab
  cases h : tabRun s t with
  | none =>
    simp only [tabState, h, Option.map_none]
    split_ifs with hi
    · rw [hi, h]
    · rfl
  | some r =>
    simp only [tabState, h, Option.map_some, tabBypassed]
    by_cases hw : (TabState.waits r.state && !tabNeeded s t) = true
    · rw [if_pos hw, tabRun_setTab, h, if_pos hw]
      rfl
    · rw [if_neg hw, if_neg hw]
      split_ifs with hi
      · rw [hi, h]
      · rfl

theorem tabNeeded_withSeq_tabs (T : Table 256 TabRun) (s : State) (t : Fin 256) :
    tabNeeded (s.withSeq { s.seq with tabs := T }) t = tabNeeded s t :=
  tabNeeded_congr (u := s.withSeq { s.seq with tabs := T }) rfl (fun _ => rfl) t

theorem tabRun_foldl_bypassTab (l : List (Fin 256)) (s : State) (i : Fin 256) :
    tabRun (l.foldl bypassTab s) i = if i ∈ l then (tabRun s i).map (tabBypassed (tabNeeded s i)) else tabRun s i := by
  induction l generalizing s with
  | nil => rfl
  | cons a l ih =>
    obtain ⟨T, e⟩ := bypassTab_seq s a
    have needed : tabNeeded (bypassTab s a) i = tabNeeded s i := by rw [e, tabNeeded_withSeq_tabs]
    rw [List.foldl_cons, ih, needed, tabRun_bypassTab]
    by_cases hi : i = a
    · subst hi
      cases tabRun s i <;> simp [tabBypassed_twice]
    · simp [hi]

/-! #### The picker lets go (R139) -/

/-- What a let-go of boards keeps of the Run Sequencer: all but the nest of a board of the list. -/
structure nestsGiven (l : List (Fin 64)) (s t : Sequencer) : Prop where
  same : t = { s with boards := t.boards }
  keys : Table.keys t.boards = Table.keys s.boards
  others : ∀ b, b ∉ l → Table.get t.boards b = Table.get s.boards b
  states : ∀ b, (Table.get t.boards b).map (fun r => (r.state, r.disposition, r.remaining)) =
    (Table.get s.boards b).map fun r => (r.state, r.disposition, r.remaining)

theorem nestsGiven_refl (l : List (Fin 64)) (s : Sequencer) : nestsGiven l s s := ⟨rfl, rfl, fun _ _ => rfl, fun _ => rfl⟩

theorem nestsGiven_trans {l : List (Fin 64)} {a b c : Sequencer} (h : nestsGiven l a b) (h' : nestsGiven l b c) :
    nestsGiven l a c where
  same := by rw [h'.same, h.same]
  keys := h'.keys.trans h.keys
  others x hx := (h'.others x hx).trans (h.others x hx)
  states x := (h'.states x).trans (h.states x)

theorem nestsGiven_release {l : List (Fin 64)} {b : Fin 64} (hb : b ∈ l) (s : Sequencer) :
    nestsGiven l s { s with boards := Table.modify b (fun r => { r with nest := none }) s.boards } where
  same := rfl
  keys := Table.keys_modify ..
  others x hx := by rw [Table.get_modify, if_neg (by rintro rfl; exact hx hb)]
  states x := by
    rw [Table.get_modify]
    split_ifs with h
    · rw [h, Option.map_map]
      rfl
    · rfl

theorem enterReturning_seq (s : State) : (enterReturning s).seq = s.seq := by
  rw [enterReturning_eq, homeward]
  dsimp only
  split <;> rfl

theorem letGo_seq {l : List (Fin 64)} {b : Fin 64} (hb : b ∈ l) (s : State) : nestsGiven l s.seq (letGo b s).seq := by
  have released : nestsGiven l s.seq (releaseReservation b s).seq := nestsGiven_release hb s.seq
  unfold letGo
  split
  · split
    · split
      · exact nestsGiven_refl ..
      · dsimp only
        split <;> exact released
    all_goals first
      | exact nestsGiven_refl ..
      | (rw [enterReturning_seq]; exact released)
  · exact nestsGiven_refl ..

theorem foldl_letGo_seq {l m : List (Fin 64)} (h : ∀ b ∈ m, b ∈ l) (s : State) :
    nestsGiven l s.seq (m.foldl (fun s b => letGo b s) s).seq := by
  induction m generalizing s with
  | nil => exact nestsGiven_refl ..
  | cons a m ih =>
    obtain ⟨ha, h⟩ := List.forall_mem_cons.1 h
    exact nestsGiven_trans (letGo_seq ha s) (ih h _)

theorem letGo_other {b : Fin 64} {s : State} (h : s.picker.board ≠ some b) : letGo b s = s := if_neg h

theorem foldl_letGo_others {l : List (Fin 64)} {s : State} (h : ∀ b ∈ l, s.picker.board ≠ some b) :
    l.foldl (fun s b => letGo b s) s = s := by
  induction l with
  | nil => rfl
  | cons a l ih =>
    obtain ⟨ha, h⟩ := List.forall_mem_cons.1 h
    rw [List.foldl_cons, letGo_other ha, ih h]

theorem letGo_holding {b : Fin 64} {s : State} (hb : s.picker.board = some b)
    (hs : s.picker.state = .gripping ∨ s.picker.state = .holding) :
    letGo b s = homeward ((releaseReservation b s).withOutputs { s.outputs with vacuumOn := false }) := by
  rw [letGo, if_pos hb]
  rcases hs with hs | hs <;> simp only [hs] <;> exact enterReturning_eq _

/-- An approach is withdrawn (R139). -/
theorem letGo_approach {b : Fin 64} {s : State} (hb : s.picker.board = some b) (hs : s.picker.state = .approach)
    (hw : s.picker.withdrawn = false) (hst : s.picker.stalled = false) :
    letGo b s = (releaseReservation b s).withPicker { s.picker with withdrawn := true, nest := none } := by
  rw [letGo, if_pos hb]
  have kept : (releaseReservation b s).picker.stalled = false := hst
  simp only [hs, hw, Bool.false_eq_true, if_false]
  rw [if_neg (by simp [kept]), ← hs]
  rfl

theorem letGo_withdrawn {b : Fin 64} {s : State} (hs : s.picker.state = .approach) (hw : s.picker.withdrawn = true) :
    letGo b s = s := by
  unfold letGo
  simp only [hs, hw, if_true, ite_self]

theorem homeward_picker (s : State) : (homeward s).picker.state = .returning ∧ (homeward s).picker.board = none := by
  unfold homeward
  dsimp only
  split <;> exact ⟨rfl, rfl⟩

/-- Of the boards let go, the picker's goes alone: nothing is left to let go after it. -/
theorem foldl_letGo_once {l : List (Fin 64)} {b : Fin 64} {s : State} (hl : b ∈ l) (hb : s.picker.board = some b)
    (once : ∀ c, letGo c (letGo b s) = letGo b s) : l.foldl (fun s b => letGo b s) s = letGo b s := by
  have settled (m : List (Fin 64)) : m.foldl (fun s b => letGo b s) (letGo b s) = letGo b s := by
    induction m with
    | nil => rfl
    | cons c m ih => rw [List.foldl_cons, once, ih]
  induction l with
  | nil => simp at hl
  | cons a l ih =>
    rw [List.foldl_cons]
    by_cases ha : a = b
    · rw [ha, settled]
    · rw [letGo_other (by rw [hb]; exact fun e => ha (Option.some.inj e).symm)]
      exact ih ((List.mem_cons.1 hl).resolve_left (Ne.symm ha))

theorem foldl_letGo_holding {l : List (Fin 64)} {b : Fin 64} {s : State} (hl : b ∈ l) (hb : s.picker.board = some b)
    (hs : s.picker.state = .gripping ∨ s.picker.state = .holding) :
    l.foldl (fun s b => letGo b s) s =
      homeward ((releaseReservation b s).withOutputs { s.outputs with vacuumOn := false }) := by
  rw [foldl_letGo_once hl hb fun c => ?_, letGo_holding hb hs]
  rw [letGo_holding hb hs]
  exact letGo_other (by rw [(homeward_picker _).2]; simp)

theorem foldl_letGo_approach {l : List (Fin 64)} {b : Fin 64} {s : State} (hl : b ∈ l) (hb : s.picker.board = some b)
    (hs : s.picker.state = .approach) (hw : s.picker.withdrawn = false) (hst : s.picker.stalled = false) :
    l.foldl (fun s b => letGo b s) s =
      (releaseReservation b s).withPicker { s.picker with withdrawn := true, nest := none } := by
  rw [foldl_letGo_once hl hb fun c => ?_, letGo_approach hb hs hw hst]
  rw [letGo_approach hb hs hw hst]
  exact letGo_withdrawn hs rfl

/-- The five blocks that a let-go may write, replaced. -/
def unitsReplaced (q : Sequencer) (n : List NestEntry) (p : Picker) (o : Outputs) (r : Ports) (s : State) : State :=
  ((((s.withSeq q).withNests n).withPicker p).withOutputs o).withPorts r

section
variable (q : Sequencer) (n : List NestEntry) (p : Picker) (o : Outputs) (r : Ports)

theorem unitsReplaced_homeward (s : State) :
    unitsReplaced q n p o r (homeward s) = unitsReplaced q n p o r s := by
  unfold homeward
  dsimp only
  split <;> rfl

theorem unitsReplaced_letGo (b : Fin 64) (s : State) :
    unitsReplaced q n p o r (letGo b s) = unitsReplaced q n p o r s := by
  unfold letGo
  split
  · split
    case h_1 =>
      split
      · rfl
      · dsimp only
        split <;> rfl
    case h_2 | h_3 =>
      rw [enterReturning_eq, unitsReplaced_homeward]
      rfl
    all_goals rfl
  · rfl

theorem unitsReplaced_foldl_letGo (l : List (Fin 64)) (s : State) :
    unitsReplaced q n p o r (l.foldl (fun s b => letGo b s) s) = unitsReplaced q n p o r s := by
  induction l generalizing s with
  | nil => rfl
  | cons a l ih => rw [List.foldl_cons, ih, unitsReplaced_letGo]

end

theorem unitsReplaced_self (s : State) : unitsReplaced s.seq s.nests s.picker s.outputs s.ports s = s := rfl

/-- A let-go of boards writes the five blocks alone. -/
theorem foldl_letGo_eq (l : List (Fin 64)) (s : State) :
    l.foldl (fun s b => letGo b s) s =
      let t := l.foldl (fun s b => letGo b s) s
      unitsReplaced t.seq t.nests t.picker t.outputs t.ports s :=
  (unitsReplaced_self _).symm.trans (unitsReplaced_foldl_letGo _ _ _ _ _ l s)

/-! #### The record leaves CUTTING, and the mode (R49, R50, R56) -/

theorem raiseNotice_only (n : Notice) (p : List Byte) (s : State) : ∃ N, raiseNotice n p s = s.withNotices N := by
  unfold raiseNotice
  dsimp only
  split
  · exact ⟨s.notices, rfl⟩
  · exact ⟨_, rfl⟩

theorem foldl_raiseNotice_notices {α : Type} (n : Notice) (f : α → List Byte) (l : List α) (s : State) :
    ∃ N, l.foldl (fun s a => raiseNotice n (f a) s) s = s.withNotices N := by
  induction l generalizing s with
  | nil => exact ⟨s.notices, rfl⟩
  | cons a l ih =>
    obtain ⟨N, e⟩ := raiseNotice_only n (f a) s
    obtain ⟨N', e'⟩ := ih (s.withNotices N)
    rw [List.foldl_cons, e, e']
    exact ⟨N', rfl⟩

theorem removeComplete_eq (s : State) :
    ∃ N, removeComplete s =
      (s.withNotices N).withSeq { s.seq with records := s.seq.records.filter fun r => !PanelRec.done r } := by
  obtain ⟨N, e⟩ := foldl_raiseNotice_notices Notice.panelComplete PanelRec.payload (s.seq.records.filter PanelRec.done) s
  refine ⟨N, ?_⟩
  rw [removeComplete, e]
  rfl

/-- What haltCell does is in the cell, and not to its hold latch. -/
theorem haltCell_cell (s : State) :
    ∃ c, haltCell s = s.withCell c ∧ c.holdLatch = s.cell.holdLatch := by
  unfold haltCell
  split
  · split <;> exact ⟨_, rfl, rfl⟩
  · exact ⟨s.cell, rfl, rfl⟩

theorem enterMode_cell {m : Mode} (h : m ≠ .held) (s : State) :
    ∃ c, enterMode m s = s.withCell c ∧ c.holdLatch = s.cell.holdLatch := by
  rw [enterMode, if_neg h]
  exact haltCell_cell (s.withCell { s.cell with mode := m })

theorem leaveCuttingMode_cell (s : State) (h : s.cell.holdLatch = false) :
    ∃ c, leaveCuttingMode s = s.withCell c ∧ c.holdLatch = false := by
  unfold leaveCuttingMode
  split
  any_goals exact enterMode_cell (by decide) (s.withCell { s.cell with holdLatch := false })
  · exact ⟨_, rfl, rfl⟩
  all_goals exact ⟨s.cell, rfl, h⟩

theorem stopMode_cell (s : State) : ∃ c, stopMode s = s.withCell c ∧ c.holdLatch = s.cell.holdLatch := by
  unfold stopMode
  split
  · split
    any_goals exact enterMode_cell (by decide) s
    · split <;> exact ⟨_, rfl, rfl⟩
    all_goals exact ⟨s.cell, rfl, rfl⟩
  · exact ⟨s.cell, rfl, rfl⟩

/-- Records without those that are done (R50). -/
def recordsLeft (l : List PanelRec) : List PanelRec := l.filter fun r => !PanelRec.done r

theorem cuttingRecord_some {s : State} {r : PanelRec} (h : r ∈ s.seq.records) (hr : r.state = .cutting) :
    (cuttingRecord s).isSome = true := by
  rw [cuttingRecord, List.find?_isSome]
  exact ⟨r, h, by simp [hr]⟩

theorem cuttingRecord_none {s : State} (h : ∀ r ∈ s.seq.records, r.state ≠ .cutting) : cuttingRecord s = none := by
  rw [cuttingRecord, List.find?_eq_none]
  exact fun r hr => by simpa using h r hr

/-- The cell after PANEL STOP where the record stays CUTTING (R56). -/
def stopsCutting (before after : Cell) : Prop :=
  after.mode = (if before.mode = .halted then .halted else .running) ∧
  after.ret = if before.mode = .halted ∧ (before.ret = some .holding ∨ before.ret = some .held) then some .running
    else before.ret

/-- The cell after PANEL STOP where the record leaves CUTTING (R49). -/
def stopsStacking (before after : Cell) : Prop :=
  after.mode = (if before.mode = .halted then .halted else .idle) ∧
  after.ret = if before.mode = .halted then some .idle else before.ret

/-- The modes in which PANEL STOP finds a CUTTING record. -/
def stopModes (m : Mode) : Prop := m = .running ∨ m = .holding ∨ m = .held ∨ m = .halted

theorem stopMode_stays {s : State} (hc : (cuttingRecord s).isSome = true) (hm : stopModes s.cell.mode)
    (hl : s.cell.mode = .halted ∨ latched s.faults = false) : stopsCutting s.cell (stopMode s).cell := by
  have quiet (h : s.cell.mode ≠ .halted) : enterMode .running s = s.withCell { s.cell with mode := .running } := by
    rw [enterMode_unlatched (hl.resolve_left h), if_neg (by decide)]
  unfold stopMode
  rw [if_pos hc]
  rcases hm with hm | hm | hm | hm
  · simp [stopsCutting, hm]
  · simp [stopsCutting, hm, quiet]
  · simp [stopsCutting, hm, quiet]
  · simp only [hm]
    split
    · next h => simp [stopsCutting, hm, h]
    · next h => simp [stopsCutting, hm, h]
    · next h h' =>
      refine ⟨by rw [hm]; rfl, ?_⟩
      rw [if_neg]
      rintro ⟨-, hr | hr⟩
      · exact h hr
      · exact h' hr

theorem leaveCuttingMode_stops {s : State} (hm : stopModes s.cell.mode)
    (hl : s.cell.mode = .halted ∨ latched s.faults = false) : stopsStacking s.cell (leaveCuttingMode s).cell := by
  rw [leaveCuttingMode_eq hl]
  rcases hm with hm | hm | hm | hm <;> simp [stopsStacking, hm]

/-- The end of PANEL STOP while a board is before QUEUED: the record stays CUTTING (R52, R56). -/
theorem stopEnds_stays {s : State} {r : PanelRec} (hr : cuttingRecord s = some r) (hn : noneBeforeQueued s = false)
    (hh : s.cell.holdLatch = false) :
    ∃ N c, stopMode (recordTest s) =
        ((s.withNotices N).withSeq { s.seq with records := recordsLeft s.seq.records }).withCell c ∧
      c.holdLatch = false ∧
      (stopModes s.cell.mode → s.cell.mode = .halted ∨ latched s.faults = false → stopsCutting s.cell c) := by
  obtain ⟨N, removed⟩ := removeComplete_eq s
  have test : recordTest s = (s.withNotices N).withSeq { s.seq with records := recordsLeft s.seq.records } := by
    unfold recordTest
    simp only [hr, hn, Bool.false_eq_true, if_false]
    exact removed
  rw [test]
  obtain ⟨c, mode, latch⟩ := stopMode_cell ((s.withNotices N).withSeq { s.seq with records := recordsLeft s.seq.records })
  refine ⟨N, c, mode, latch.trans hh, fun hm hl => ?_⟩
  have cutting : r.state = .cutting := by simpa using List.find?_some hr
  have left : r ∈ recordsLeft s.seq.records :=
    List.mem_filter.2 ⟨List.mem_of_find?_eq_some hr, by simp [PanelRec.done, cutting]⟩
  have stays := stopMode_stays
    (s := (s.withNotices N).withSeq { s.seq with records := recordsLeft s.seq.records })
    (cuttingRecord_some left cutting) hm hl
  rw [mode] at stays
  exact stays

/-- The CUTTING records gone to STACKING (R49). -/
def recordsStacking (s : State) : State :=
  s.withSeq { s.seq with
    records := s.seq.records.map fun q => if q.state = .cutting then { q with state := .stacking } else q }

/-- The end of PANEL STOP with no board before QUEUED: the record leaves CUTTING (R49, R50, R52). -/
theorem stopEnds_leaves {s : State} {r : PanelRec} (hr : cuttingRecord s = some r) (hn : noneBeforeQueued s = true)
    (hh : s.cell.holdLatch = false) :
    ∃ N c, stopMode (recordTest s) =
        ((s.withNotices N).withSeq { s.seq with
          records := recordsLeft (s.seq.records.map fun q => if q.state = .cutting then { q with state := .stacking } else q)
          }).withCell c ∧
      c.holdLatch = false ∧
      (stopModes s.cell.mode → s.cell.mode = .halted ∨ latched s.faults = false → stopsStacking s.cell c) := by
  obtain ⟨N, raised⟩ := raiseNotice_only Notice.panelCutDone (le32 r.serial.toNat) (recordsStacking s)
  obtain ⟨c, mode, latch⟩ := leaveCuttingMode_cell ((recordsStacking s).withNotices N) hh
  obtain ⟨N', removed⟩ := removeComplete_eq (((recordsStacking s).withNotices N).withCell c)
  have test : recordTest s = removeComplete (((recordsStacking s).withNotices N).withCell c) := by
    have marked : modRecords (fun q => decide (q.state = .cutting)) (fun q => { q with state := .stacking }) s =
        recordsStacking s := by
      simp only [modRecords, decide_eq_true_eq]
      rfl
    unfold recordTest
    simp only [hr, hn, if_true, marked, raised, mode]
  have none : cuttingRecord (removeComplete (((recordsStacking s).withNotices N).withCell c)) = none := by
    refine cuttingRecord_none fun q hq => ?_
    rw [removed] at hq
    obtain ⟨p, -, rfl⟩ := List.mem_map.1 (List.mem_of_mem_filter hq)
    split_ifs with hp
    · simp
    · exact hp
  refine ⟨N', c, ?_, latch, fun hm hl => ?_⟩
  · rw [test, stopMode, if_neg (by simp [none]), removed]
    rfl
  · have stops := leaveCuttingMode_stops (s := (recordsStacking s).withNotices N) hm hl
    rw [mode] at stops
    exact stops

end Sys2Proof.Machine

/-! ### PANEL STOP, settled (R50 to R53, R56) -/

namespace Sys2Proof.Machine

/-! #### What PANEL STOP does before the tests of the record -/

/-- PANEL STOP taken for the CUTTING record, the hold latch cleared (R52). -/
def stopMarked (s : State) : State :=
  (s.withSeq { s.seq with
    records := s.seq.records.map fun q => if q.state = .cutting then { q with stop := true } else q }).withCell
    { s.cell with holdLatch := false }

/-- The boards ABANDONED and the tabs without a live board BYPASSED (R52, R68). -/
def stopBypassed (s : State) : State :=
  (Table.keys s.seq.tabs).foldl bypassTab ((stopBoards s).foldl (fun s b => boardAbandoned b s) (stopMarked s))

/-- The held board of the abandoned ones let go (R53). -/
def stopReleased (s : State) : State := (stopBoards s).foldl (fun s b => letGo b s) (stopBypassed s)

theorem stopPanel_eq (s : State) : stopPanel s = stopMode (recordTest (stopReleased s)) := by
  have marked : (modRecords (fun q => decide (q.state = .cutting)) (fun q => { q with stop := true }) s).withCell
      { (modRecords (fun q => decide (q.state = .cutting)) (fun q => { q with stop := true }) s).cell with
        holdLatch := false } = stopMarked s := by
    simp only [modRecords, decide_eq_true_eq]
    rfl
  have boards : stopBoards (stopMarked s) = stopBoards s := rfl
  have tabs : ((stopBoards s).foldl (fun s b => boardAbandoned b s) (stopMarked s)).seq.tabs = s.seq.tabs := by
    rw [foldl_boardAbandoned]
    rfl
  unfold stopPanel
  dsimp only
  rw [marked, boards, tabs]
  rfl

/-- The Panel Records after PANEL STOP, before their test (R51, R52). -/
def stopRecords (s : State) : List PanelRec :=
  s.seq.records.map fun q =>
    if q.state = .cutting then { q with stop := true, abandoned := q.abandoned + (stopBoards s).length } else q

theorem stopBypassed_eq (s : State) :
    ∃ T, stopBypassed s = (s.withSeq { s.seq with
      records := stopRecords s, boards := endBoards .abandoned (stopBoards s) s.seq.boards, tabs := T }).withCell
      { s.cell with holdLatch := false } := by
  obtain ⟨T, e⟩ := foldl_bypassTab_seq (Table.keys s.seq.tabs)
    ((stopBoards s).foldl (fun s b => boardAbandoned b s) (stopMarked s))
  refine ⟨T, ?_⟩
  have twice : (fun q : PanelRec =>
        if q.state = .cutting then { q with abandoned := q.abandoned + (stopBoards s).length } else q) ∘
      (fun q => if q.state = .cutting then { q with stop := true } else q) =
      fun q => if q.state = .cutting then { q with stop := true, abandoned := q.abandoned + (stopBoards s).length }
        else q := by
    funext q
    by_cases hq : q.state = .cutting <;> simp [hq]
  rw [stopBypassed, e, foldl_boardAbandoned, stopRecords, ← twice, ← List.map_map]
  rfl

theorem stopReleased_seq (s : State) : nestsGiven (stopBoards s) (stopBypassed s).seq (stopReleased s).seq :=
  foldl_letGo_seq (fun _ h => h) _

/-- Of the blocks outside the Run Sequencer and the picker's, PANEL STOP touches the hold latch alone. -/
theorem stopReleased_eq (s : State) :
    stopReleased s = unitsReplaced (stopReleased s).seq (stopReleased s).nests (stopReleased s).picker
      (stopReleased s).outputs (stopReleased s).ports (s.withCell { s.cell with holdLatch := false }) := by
  have bypassed (q : Sequencer) (n : List NestEntry) (p : Picker) (o : Outputs) (r : Ports) :
      unitsReplaced q n p o r (stopBypassed s) = unitsReplaced q n p o r (s.withCell { s.cell with holdLatch := false }) := by
    obtain ⟨T, e⟩ := stopBypassed_eq s
    rw [e]
    rfl
  rw [← bypassed]
  exact foldl_letGo_eq ..

theorem stopReleased_others (s : State) :
    (stopReleased s).recipe = s.recipe ∧ (stopReleased s).router = s.router ∧ (stopReleased s).spindle = s.spindle ∧
      (stopReleased s).probe = s.probe ∧ (stopReleased s).stacker = s.stacker ∧ (stopReleased s).bays = s.bays ∧
      (stopReleased s).lines = s.lines ∧ (stopReleased s).faults = s.faults ∧ (stopReleased s).link = s.link := by
  obtain ⟨q, n, p, o, r, e⟩ : ∃ q n p o r,
      stopReleased s = unitsReplaced q n p o r (s.withCell { s.cell with holdLatch := false }) :=
    ⟨_, _, _, _, _, stopReleased_eq s⟩
  rw [e]
  exact ⟨rfl, rfl, rfl, rfl, rfl, rfl, rfl, rfl, rfl⟩

/-! #### The boards and the tabs -/

theorem stopAbandons_iff (s : State) (b : Fin 64) (r : BoardRun) :
    stopAbandons s b r = true ↔ (r.state = .waiting ∨ r.state = .precut ∨ r.state = .ready) ∨
      (r.state = .held ∧
        ¬ ∃ t, releaseTab s b = some t ∧ (tabState s t = some .cutting ∨ tabState s t = some .verifying)) := by
  unfold stopAbandons
  cases hs : r.state with
  | held => cases ht : releaseTab s b <;> simp
  | _ => simp

theorem mem_stopBoards_iff {s : State} {b : Fin 64} {r : BoardRun} (h : boardRun s b = some r) :
    b ∈ stopBoards s ↔ stopAbandons s b r = true := by
  simp [stopBoards, h, Table.mem_keys_of_get h]

theorem boardRun_stopBypassed (s : State) (b : Fin 64) :
    boardRun (stopBypassed s) b =
      if b ∈ stopBoards s then (boardRun s b).map fun r => { r with state := .abandoned } else boardRun s b := by
  obtain ⟨T, e⟩ := stopBypassed_eq s
  rw [e]
  exact get_endBoards ..

theorem boardState_stopReleased (s : State) (b : Fin 64) :
    boardState (stopReleased s) b = boardState (stopBypassed s) b := by
  have h := congrArg (Option.map Prod.fst) ((stopReleased_seq s).states b)
  simp only [Option.map_map, Function.comp_def] at h
  exact h

theorem boardLive_given {l : List (Fin 64)} {s u : State} (h : nestsGiven l s.seq u.seq) (b : Fin 64) :
    boardLive u b = boardLive s b := by
  have live (t : State) : boardLive t b =
      ((Table.get t.seq.boards b).map fun r => (r.state, r.disposition, r.remaining)).any fun e =>
        decide (e.2.1 ≠ .skip) && match e.1 with
          | .failed | .lost | .abandoned => false
          | _ => true := by
    unfold boardLive boardRun
    cases Table.get t.seq.boards b <;> rfl
  rw [live, live, h.states b]

theorem boardLive_stopReleased (s : State) (b : Fin 64) :
    boardLive (stopReleased s) b = boardLive (stopBypassed s) b :=
  boardLive_given (stopReleased_seq s) b

theorem boardState_stop_abandoned {s : State} {b : Fin 64} {r : BoardRun} (h : boardRun s b = some r)
    (hb : b ∈ stopBoards s) : boardState (stopReleased s) b = some .abandoned := by
  rw [boardState_stopReleased, boardState, boardRun_stopBypassed, if_pos hb, h]
  rfl

theorem boardRun_stop_kept {s : State} {b : Fin 64} (hb : b ∉ stopBoards s) :
    boardRun (stopReleased s) b = boardRun s b := by
  have kept : boardRun (stopReleased s) b = boardRun (stopBypassed s) b := (stopReleased_seq s).others b hb
  rw [kept, boardRun_stopBypassed, if_neg hb]

theorem keys_stopReleased (s : State) : Table.keys (stopReleased s).seq.boards = Table.keys s.seq.boards := by
  obtain ⟨T, e⟩ := stopBypassed_eq s
  rw [(stopReleased_seq s).keys, e]
  exact keys_endBoards ..

theorem records_stopReleased (s : State) : (stopReleased s).seq.records = stopRecords s := by
  obtain ⟨T, e⟩ := stopBypassed_eq s
  rw [(stopReleased_seq s).same, e]
  rfl

theorem recipe_stopReleased (s : State) : (stopReleased s).recipe = s.recipe := by
  rw [stopReleased_eq]
  rfl

theorem tabRun_stopReleased {s : State} {t : Fin 256} {run : TabRun} (h : tabRun s t = some run) :
    tabRun (stopReleased s) t = some (tabBypassed (tabNeeded (stopReleased s) t) run) := by
  have tabs : tabRun (stopReleased s) t = tabRun (stopBypassed s) t := by
    rw [tabRun, (stopReleased_seq s).same]
    rfl
  have before : (stopBoards s).foldl (fun s b => boardAbandoned b s) (stopMarked s) =
      (stopMarked s).withSeq { (stopMarked s).seq with
        boards := endBoards .abandoned (stopBoards s) s.seq.boards
        records := (stopMarked s).seq.records.map fun r =>
          if r.state = .cutting then { r with abandoned := r.abandoned + (stopBoards s).length } else r } :=
    foldl_boardAbandoned ..
  have needed : tabNeeded (stopReleased s) t =
      tabNeeded ((stopBoards s).foldl (fun s b => boardAbandoned b s) (stopMarked s)) t := by
    obtain ⟨T, e⟩ := foldl_bypassTab_seq (Table.keys s.seq.tabs)
      ((stopBoards s).foldl (fun s b => boardAbandoned b s) (stopMarked s))
    rw [tabNeeded_congr (s := stopBypassed s) ?_ (boardLive_stopReleased s), stopBypassed, e, tabNeeded_withSeq_tabs]
    rw [recipe_stopReleased]
    obtain ⟨T, e⟩ := stopBypassed_eq s
    rw [e]
    rfl
  have first : tabRun ((stopBoards s).foldl (fun s b => boardAbandoned b s) (stopMarked s)) t = some run := by
    rw [before]
    exact h
  rw [tabs, stopBypassed, tabRun_foldl_bypassTab, if_pos (Table.mem_keys_of_get h), first, needed]
  rfl

/-! #### The picker (R53, R139) -/

theorem homeward_nests (s : State) : (homeward s).nests = s.nests := by
  unfold homeward
  dsimp only
  split <;> rfl

theorem homeward_outputs (s : State) : (homeward s).outputs = s.outputs := by
  unfold homeward
  dsimp only
  split <;> rfl

theorem homeward_ports {s : State} (h : s.faults.allStop = false) :
    (homeward s).ports = { s.ports with picker := strobed .home s.ports.picker } := by
  unfold homeward
  rw [if_neg (by simp [h])]
  rfl

theorem mem_releaseReservation {b : Fin 64} {s : State} {e : NestEntry} :
    e ∈ (releaseReservation b s).nests ↔ e ∈ s.nests ∧ ¬ (e.board = b ∧ e.state = .reserved) := by
  rw [releaseReservation_eq]
  change e ∈ List.filter _ s.nests ↔ _
  rw [List.mem_filter]
  refine and_congr_right fun _ => ?_
  simp [imp_iff_not_or]

/-- Before the let-go the picker's blocks are as they were. -/
theorem stopBypassed_units (s : State) :
    (stopBypassed s).picker = s.picker ∧ (stopBypassed s).nests = s.nests ∧ (stopBypassed s).outputs = s.outputs ∧
      (stopBypassed s).ports = s.ports ∧ (stopBypassed s).faults = s.faults := by
  obtain ⟨T, e⟩ := stopBypassed_eq s
  rw [e]
  exact ⟨rfl, rfl, rfl, rfl, rfl⟩

section
variable {s : State} {b : Fin 64}

theorem stopReleased_apart (h : ∀ b ∈ stopBoards s, s.picker.board ≠ some b) : stopReleased s = stopBypassed s :=
  foldl_letGo_others (by rwa [(stopBypassed_units s).1])

theorem stopReleased_holding (hl : b ∈ stopBoards s) (hb : s.picker.board = some b) (hs : s.picker.state = .holding) :
    stopReleased s = homeward ((releaseReservation b (stopBypassed s)).withOutputs { s.outputs with vacuumOn := false }) := by
  obtain ⟨picker, -, outputs, -, -⟩ := stopBypassed_units s
  rw [← picker] at hb hs
  rw [stopReleased, foldl_letGo_holding hl hb (.inr hs), outputs]

end

/-! #### The end -/

/-- The end of PANEL STOP: the records tested, and the cell moved (R49, R50, R52, R56). -/
theorem stopPanel_ends {s : State} {r : PanelRec} (hr : cuttingRecord s = some r) :
    ∃ N c, stopPanel s = (((stopReleased s).withNotices N).withSeq { (stopReleased s).seq with
        records := recordsLeft ((stopRecords s).map fun q =>
          if q.state = .cutting then
            { q with state := if noneBeforeQueued (stopReleased s) then .stacking else .cutting } else q) }).withCell c ∧
      c.holdLatch = false ∧
      (stopModes s.cell.mode → s.cell.mode = .halted ∨ latched s.faults = false →
        (noneBeforeQueued (stopReleased s) = false → stopsCutting s.cell c) ∧
        (noneBeforeQueued (stopReleased s) = true → stopsStacking s.cell c)) := by
  have cell : (stopReleased s).cell = { s.cell with holdLatch := false } := by
    rw [stopReleased_eq]
    rfl
  have faults : (stopReleased s).faults = s.faults := by
    rw [stopReleased_eq]
    rfl
  have marked : ∃ q, cuttingRecord (stopReleased s) = some q := by
    refine Option.isSome_iff_exists.1 (cuttingRecord_some (r := { r with
      stop := true, abandoned := r.abandoned + (stopBoards s).length }) ?_ ?_)
    · have cutting : r.state = .cutting := by simpa using List.find?_some hr
      rw [records_stopReleased]
      exact List.mem_map.2 ⟨r, List.mem_of_find?_eq_some hr, if_pos cutting⟩
    · simpa using List.find?_some hr
  obtain ⟨q, hq⟩ := marked
  have latch : (stopReleased s).cell.holdLatch = false := by rw [cell]
  rw [stopPanel_eq, ← records_stopReleased]
  cases hn : noneBeforeQueued (stopReleased s) with
  | false =>
    obtain ⟨N, c, e, hc, stays⟩ := stopEnds_stays hq hn latch
    refine ⟨N, c, ?_, hc, fun hm hl => ⟨fun _ => ?_, fun h => absurd h (by decide)⟩⟩
    · have same : (fun p : PanelRec => if p.state = .cutting then
          { p with state := if (false = true) then .stacking else .cutting } else p) = id := by
        funext p
        by_cases hp : p.state = .cutting
        · simp [← hp]
        · simp [hp]
      rw [e, same, List.map_id]
    · rw [cell, faults] at stays
      exact stays hm hl
  | true =>
    obtain ⟨N, c, e, hc, leaves⟩ := stopEnds_leaves hq hn latch
    refine ⟨N, c, e, hc, fun hm hl => ⟨fun h => absurd h (by decide), fun _ => ?_⟩⟩
    rw [cell, faults] at leaves
    exact leaves hm hl

theorem remains_iff (s : State) :
    (s.seq.boards.any fun e => decide (e.2.state = .waiting ∨ e.2.state = .precut ∨ e.2.state = .ready ∨
      e.2.state = .held ∨ e.2.state = .freed)) = !noneBeforeQueued s := by
  rw [noneBeforeQueued, List.not_all_eq_any_not]
  refine congrArg s.seq.boards.any (funext fun e => ?_)
  cases e.2.state <;> rfl

/-- Each abandoned board adds one to the tally (R51). -/
theorem length_stopBoards {s : State} (hn : (s.seq.boards.map Prod.fst).Nodup) :
    (s.seq.boards.filter fun e =>
      decide (e.2.state ≠ .abandoned ∧ boardState (stopReleased s) e.1 = some .abandoned)).length =
      (stopBoards s).length := by
  rw [stopBoards, Table.keys, List.filter_map, List.length_map]
  refine congrArg List.length (List.filter_congr fun e he => ?_)
  have run : boardRun s e.1 = some e.2 := get_of_mem hn he
  rw [Function.comp_apply, run, Option.any_some, Bool.eq_iff_iff, decide_eq_true_eq, ← mem_stopBoards_iff run]
  constructor
  · rintro ⟨before, after⟩
    by_contra hb
    rw [boardState, boardRun_stop_kept hb, run] at after
    exact before (Option.some.inj after)
  · intro hb
    refine ⟨?_, boardState_stop_abandoned run hb⟩
    rcases (stopAbandons_iff s e.1 e.2).1 ((mem_stopBoards_iff run).1 hb) with (h | h | h) | ⟨h, -⟩ <;> simp [h]

/-- Settles O18. -/
theorem panelStopAbandons : Obligations.PanelStopAbandons := by
  intro tag r s hslot hr hm released remains
  have takeable : stopTakeable s = true := by
    rcases hm with h | h | h | h <;> simp [stopTakeable, h, hr]
  refine ⟨fun hstop hu => exec_answered rfl hslot ?again hu, fun hstop hu => ?_⟩
  case again =>
    have taken : stopTaken s = true := by simp only [stopTaken, hr, hstop]
    rw [panelStop, if_pos takeable, if_pos taken]
    rfl
  obtain ⟨N, c, e, latch, moved⟩ := stopPanel_ends hr
  refine ⟨stopPanel s, exec_answered rfl hslot ?_ hu, ?_⟩
  · have taken : ¬ stopTaken s = true := by simp [stopTaken, hr, hstop]
    rw [panelStop, if_pos takeable, if_neg taken]
    rfl
  have run (b : Fin 64) : boardRun (stopPanel s) b = boardRun (stopReleased s) b := by rw [e]; rfl
  have tab (t : Fin 256) : tabRun (stopPanel s) t = tabRun (stopReleased s) t := by rw [e]; rfl
  have state (b : Fin 64) : boardState (stopPanel s) b = boardState (stopReleased s) b :=
    congrArg (Option.map BoardRun.state) (run b)
  have left : remains (stopPanel s) = !noneBeforeQueued (stopReleased s) := by
    rw [← remains_iff, e]
    rfl
  have records : (stopPanel s).seq.records = recordsLeft ((stopRecords s).map fun q =>
      if q.state = .cutting then
        { q with state := if noneBeforeQueued (stopReleased s) then .stacking else .cutting } else q) := by
    rw [e]
    rfl
  refine ⟨by rw [e]; exact latch, fun q hq hcut => ?stop, fun b r hb => ?boards, fun b r hp hb hheld hnot hhold => ?holding,
    fun hnone => ?apart, fun t r ht => ?tabs, fun hn => ?records, fun hl => ?cell, ?rest⟩
  case stop =>
    rw [records] at hq
    obtain ⟨p, hp, rfl⟩ := List.mem_map.1 (List.mem_of_mem_filter hq)
    obtain ⟨p', -, rfl⟩ := List.mem_map.1 hp
    by_cases hc : p'.state = .cutting
    · simp [hc]
    · simp [hc] at hcut
  case boards =>
    have gone := (mem_stopBoards_iff hb).trans (stopAbandons_iff s b r)
    rw [state, run]
    refine ⟨fun h => boardState_stop_abandoned hb (gone.2 (.inl h)),
      fun h hr => boardState_stop_abandoned hb (gone.2 (.inr ⟨h, hr⟩)),
      fun h hr => (boardRun_stop_kept fun hg => ?_).trans hb,
      fun hw hp hr hh => (boardRun_stop_kept fun hg => ?_).trans hb⟩
    · rcases gone.1 hg with hs | ⟨-, hs⟩
      · simp [h] at hs
      · exact hs hr
    · rcases gone.1 hg with (hs | hs | hs) | ⟨hs, -⟩
      · exact hw hs
      · exact hp hs
      · exact hr hs
      · exact hh hs
  case holding =>
    have gone : b ∈ stopBoards s := (mem_stopBoards_iff hb).2 ((stopAbandons_iff s b r).2 (.inr ⟨hheld, hnot⟩))
    obtain ⟨-, nests, outputs, ports, faults⟩ := stopBypassed_units s
    obtain ⟨returning, empty⟩ := homeward_picker
      ((releaseReservation b (stopBypassed s)).withOutputs { s.outputs with vacuumOn := false })
    rw [e, stopReleased_holding gone hp hhold]
    refine ⟨returning, empty, homeward_outputs _, fun hall => ?_, fun q => ?_⟩
    · refine (homeward_ports (faults.symm ▸ hall)).trans ?_
      exact congrArg (fun p : Ports => { p with picker := strobed .home p.picker }) ports
    · change q ∈ (homeward _).nests ↔ _
      rw [homeward_nests, ← nests]
      exact mem_releaseReservation
  case apart =>
    have apart : stopReleased s = stopBypassed s := by
      refine stopReleased_apart fun b hb hp => hnone b hp ?_
      obtain ⟨r, hr⟩ := exists_get_of_mem_keys (List.mem_of_mem_filter hb)
      rw [state]
      exact boardState_stop_abandoned hr hb
    obtain ⟨picker, nests, outputs, ports, -⟩ := stopBypassed_units s
    rw [e, apart]
    exact ⟨picker, nests, outputs, ports⟩
  case tabs =>
    have needed : tabNeeded (stopPanel s) t = tabNeeded (stopReleased s) t := by rw [e]; rfl
    rw [needed, tab, tabRun_stopReleased ht]
    refine ⟨fun h => congrArg some (if_pos ?_), fun h => congrArg some (if_neg fun hc => h ?_)⟩
    · simp [(waits_iff r.state).2 h.2, h.1]
    · rw [Bool.and_eq_true, Bool.not_eq_true'] at hc
      exact ⟨hc.2, (waits_iff r.state).1 hc.1⟩
  case records =>
    refine ⟨?_, ?_⟩
    · rw [e]
      exact keys_stopReleased s
    · simp only [left, state]
      rw [records, length_stopBoards hn, recordsLeft, done_eq, stopRecords, List.map_map]
      refine congrArg _ (List.map_congr_left fun q _ => ?_)
      by_cases hq : q.state = .cutting
      · cases noneBeforeQueued (stopReleased s) <;> simp [hq]
      · simp [hq]
  case cell =>
    obtain ⟨stays, leaves⟩ := moved hm hl
    rw [left, e]
    exact ⟨fun h => stays (by simpa using h), fun h => leaves (by simpa using h)⟩
  case rest =>
    rw [e]
    exact stopReleased_others s

end Sys2Proof.Machine

/-! ### STATUS QUERY and TABLE READ (R14, R22 to R24) -/

namespace Sys2Proof.Machine

theorem tableBytes_one (s : State) (sel n : Nat) : tableBytes s sel n 1 = tableEntry s sel n := by
  simp [tableBytes]

/-! #### The status record (R22) -/

theorem length_recordBytes (r : Option PanelRec) : (recordBytes r).length = 11 := by cases r <;> rfl

theorem length_snapshotBytes (x : Option Snapshot) : (snapshotBytes x).length = 8 := by cases x <;> rfl

theorem length_entryBytes (e : Option NestEntry) : (entryBytes e).length = 8 := by cases e <;> rfl

theorem length_topBytes (f : Faults) : (topBytes f).length = 5 := by
  unfold topBytes
  cases f.stack <;> rfl

theorem length_le32 (n : Nat) : (le32 n).length = 4 := rfl

theorem length_le16 (n : Nat) : (le16 n).length = 2 := rfl

theorem length_bayBytes (r : BayRec) : (bayBytes r).length = 5 := rfl

theorem length_statusRecord (s : State) : (statusRecord s).length = 104 := by
  unfold statusRecord
  simp only [List.length_append, length_recordBytes, length_snapshotBytes, length_entryBytes, length_topBytes,
    length_le32, length_le16, length_bayBytes]
  simp only [List.length_cons, List.length_nil]

/-! #### The tables (R23, R24) -/

theorem length_boardEntry {s : State} {i : Nat} (h : i < 64) : (boardEntry s i).length = 9 := by
  simp only [boardEntry, index?, h, dif_pos]
  split_ifs
  · rfl
  · cases boardRun s ⟨i, h⟩ <;> rfl

theorem length_tabEntry {s : State} {i : Nat} (h : i < 256) : (tabEntry s i).length = 4 := by
  simp only [tabEntry, index?, h, dif_pos]
  split_ifs
  · rfl
  · cases tabRun s ⟨i, h⟩ <;> rfl

theorem length_slotEntry (s : State) (r : BayRec) (i : Nat) : (slotEntry s r i).length = 7 := by
  unfold slotEntry
  split
  · rfl
  · split <;> rfl

theorem length_stackEntry (s : State) (i : Nat) : (stackEntry s i).length = 6 := by
  unfold stackEntry
  split <;> rfl

theorem length_sourceEntry {s : State} {i : Nat} (h : i < 23) : (sourceEntry s i).length = 8 := by
  simp only [sourceEntry, index?, h, dif_pos]
  split <;> rfl

theorem length_noticeEntry {s : State} {i : Nat} (h : i < 16) : (noticeEntry s i).length = 5 := by
  simp only [noticeEntry, index?, h, dif_pos]
  rfl

theorem length_lineEntry {s : State} {i : Nat} (h : i < 20) : (lineEntry s i).length = 6 := by
  unfold lineEntry
  by_cases hi : i < 16
  · simp only [index?, hi, dif_pos]
    rfl
  · simp only [index?, hi, dif_neg, not_false_iff, show i - 16 < 4 by omega, dif_pos]
    rfl

/-- Every entry of a table has the length that the table's shape gives (R23). -/
theorem length_tableEntry {s : State} {sel last size i : Nat} (hs : tableShape sel = some (last, size)) (hi : i ≤ last) :
    (tableEntry s sel i).length = size := by
  unfold tableShape at hs
  split at hs
  case h_9 => cases hs
  all_goals
    obtain ⟨rfl, rfl⟩ := Prod.mk.inj (Option.some.inj hs)
  case h_1 => exact length_boardEntry (by omega)
  case h_2 => exact length_tabEntry (by omega)
  case h_3 => exact length_slotEntry ..
  case h_4 => exact length_slotEntry ..
  case h_5 => exact length_stackEntry ..
  case h_6 => exact length_sourceEntry (by omega)
  case h_7 => exact length_noticeEntry (by omega)
  case h_8 => exact length_lineEntry (by omega)

theorem length_tableBytes {s : State} {sel first count last size : Nat} (hs : tableShape sel = some (last, size))
    (hfit : first + count ≤ last + 1) : (tableBytes s sel first count).length = count * size := by
  rw [tableBytes, ← List.flatMap_def, List.length_flatMap, List.map_congr_left (g := fun _ => size), List.map_const',
    List.sum_replicate, List.length_range, smul_eq_mul]
  intro k hk
  have := List.mem_range.1 hk
  exact length_tableEntry hs (by omega)

theorem tableShape_eq (sel : Nat) :
    tableShape sel = [(63, 9), (255, 4), (99, 7), (99, 7), (7, 6), (22, 8), (15, 5), (19, 6)][sel]? := by
  match sel with
  | 0 | 1 | 2 | 3 | 4 | 5 | 6 | 7 => rfl
  | n + 8 => rfl

theorem b8_toNat (x : Byte) : b8 x.toNat = x := by
  rw [b8, BitVec.ofNat_toNat, BitVec.setWidth_eq]

/-- TABLE READ of entries inside a table (R23). -/
theorem tableRead_inside {sel first count : Byte} {last size : Nat} {s : State}
    (hs : tableShape sel.toNat = some (last, size)) (hc : 1 ≤ count.toNat)
    (hfit : first.toNat + count.toNat ≤ last + 1) (hsize : count.toNat * size ≤ 508) :
    tableRead [sel, first, count] s =
      done .ok ([sel, first, count] ++ tableBytes s sel.toNat first.toNat count.toNat)
        (if sel = 2 ∨ sel = 3 then s.withFree (s.free + 1) else s) := by
  have map_ (n : Nat) (h : n < 256) : sel.toNat = n ↔ sel = BitVec.ofNat 8 n := by
    rw [← BitVec.toNat_inj, BitVec.toNat_ofNat, Nat.mod_eq_of_lt h]
  simp only [tableRead, u8_cons_zero, show u8 [sel, first, count] 1 = first.toNat from rfl,
    show u8 [sel, first, count] 2 = count.toNat from rfl, hs, b8_toNat, Bool.or_eq_true, decide_eq_true_eq,
    map_ 2 (by decide), map_ 3 (by decide)]
  rw [if_neg (by omega), if_neg (by omega), if_neg (by omega), if_neg (by omega)]
  rfl

/-! #### The fields, in their order (R22, R24) -/

/-- An optional value as it goes out (R14). -/
def optOut (n : Option Nat) : Byte := match n with | some n => b8 n | none => 0xFF

theorem optByte_eq : optByte = optOut := funext fun n => by cases n <;> rfl

theorem recordBytes_eq (r : Option PanelRec) :
    recordBytes r = match r with
      | some r =>
        [b8 (PanelState.code r.state)] ++ le32 r.serial.toNat ++
          [b8 r.stacked, b8 r.chuted, b8 r.failed, b8 r.lost, b8 r.abandoned, b8 r.outstanding]
      | none => [0xFF, 0, 0, 0, 0, 0, 0, 0, 0, 0, 0] := by
  cases r <;> rfl

theorem entryBytes_eq (e : Option NestEntry) :
    entryBytes e = match e with
      | some e =>
        [b8 e.nest.val, b8 e.board.val] ++ le32 e.serial.toNat ++
          [b8 (Disposition.code e.disposition), b8 (EntryState.code e.state)]
      | none => [0xFF, 0, 0, 0, 0, 0, 0, 0] := by
  cases e <;> rfl

theorem snapshotBytes_eq (x : Option Snapshot) :
    snapshotBytes x = match x with
      | some x =>
        [1, b8 x.tab.val, b8 x.attempt, b8 x.ne, b8 x.hits, b8 x.misses, b8 x.sampled, b8 (Verdict.code x.verdict)]
      | none => [0, 0, 0, 0, 0, 0, 0, 0] := by
  cases x <;> rfl

theorem topBytes_eq (f : Faults) :
    topBytes f = match f.stack with
      | r :: _ => [b8 r.source.val, b8 r.level] ++ detailBytes r.detail ++ [b8 r.repeats]
      | [] => [0xFF, 0, 0, 0, 0] := by
  unfold topBytes
  cases f.stack with
  | nil => rfl
  | cons r l =>
    simp only [detailBytes_eq]
    rfl

theorem bayBytes_eq (r : BayRec) :
    bayBytes r = [b8 (BayState.code r.state), optOut (r.desc.map fun d => d.profile.val),
      (match r.desc with | some d => b8 d.filled | none => 0), optOut (r.desc.bind fun d => d.next),
      if r.retire then 1 else 0] := by
  simp only [bayBytes, optByte_eq, BayRec.filled]
  cases r.desc <;> rfl

theorem boardEntry_fields (s : State) (b : Fin 64) : tableBytes s 0 b.val 1 =
    if Table.get s.recipe.boards b = none then [b8 b.val, 0, 0xFF, 0xFF, 0xFF, 0xFF, 0xFF, 0xFF, 0xFF]
    else match boardRun s b with
      | some r =>
        [b8 b.val, 1, b8 (BoardState.code r.state), b8 (Disposition.code r.disposition), b8 r.remaining,
         if r.regrip then 1 else 0, optOut (r.nest.map fun n => n.val),
         optOut (r.bay.map fun x => if x = .a then 0 else 1), optOut r.slot]
      | none => [b8 b.val, 1, 0xFF, 0xFF, 0xFF, 0xFF, 0xFF, 0xFF, 0xFF] := by
  have codes : Bay.code = fun x => if x = .a then 0 else 1 := funext fun x => by cases x <;> rfl
  simp only [tableBytes_one, tableEntry, boardEntry, index?_val, Option.isNone_iff_eq_none, optByte_eq, codes]
  cases boardRun s b <;> rfl

theorem tabEntry_fields (s : State) (t : Fin 256) : tableBytes s 1 t.val 1 =
    if Table.get s.recipe.tabs t = none then [b8 t.val, 0, 0xFF, 0xFF]
    else match tabRun s t with
      | some r => [b8 t.val, 1, b8 (TabState.code r.state), b8 r.attempts]
      | none => [b8 t.val, 1, 0xFF, 0xFF] := by
  simp only [tableBytes_one, tableEntry, tabEntry, index?_val, Option.isNone_iff_eq_none]
  cases tabRun s t <;> rfl

theorem slotEntry_fields (s : State) (x : Bay) (n : Nat) :
    let entry := tableBytes s (if x = .a then 2 else 3) n 1
    ((bayOf s x).desc = none → entry = [b8 n, 0xFF, 0xFF, 0xFF, 0xFF, 0xFF, 0xFF]) ∧
    ((bayOf s x).desc ≠ none →
      (∀ b serial, (bayOf s x).map[n]? = some (.filled b serial) → entry = [b8 n, 2, b8 b.val] ++ le32 serial.toNat) ∧
      ((bayOf s x).map[n]? = some .unused → entry = [b8 n, 0, 0xFF, 0, 0, 0, 0]) ∧
      ((bayOf s x).map[n]? = some .open_ → entry = [b8 n, 1, 0xFF, 0, 0, 0, 0]) ∧
      ((bayOf s x).map[n]? = some .blocked → entry = [b8 n, 3, 0xFF, 0, 0, 0, 0])) := by
  have spelled : tableBytes s (if x = .a then 2 else 3) n 1 = slotEntry s (bayOf s x) n := by
    rw [tableBytes_one]
    cases x <;> rfl
  simp only [spelled, slotEntry]
  refine ⟨fun h => ?_, fun h => ?_⟩
  · rw [h]
    rfl
  · obtain ⟨d, hd⟩ := Option.ne_none_iff_exists'.1 h
    simp only [hd]
    exact ⟨fun b serial hm => by rw [hm]; rfl, fun hm => by rw [hm]; rfl, fun hm => by rw [hm]; rfl,
      fun hm => by rw [hm]; rfl⟩

theorem stackEntry_fields (s : State) (n : Nat) : tableBytes s 4 n 1 =
    match s.faults.stack.reverse[n]? with
    | some r => [b8 n, b8 r.source.val, b8 r.level] ++ detailBytes r.detail ++ [b8 r.repeats]
    | none => [b8 n, 0xFF, 0, 0, 0, 0] := by
  simp only [tableBytes_one, tableEntry, stackEntry, detailBytes_eq]
  cases s.faults.stack.reverse[n]? <;> rfl

theorem sourceEntry_fields (s : State) (src : Source) :
    let setting := [b8 src.val, b8 (getAt s.faults.levels src), markByte (decide (src.val ≤ 1))]
    let record (place : Byte) (r : FaultRec) := [place, b8 r.level] ++ detailBytes r.detail ++ [b8 r.repeats]
    (∀ r, s.faults.waiting.find? (fun q => q.source = src) = some r → tableBytes s 5 src.val 1 = setting ++ record 1 r) ∧
    ((∀ q ∈ s.faults.waiting, q.source ≠ src) →
      (∀ r, s.faults.stack.find? (fun q => q.source = src) = some r → tableBytes s 5 src.val 1 = setting ++ record 2 r) ∧
      ((∀ q ∈ s.faults.stack, q.source ≠ src) →
        tableBytes s 5 src.val 1 = setting ++ [0, 0xFF, 0xFF, 0xFF, 0xFF])) := by
  have absent_ {l : List FaultRec} (h : ∀ q ∈ l, q.source ≠ src) : l.find? (fun r => decide (r.source = src)) = none :=
    List.find?_eq_none.2 fun q hq => by simpa using h q hq
  simp only [tableBytes_one, tableEntry, sourceEntry, index?_val, Source.fixed, detailBytes_eq]
  refine ⟨fun r hr => ?_, fun hw => ⟨fun r hr => ?_, fun hs => ?_⟩⟩
  · rw [hr]
    rfl
  · rw [absent_ hw, hr]
    rfl
  · rw [absent_ hw, absent_ hs]
    rfl

theorem noticeEntry_fields (s : State) (n : Notice) :
    let r := getAt s.notices n
    tableBytes s 6 n.val 1 = [b8 n.val, if r.raised then 1 else 0, if r.sent then 1 else 0, if r.enabled then 1 else 0,
      if n.val = 0 ∨ n.val = 1 ∨ n.val = 4 ∨ n.val = 5 then 0 else 1] := by
  have high : Notice.high n = true ↔ n.val = 0 ∨ n.val = 1 ∨ n.val = 4 ∨ n.val = 5 := by
    simp [Notice.high, or_assoc]
  simp only [tableBytes_one, tableEntry, noticeEntry, index?_val, high]
  rfl

theorem dedEntry_fields (s : State) (l : Fin 16) :
    let d := getAt s.lines.ded l
    tableBytes s 7 l.val 1 = [b8 l.val, b8 (Sense.code d.sense), 0xFF, b8 (SamplePeriod.code d.period),
      markByte (decide (d.filter.level = some true)), 0xFF] := by
  simp only [tableBytes_one, tableEntry, lineEntry, index?_val, beq_eq_decide]
  rfl

theorem auxEntry_fields (s : State) (n : Fin 4) :
    let a := getAt s.lines.aux n
    tableBytes s 7 (16 + n.val) 1 = [b8 (16 + n.val), b8 (DetectMode.code a.mode), b8 (AuxRole.code a.role),
      b8 (SamplePeriod.code a.period), markByte (decide (a.filter.level = some true)),
      markByte (decide (a.latch ≠ .clear))] := by
  have beyond : index? 16 (16 + n.val) = none := dif_neg (by omega)
  have latch : b8 (Latch.code (getAt s.lines.aux n).latch) = markByte (decide ((getAt s.lines.aux n).latch ≠ .clear)) := by
    cases (getAt s.lines.aux n).latch <;> rfl
  simp only [tableBytes_one, tableEntry, lineEntry, beyond, Nat.add_sub_cancel_left, index?_val, beq_eq_decide,
    latch]

/-- The status record's fields in their order (R22). -/
theorem statusRecord_eq (s : State) :
    statusRecord s =
      [b8 (RecipeState.code s.recipe.state), b8 s.recipe.depth] ++
      [b8 (Mode.code s.cell.mode), optByte (s.cell.ret.map Mode.code), markByte s.cell.holdLatch] ++
      recordBytes s.seq.records[0]? ++ recordBytes s.seq.records[1]? ++ [optByte ((front s).map fun b => b.val)] ++
      [b8 (RouterState.code s.router.state), b8 (SpindleState.code s.spindle.state)] ++ le32 s.spindle.rpm ++
      le16 s.spindle.setpoint ++ [b8 s.router.override] ++
      le32 s.router.wear ++ le32 s.router.life ++ le16 s.router.baseFeed ++ [b8 (BitState.code s.router.bit)] ++
      snapshotBytes s.probe.snapshot ++ [b8 (ProbeState.code s.probe.state), b8 (PickerState.code s.picker.state)] ++
      [optByte (s.picker.board.map fun b => b.val)] ++
      [b8 s.nests.length] ++ entryBytes s.nests[0]? ++ entryBytes s.nests[1]? ++ entryBytes s.nests[2]? ++
      [b8 (StackerState.code s.stacker.state)] ++ bayBytes s.bays.a ++ bayBytes s.bays.b ++
      [markByte s.faults.allStop, markByte s.faults.cutStop] ++ [b8 s.faults.stack.length] ++ topBytes s.faults ++
      [b8 s.faults.waiting.length] := by
  unfold statusRecord
  simp only [List.append_assoc, List.cons_append, List.nil_append]

/-- Settles O11. -/
theorem readsAreAnswered : Obligations.ReadsAreAnswered := by
  refine ⟨fun tag s hs hu => ⟨exec_answered rfl hs rfl hu, length_statusRecord s⟩,
    fun tag sel first count last size s hs hu hshape hc hfit hsize => ⟨exec_answered rfl hs ?read ?_, ?length⟩,
    fun s => ?status, fun s => ?entries, ?codes⟩
  case read =>
    rw [tableRead_inside ((tableShape_eq _).trans hshape) hc hfit hsize]
    rfl
  case length => exact length_tableBytes ((tableShape_eq _).trans hshape) hfit
  · split_ifs
    · exact hu
    · exact hu
  case status =>
    rw [statusRecord_eq]
    simp only [recordBytes_eq, entryBytes_eq, snapshotBytes_eq, bayBytes_eq, topBytes_eq, optByte_eq] <;> rfl
  case entries =>
    exact ⟨boardEntry_fields s, tabEntry_fields s, slotEntry_fields s, stackEntry_fields s, sourceEntry_fields s,
      noticeEntry_fields s, dedEntry_fields s, auxEntry_fields s⟩
  case codes =>
    exact ⟨⟨rfl, rfl, rfl, rfl, rfl⟩, ⟨rfl, rfl, rfl, rfl, rfl, rfl⟩, ⟨rfl, rfl, rfl, rfl⟩, rfl, rfl, rfl, rfl⟩

end Sys2Proof.Machine

/-! ### RECIPE CLOSE (R35 to R37) -/

namespace Sys2Proof.Machine

/-! #### Tables in ascending index -/

theorem mem_of_get {n : Nat} {α : Type} {t : Table n α} {i : Fin n} {x : α} (h : Table.get t i = some x) : (i, x) ∈ t := by
  induction t with
  | nil => simp [Table.get] at h
  | cons e t ih =>
    obtain ⟨j, y⟩ := e
    rw [Table.get] at h
    split_ifs at h with hj
    · obtain rfl := Option.some.inj h
      simp [hj]
    · exact List.mem_cons_of_mem _ (ih h)

/-- In a table of ascending index an entry is what a reading gives. -/
theorem get_eq_some_iff {n : Nat} {α : Type} {t : Table n α} (hw : Table.wf t = true) {i : Fin n} {x : α} :
    Table.get t i = some x ↔ (i, x) ∈ t :=
  ⟨mem_of_get, get_of_mem (e := (i, x)) (((Table.wf_iff t).1 hw).imp ne_of_lt)⟩

theorem first_eq_none {n : Nat} {α : Type} {p : Fin n → α → Bool} {t : Table n α} (h : ∀ e ∈ t, p e.1 e.2 = false) :
    Table.first p t = none := by
  induction t with
  | nil => rfl
  | cons e t ih =>
    obtain ⟨j, y⟩ := e
    obtain ⟨he, h⟩ := List.forall_mem_cons.1 h
    rw [Table.first, if_neg (by simp [he]), ih h]

theorem first_none_iff {n : Nat} {α : Type} {p : Fin n → α → Bool} {t : Table n α} :
    Table.first p t = none ↔ ∀ e ∈ t, p e.1 e.2 = false := by
  refine ⟨fun h => ?_, first_eq_none⟩
  induction t with
  | nil => simp
  | cons e t ih =>
    obtain ⟨j, y⟩ := e
    rw [Table.first] at h
    split_ifs at h with hp
    exact List.forall_mem_cons.2 ⟨by simpa using hp, ih h⟩

theorem first_eq_some {n : Nat} {α : Type} {p : Fin n → α → Bool} {t : Table n α} (hw : (Table.keys t).Pairwise (· < ·))
    {i : Fin n} {x : α} (hi : (i, x) ∈ t) (hp : p i x = true) (hmin : ∀ e ∈ t, p e.1 e.2 = true → i ≤ e.1) :
    Table.first p t = some i := by
  induction t with
  | nil => simp at hi
  | cons e t ih =>
    obtain ⟨j, y⟩ := e
    obtain ⟨above, hw⟩ := List.pairwise_cons.1 hw
    obtain ⟨hj, hmin⟩ := List.forall_mem_cons.1 hmin
    rw [Table.first]
    rcases List.mem_cons.1 hi with he | hi
    · obtain ⟨rfl, rfl⟩ := Prod.mk.inj he
      rw [if_pos hp]
    · have lower : j < i := above i (List.mem_map_of_mem hi)
      rw [if_neg fun h => absurd (hj h) (not_le.2 lower), ih hw hi hmin]

theorem get_filterMap_key {n : Nat} {α β : Type} (f : Fin n → Option β) (t : Table n α) (i : Fin n) :
    Table.get (t.filterMap fun e => (f e.1).map fun y => (e.1, y)) i = (Table.get t i).bind fun _ => f i := by
  induction t with
  | nil => rfl
  | cons e t ih =>
    obtain ⟨j, x⟩ := e
    rw [Table.get]
    split_ifs with hj
    · subst hj
      cases hf : f j with
      | none => simpa [List.filterMap_cons, hf] using ih
      | some y => simp [List.filterMap_cons, hf, Table.get]
    · cases hf : f j with
      | none => simpa [List.filterMap_cons, hf] using ih
      | some y => simpa [List.filterMap_cons, hf, Table.get, hj] using ih

/-! #### The close checks (R35, R36) -/

theorem ownerUndefined_iff (r : Recipe) (d : TabDef) : ownerUndefined r d = true ↔ tabOffends r 1 d := by
  have undefined (b : Fin 64) : (!boardDefined r b) = true ↔ Table.get r.boards b = none := by simp [boardDefined]
  rw [ownerUndefined, Bool.or_eq_true, undefined]
  refine or_congr_right ?_
  cases hn : d.neighbour with
  | none => simp
  | some b => simpa using undefined b

theorem selfNeighbour_iff (r : Recipe) (d : TabDef) : selfNeighbour d = true ↔ tabOffends r 2 d := decide_eq_true_iff

theorem sharedRelease_iff (r : Recipe) (d : TabDef) : sharedRelease d = true ↔ tabOffends r 3 d := by
  simp [sharedRelease, tabOffends, Option.isSome_iff_ne_none]

theorem outside_iff (x y : Int) :
    (!(decide (500 ≤ x) && decide (x ≤ 59500) && decide (500 ≤ y) && decide (y ≤ 44500))) = true ↔
      ¬ (500 ≤ x ∧ x ≤ 59500 ∧ 500 ≤ y ∧ y ≤ 44500) := by
  rw [Bool.not_eq_true', ← Bool.not_eq_true]
  exact not_congr (by simp [and_assoc])

theorem endOutside_iff (r : Recipe) (d : TabDef) : endOutside d = true ↔ tabOffends r 6 d := by
  obtain ⟨owner, neighbour, x, y, dir, length, material, role⟩ := d
  cases dir <;> exact outside_iff _ _

/-- The tabs that a board owns and that are RELEASE. -/
theorem ownedReleases_eq (r : Recipe) (b : Fin 64) :
    ownedReleases r b = (r.tabs.filter fun e => e.2.owner = b ∧ e.2.role = .release).map Prod.fst := by
  simp only [ownedReleases, Bool.decide_and]

/-- The board owns one RELEASE tab, a frame tab (R36). -/
theorem releaseCount_eq_false_iff (r : Recipe) (b : Fin 64) :
    releaseCount r b = false ↔
      ∃ t d, ownedReleases r b = [t] ∧ Table.get r.tabs t = some d ∧ d.neighbour = none := by
  unfold releaseCount
  split
  · next t ht =>
    cases hd : Table.get r.tabs t with
    | none => simp [ht, hd]
    | some d => simp [ht, hd]
  · next hne => exact iff_of_false (by simp) fun ⟨t, _, ht, _⟩ => hne t ht

theorem releaseCount_iff {r : Recipe} (hw : Table.wf r.tabs = true) (b : Fin 64) :
    releaseCount r b = true ↔ boardOffends r 4 b := by
  rw [← not_iff_not, Bool.not_eq_true, releaseCount_eq_false_iff, ownedReleases_eq]
  simp only [boardOffends, not_or, not_not, not_exists, not_and]
  constructor
  · rintro ⟨t, d, ht, hd, hn⟩
    refine ⟨by simpa using congrArg List.length ht, fun e he ho hr => ?_⟩
    have same : e.1 = t := by
      have listed : e.1 ∈ [t] := ht ▸ List.mem_map_of_mem (List.mem_filter.2 ⟨he, by simp [ho, hr]⟩)
      simpa using listed
    rw [← same, (get_eq_some_iff hw).2 he] at hd
    exact Option.some.inj hd ▸ hn
  · rintro ⟨hlen, hn⟩
    obtain ⟨e, he⟩ := List.length_eq_one_iff.1 hlen
    have member : e ∈ r.tabs ∧ e.2.owner = b ∧ e.2.role = .release := by
      have listed := List.mem_filter.1 (he ▸ List.mem_singleton_self e)
      exact ⟨listed.1, of_decide_eq_true listed.2⟩
    exact ⟨e.1, e.2, by rw [he]; rfl, (get_eq_some_iff hw).2 member.1, hn e member.1 member.2.1 member.2.2⟩

theorem touchCount_iff (r : Recipe) (b : Fin 64) : decide (12 < touchCount r b) = true ↔ boardOffends r 5 b :=
  decide_eq_true_iff

/-- The close check of each code from 1 to 6. -/
def closeCheck (r : Recipe) : Nat → Option CloseFail
  | 1 => tabCheck r 1 (ownerUndefined r)
  | 2 => tabCheck r 2 selfNeighbour
  | 3 => tabCheck r 3 sharedRelease
  | 4 => boardCheck r 4 (releaseCount r)
  | 5 => boardCheck r 5 fun b => decide (12 < touchCount r b)
  | 6 => tabCheck r 6 endOutside
  | _ => none

theorem closeFail_eq {r : Recipe} (h : r.boards ≠ []) :
    closeFail r = (closeCheck r 1).orElse fun _ => (closeCheck r 2).orElse fun _ => (closeCheck r 3).orElse fun _ =>
      (closeCheck r 4).orElse fun _ => (closeCheck r 5).orElse fun _ => closeCheck r 6 :=
  if_neg (by simpa using h)

/-- The recipe fails the first check that fails (R35). -/
theorem closeFail_of_first {r : Recipe} (h : r.boards ≠ []) {c : Nat} {f : CloseFail}
    (before : ∀ c' < c, closeCheck r c' = none) (hf : closeCheck r c = some f) : closeFail r = some f := by
  rw [closeFail_eq h]
  match c with
  | 0 => exact absurd hf (by simp [closeCheck])
  | 1 => simp only [hf, Option.orElse_some]
  | 2 => simp only [before 1 (by decide), hf, Option.orElse_some, Option.orElse_none]
  | 3 => simp only [before 1 (by decide), before 2 (by decide), hf, Option.orElse_some, Option.orElse_none]
  | 4 =>
    simp only [before 1 (by decide), before 2 (by decide), before 3 (by decide), hf, Option.orElse_some,
      Option.orElse_none]
  | 5 =>
    simp only [before 1 (by decide), before 2 (by decide), before 3 (by decide), before 4 (by decide), hf,
      Option.orElse_some, Option.orElse_none]
  | 6 =>
    simp only [before 1 (by decide), before 2 (by decide), before 3 (by decide), before 4 (by decide),
      before 5 (by decide), hf, Option.orElse_none]
  | n + 7 => exact absurd hf (by simp [closeCheck])

/-- The recipe passes exactly where it defines a board and every check passes (R35). -/
theorem closeFail_eq_none_iff (r : Recipe) : closeFail r = none ↔ r.boards ≠ [] ∧ ∀ c, closeCheck r c = none := by
  by_cases h : r.boards = []
  · simp [closeFail, h]
  · constructor
    · intro hf
      refine ⟨h, fun c => ?_⟩
      induction c using Nat.strong_induction_on with
      | _ c ih =>
        by_contra hc
        obtain ⟨f, hc⟩ := Option.ne_none_iff_exists'.1 hc
        exact absurd (hf.symm.trans (closeFail_of_first h ih hc)) (by simp)
    · rintro ⟨-, hc⟩
      rw [closeFail_eq h]
      simp only [hc, Option.orElse_none]

section
variable {r : Recipe} (hb : Table.wf r.boards = true) (ht : Table.wf r.tabs = true)
include hb ht

theorem tabCheck_lowest {code : Byte} {offends : TabDef → Bool} {t : Fin 256} {d : TabDef} {c : Nat}
    (hiff : ∀ d, offends d = true ↔ tabOffends r c d) (hd : Table.get r.tabs t = some d) (ho : tabOffends r c d)
    (hmin : ∀ t' d', Table.get r.tabs t' = some d' → tabOffends r c d' → t ≤ t') :
    tabCheck r code offends = some { code := code, index := b8 t.val } := by
  rw [tabCheck, first_eq_some ((Table.wf_iff _).1 ht) ((get_eq_some_iff ht).1 hd) ((hiff d).2 ho)
    fun e he hp => hmin e.1 e.2 ((get_eq_some_iff ht).2 he) ((hiff e.2).1 hp)]
  rfl

theorem boardCheck_lowest {code : Byte} {offends : Fin 64 → Bool} {b : Fin 64} {c : Nat}
    (hiff : ∀ b, offends b = true ↔ boardOffends r c b) (hd : (Table.get r.boards b).isSome = true)
    (ho : boardOffends r c b) (hmin : ∀ b', (Table.get r.boards b').isSome = true → boardOffends r c b' → b ≤ b') :
    boardCheck r code offends = some { code := code, index := b8 b.val } := by
  obtain ⟨d, hd⟩ := Option.isSome_iff_exists.1 hd
  rw [boardCheck, first_eq_some ((Table.wf_iff _).1 hb) ((get_eq_some_iff hb).1 hd) ((hiff b).2 ho)
    fun e he hp => hmin e.1 (by simp [(get_eq_some_iff hb).2 he]) ((hiff e.1).1 hp)]
  rfl

/-- A tab that offends a check, the lowest, is what that check reports (R36). -/
theorem closeCheck_tab {c : Nat} {t : Fin 256} {d : TabDef} (hd : Table.get r.tabs t = some d) (ho : tabOffends r c d)
    (hmin : ∀ t' d', Table.get r.tabs t' = some d' → tabOffends r c d' → t ≤ t') :
    closeCheck r c = some { code := b8 c, index := b8 t.val } := by
  match c with
  | 1 => exact tabCheck_lowest hb ht (ownerUndefined_iff r) hd ho hmin
  | 2 => exact tabCheck_lowest hb ht (selfNeighbour_iff r) hd ho hmin
  | 3 => exact tabCheck_lowest hb ht (sharedRelease_iff r) hd ho hmin
  | 6 => exact tabCheck_lowest hb ht (endOutside_iff r) hd ho hmin
  | 0 | 4 | 5 | n + 7 => exact ho.elim

/-- A board that offends a check, the lowest, is what that check reports (R36). -/
theorem closeCheck_board {c : Nat} {b : Fin 64} (hd : (Table.get r.boards b).isSome = true) (ho : boardOffends r c b)
    (hmin : ∀ b', (Table.get r.boards b').isSome = true → boardOffends r c b' → b ≤ b') :
    closeCheck r c = some { code := b8 c, index := b8 b.val } := by
  match c with
  | 4 => exact boardCheck_lowest hb ht (releaseCount_iff ht) hd ho hmin
  | 5 => exact boardCheck_lowest hb ht (touchCount_iff r) hd ho hmin
  | 0 | 1 | 2 | 3 | 6 | n + 7 => exact ho.elim

theorem tabCheck_none_iff {code : Byte} {offends : TabDef → Bool} {c : Nat}
    (hiff : ∀ d, offends d = true ↔ tabOffends r c d) :
    tabCheck r code offends = none ↔ ∀ t d, Table.get r.tabs t = some d → ¬ tabOffends r c d := by
  rw [tabCheck, Option.map_eq_none_iff, first_none_iff]
  constructor
  · exact fun h t d hd ho => Bool.false_ne_true ((h (t, d) ((get_eq_some_iff ht).1 hd)).symm.trans ((hiff d).2 ho))
  · exact fun h e he => Bool.eq_false_iff.2 fun ho => h e.1 e.2 ((get_eq_some_iff ht).2 he) ((hiff e.2).1 ho)

theorem boardCheck_none_iff {code : Byte} {offends : Fin 64 → Bool} {c : Nat}
    (hiff : ∀ b, offends b = true ↔ boardOffends r c b) :
    boardCheck r code offends = none ↔ ∀ b, (Table.get r.boards b).isSome = true → ¬ boardOffends r c b := by
  rw [boardCheck, Option.map_eq_none_iff, first_none_iff]
  constructor
  · intro h b hd ho
    obtain ⟨d, hd⟩ := Option.isSome_iff_exists.1 hd
    exact Bool.false_ne_true ((h (b, d) ((get_eq_some_iff hb).1 hd)).symm.trans ((hiff b).2 ho))
  · exact fun h e he => Bool.eq_false_iff.2 fun ho =>
      h e.1 (by simp [(get_eq_some_iff hb).2 he]) ((hiff e.1).1 ho)

/-- A check passes exactly where no tab and no board offends it (R35). -/
theorem closeCheck_none_iff (c : Nat) :
    closeCheck r c = none ↔ (∀ t d, Table.get r.tabs t = some d → ¬ tabOffends r c d) ∧
      ∀ b, (Table.get r.boards b).isSome = true → ¬ boardOffends r c b := by
  match c with
  | 1 => exact (tabCheck_none_iff hb ht (ownerUndefined_iff r)).trans (and_iff_left fun _ _ h => h).symm
  | 2 => exact (tabCheck_none_iff hb ht (selfNeighbour_iff r)).trans (and_iff_left fun _ _ h => h).symm
  | 3 => exact (tabCheck_none_iff hb ht (sharedRelease_iff r)).trans (and_iff_left fun _ _ h => h).symm
  | 4 => exact (boardCheck_none_iff hb ht (releaseCount_iff ht)).trans (and_iff_right fun _ _ _ h => h).symm
  | 5 => exact (boardCheck_none_iff hb ht (touchCount_iff r)).trans (and_iff_right fun _ _ _ h => h).symm
  | 6 => exact (tabCheck_none_iff hb ht (endOutside_iff r)).trans (and_iff_left fun _ _ h => h).symm
  | 0 | n + 7 => exact iff_of_true rfl ⟨fun _ _ _ h => h, fun _ _ h => h⟩

/-! #### The board tab lists (R37) -/

theorem mem_touching_iff (b : Fin 64) (t : Fin 256) :
    t ∈ touching r b ↔ ∃ d, Table.get r.tabs t = some d ∧ (d.owner = b ∨ d.neighbour = some b) := by
  simp only [touching, List.mem_map, List.mem_filter, Bool.or_eq_true, decide_eq_true_eq]
  constructor
  · rintro ⟨e, ⟨he, hto⟩, rfl⟩
    exact ⟨e.2, (get_eq_some_iff ht).2 he, hto⟩
  · rintro ⟨d, hd, hto⟩
    exact ⟨(t, d), ⟨(get_eq_some_iff ht).1 hd, hto⟩, rfl⟩

theorem touching_ascends (b : Fin 64) : (touching r b).Pairwise (· < ·) :=
  ((Table.wf_iff _).1 ht).sublist (List.filter_sublist.map Prod.fst)

end

theorem length_touching_le (r : Recipe) (b : Fin 64) : (touching r b).length ≤ touchCount r b := by
  rw [touching, touchCount, List.length_map]
  induction r.tabs with
  | nil => simp
  | cons e l ih =>
    simp only [List.filter_cons, Bool.or_eq_true, decide_eq_true_eq] at ih ⊢
    by_cases ho : e.2.owner = b <;> by_cases hn : e.2.neighbour = some b <;> simp [ho, hn] <;> omega

/-- The list of a board that owns one RELEASE tab. -/
def listOf (r : Recipe) (b : Fin 64) : Option TabList :=
  match ownedReleases r b with
  | [t] => some { release := t, tabs := touching r b }
  | _ => none

theorem get_buildLists (r : Recipe) (b : Fin 64) :
    Table.get (buildLists r) b = (Table.get r.boards b).bind fun _ => listOf r b := by
  have built : buildLists r = r.boards.filterMap fun e => (listOf r e.1).map fun l => (e.1, l) := by
    refine List.filterMap_congr fun e _ => ?_
    unfold listOf
    rcases ownedReleases r e.1 with _ | ⟨t, _ | ⟨t', l⟩⟩ <;> rfl
  rw [built, get_filterMap_key]

/-! #### The close (R37, R57) -/

theorem configure_eq (s : State) :
    configure s = s.withCell (match s.cell.mode with
      | .unconfigured =>
        if latched s.faults then { s.cell with mode := .halted, ret := some .idle, idleTimer := none }
        else { s.cell with mode := .idle, ret := none }
      | .halted | .parked | .waking =>
        if s.cell.ret = some .unconfigured then { s.cell with ret := some .idle } else s.cell
      | .idle | .running | .holding | .held => s.cell) := by
  unfold configure
  cases hm : s.cell.mode with
  | unconfigured =>
    rw [enterMode, if_neg (by decide), haltCell]
    by_cases hl : latched s.faults = true
    · simp only [hl, if_true]
      exact if_pos hl
    · simp only [hl, Bool.false_eq_true, if_false]
      exact if_neg hl
  | halted | parked | waking =>
    dsimp only
    split_ifs <;> rfl
  | idle | running | holding | held => rfl

/-- Settles O14: the close by its checks, each by the lowest index that offends it. -/
theorem recipeCloseConfigures : Obligations.RecipeCloseConfigures := by
  refine ⟨fun tag k s hs hm hk hf => fun hu => exec_answered rfl hs ?passes hu,
    fun tag k f s hs hm hk hf hu => exec_answered rfl hs ?fails hu, fun r hb ht => ⟨fun he => ?empty,
      fun he holds => ?none, fun c t d he before hd ho hmin => ?tab, fun c b he before hd ho hmin => ?board,
      fun hf b => ⟨fun hb' => ?undefined, fun hd => ?listed⟩⟩⟩
  case passes =>
    rw [recipeClose, if_neg (by simp [hm]), u8_cons_zero, if_neg (by omega), hf]
    dsimp only
    rw [configure_eq]
    rfl
  case fails =>
    rw [recipeClose, if_neg (by simp [hm]), u8_cons_zero, if_neg (by omega), hf]
    rfl
  case empty => simp [closeFail, he, absentByte]
  case none => exact (closeFail_eq_none_iff r).2 ⟨he, fun c => (closeCheck_none_iff hb ht c).2 (holds c)⟩
  case tab =>
    exact closeFail_of_first he (fun c' hc => (closeCheck_none_iff hb ht c').2 (before c' hc))
      (closeCheck_tab hb ht hd ho hmin)
  case board =>
    exact closeFail_of_first he (fun c' hc => (closeCheck_none_iff hb ht c').2 (before c' hc))
      (closeCheck_board hb ht hd ho hmin)
  case undefined => rw [get_buildLists, hb']; rfl
  case listed =>
    obtain ⟨-, checks⟩ := (closeFail_eq_none_iff r).1 hf
    have released := ((closeCheck_none_iff hb ht 4).1 (checks 4)).2 b hd
    have few := ((closeCheck_none_iff hb ht 5).1 (checks 5)).2 b hd
    rw [← releaseCount_iff ht, Bool.not_eq_true, releaseCount_eq_false_iff] at released
    obtain ⟨t, d, one, hdef, -⟩ := released
    obtain ⟨x, hx⟩ := Option.isSome_iff_exists.1 hd
    have owned : t ∈ ownedReleases r b := by rw [one]; exact List.mem_singleton_self t
    rw [ownedReleases_eq] at owned
    obtain ⟨e, he, rfl⟩ := List.mem_map.1 owned
    obtain ⟨hmem, hown⟩ := List.mem_filter.1 he
    have same : e.2 = d := Option.some.inj (((get_eq_some_iff ht).2 hmem).symm.trans hdef)
    refine ⟨{ release := e.1, tabs := touching r b }, by rw [get_buildLists, hx]; simp [listOf, one],
      ⟨d, hdef, by simpa [same] using hown⟩, mem_touching_iff hb ht b, touching_ascends hb ht b,
      (length_touching_le r b).trans ?_⟩
    rw [← touchCount_iff, decide_eq_true_eq] at few
    omega

end Sys2Proof.Machine

/-! ### Verdicts, the next choice and its start (R69, R71 to R73, R78 to R81, R93, R94, R116) -/

namespace Sys2Proof.Machine

theorem modify_congr {n : Nat} {α : Type} {i : Fin n} {f g : α → α} {t : Table n α} {x : α}
    (h : Table.get t i = some x) (hfg : f x = g x) : Table.modify i f t = Table.modify i g t := by
  induction t with
  | nil => rfl
  | cons e t ih =>
    obtain ⟨j, y⟩ := e
    rw [Table.get] at h
    unfold Table.modify
    split_ifs at h ⊢ with hj
    · obtain rfl := Option.some.inj h
      rw [hfg]
    · rw [ih h]

/-! #### The verdict (R69, R78 to R81) -/

theorem lower_eq (r : BoardRun) :
    BoardRun.lower r =
      if BoardRun.live r then
        { r with
          remaining := r.remaining - 1
          state := match r.state with
            | .waiting | .precut => if r.remaining - 1 = 0 then .ready else .precut
            | st => st }
      else r := by
  unfold BoardRun.lower
  obtain ⟨state, disposition, remaining, regrip, nest, bay, slot⟩ := r
  cases state <;> rfl

theorem handleVerdict_severed {op : Operation} {s : State} (ho : op.orphan = false) (hn : tabNeeded s op.tab = true)
    (rz : Raiser) :
    handleVerdict rz op .severed s =
      if op.record.role = .release then freeBoard op.record.owner (setTab op.tab .severed s)
      else lowerCounts op.record (setTab op.tab .severed s) := by
  simp [handleVerdict, ho, hn]

theorem lowerCounts_eq (d : TabDef) (s : State) :
    lowerCounts d s = match d.neighbour with
      | none => modBoard d.owner BoardRun.lower s
      | some b => modBoard b BoardRun.lower (modBoard d.owner BoardRun.lower s) := by
  unfold lowerCounts TabDef.boards
  cases d.neighbour <;> rfl

/-- The move of a carrying picker, not under ALL_STOP: CARRY to its nest (R133). -/
theorem dueMove_carrying {n : Fin 3} {s : State} (hs : s.picker.state = .carrying) (hn : s.picker.nest = some n)
    (hall : s.faults.allStop = false) :
    dueMove s = (s.withPorts { s.ports with picker := strobed (.carry n) s.ports.picker }).withPicker
      { s.picker with moveTimer := some 3000, stalled := false } := by
  rw [dueMove, if_neg (by simp [hall]), presentMove_eq (o := .carry n) (by simp [moveOrder, hs, hn])]

theorem dueMove_seq (s : State) : (dueMove s).seq = s.seq := by
  unfold dueMove presentMove
  split
  · rfl
  · split <;> rfl

theorem dueMove_pickerState (s : State) : (dueMove s).picker.state = s.picker.state := by
  unfold dueMove presentMove
  split
  · rfl
  · split <;> rfl

theorem freeBoard_carried {b : Fin 64} {s : State} (hb : boardState s b = some .held) (hs : s.picker.state = .holding)
    (hp : s.picker.board = some b) :
    freeBoard b s = dueMove ((setBoard b .freed s).withPicker { s.picker with state := .carrying }) := by
  rw [freeBoard, if_pos hb]
  exact if_pos (by simp [setBoard, modBoard, hs, hp])

theorem boardState_setBoard {b : Fin 64} {st : BoardState} {s : State} {x : BoardState} (h : boardState s b = some x) :
    boardState (setBoard b st s) b = some st := by
  obtain ⟨r, hr, -⟩ := Option.map_eq_some_iff.1 h
  rw [boardState, setBoard, boardRun_modBoard, if_pos rfl, hr]
  rfl

theorem heldUnderStop_running {op : Operation} {s : State} (h : stopTaken s = false) : heldUnderStop s op = false := by
  simp [heldUnderStop, h]

theorem handleVerdict_uncut {op : Operation} {s : State} (ho : op.orphan = false) (hn : tabNeeded s op.tab = true)
    (hs : stopTaken s = false) (rz : Raiser) :
    handleVerdict rz op .uncut s = if 2 ≤ op.attempt then giveUp rz op.tab s else setTab op.tab .recutPending s := by
  simp [handleVerdict, ho, hn, heldUnderStop_running hs]

/-! #### The next choice (R71, R72) -/

theorem cuttingPermitted_iff (s : State) :
    cuttingPermitted s = true ↔ (s.cell.mode = .running ∨ s.cell.mode = .holding) ∧ s.faults.allStop = false ∧
      s.faults.cutStop = false ∧ s.spindle.state = .atSpeed ∧ s.router.bit = .known ∧ s.router.wear < s.router.life := by
  simp [cuttingPermitted, latched, and_assoc]

theorem chooseCut_eq {rz : Raiser} {s : State} (hr : s.router.state = .idle) (hp : cuttingPermitted s = true) :
    chooseCut rz s = match chosenTab s with
      | some t => startTab rz t s
      | none => s :=
  if_pos (by simp [hr, hp])

theorem first_append {n : Nat} {α : Type} {p : Fin n → α → Bool} {before after : Table n α} {i : Fin n} {x : α}
    (h : ∀ e ∈ before, p e.1 e.2 = false) (hx : p i x = true) :
    Table.first p (before ++ (i, x) :: after) = some i := by
  induction before with
  | nil => exact if_pos hx
  | cons e l ih =>
    obtain ⟨j, y⟩ := e
    obtain ⟨he, h⟩ := List.forall_mem_cons.1 h
    rw [List.cons_append, Table.first, if_neg (by simp [he]), ih h]

theorem awaitsHold_iff {s : State} {t : Fin 256} {d : TabDef} (h : Table.get s.recipe.tabs t = some d) :
    awaitsHold s t = true ↔ d.role = .release ∧ boardState s d.owner ≠ some .held := by
  simp [awaitsHold, h]

theorem chosenTab_pending {s : State} {t : Fin 256} (h : pendingTab s = some t) :
    chosenTab s = if awaitsHold s t then none else some t := by
  simp only [chosenTab, h]

theorem chosenTab_released {s : State} {t : Fin 256} (h : pendingTab s = none) (hr : heldRelease s = some t) :
    chosenTab s = some t := by
  simp only [chosenTab, h, hr]

theorem chosenTab_window {s : State} (h : pendingTab s = none) (hr : heldRelease s = none) :
    chosenTab s = if s.cell.mode = .running then windowCut s else none := by
  simp only [chosenTab, h, hr]

theorem mem_of_first {n : Nat} {α : Type} {p : Fin n → α → Bool} {t : Table n α} {i : Fin n}
    (h : Table.first p t = some i) : ∃ x, (i, x) ∈ t ∧ p i x = true := by
  induction t with
  | nil => simp [Table.first] at h
  | cons e t ih =>
    obtain ⟨j, y⟩ := e
    rw [Table.first] at h
    split_ifs at h with hp
    · obtain rfl := Option.some.inj h
      exact ⟨y, List.mem_cons_self, hp⟩
    · obtain ⟨x, hx, hp⟩ := ih h
      exact ⟨x, List.mem_cons_of_mem _ hx, hp⟩

theorem heldRelease_none {s : State}
    (h : ∀ e ∈ s.seq.boards, e.2.state = .held → ∀ t, releaseTab s e.1 = some t → tabState s t ≠ some .uncut) :
    heldRelease s = none := by
  unfold heldRelease
  split
  · rfl
  · next b hb =>
    obtain ⟨r, hr, held⟩ := mem_of_first hb
    split
    · rfl
    · next t ht => exact if_neg (h (b, r) hr (of_decide_eq_true held) t ht)

/-- A tab that the window offers: needed, UNCUT, no release tab (R72). -/
def offered (s : State) (t : Fin 256) (d : TabDef) : Prop :=
  Table.get s.recipe.tabs t = some d ∧ d.role ≠ .release ∧ tabState s t = some .uncut ∧
    ∃ b, (b = d.owner ∨ d.neighbour = some b) ∧ boardLive s b = true

theorem candidate_eq_some_iff {s : State} {t : Fin 256} {c : Fin 256 × Nat} :
    candidate s t = some c ↔ ∃ d, offered s t d ∧ c = (t, TabDef.rank d) := by
  have boards (d : TabDef) : (TabDef.boards d).any (boardLive s) = true ↔
      ∃ b, (b = d.owner ∨ d.neighbour = some b) ∧ boardLive s b = true := by
    simp [TabDef.boards]
  unfold candidate offered
  cases Table.get s.recipe.tabs t with
  | none => simp
  | some d =>
    simp only [Option.some.injEq, exists_eq_left', Option.ite_none_right_eq_some, Bool.and_eq_true, decide_eq_true_eq,
      boards]
    constructor
    · rintro ⟨⟨⟨role, uncut⟩, live⟩, rfl⟩
      exact ⟨d, ⟨rfl, role, uncut, live⟩, rfl⟩
    · rintro ⟨_, ⟨rfl, role, uncut, live⟩, rfl⟩
      exact ⟨⟨⟨role, uncut⟩, live⟩, rfl⟩

theorem boardOffer_none {s : State} {b : Fin 64} (h : ∀ t ∈ tabsOf s b, ∀ d, ¬ offered s t d) : boardOffer s b = none := by
  have empty : (tabsOf s b).filterMap (candidate s) = [] := by
    rw [List.filterMap_eq_nil_iff]
    refine fun t ht => Option.eq_none_iff_forall_ne_some.2 fun c hc => ?_
    obtain ⟨d, hd, -⟩ := candidate_eq_some_iff.1 hc
    exact h t ht d hd
  rw [boardOffer, empty]
  rfl

/-- One candidate goes before another: a lower rank, or the same and no higher index (R72). -/
def ranksBefore (a b : Fin 256 × Nat) : Prop := a.2 < b.2 ∨ (a.2 = b.2 ∧ a.1 ≤ b.1)

theorem lowestRank_spec {l : List (Fin 256 × Nat)} (h : l ≠ []) :
    ∃ m ∈ l, lowestRank l = some m ∧ ∀ c ∈ l, ranksBefore m c := by
  induction l with
  | nil => exact absurd rfl h
  | cons c rest ih =>
    by_cases hr : rest = []
    · subst hr
      exact ⟨c, by simp, rfl, by simp [ranksBefore]⟩
    · obtain ⟨m, hm, lowest, before⟩ := ih hr
      have test : (decide (c.2 < m.2) || (decide (c.2 = m.2) && decide (c.1 ≤ m.1))) = true ↔ ranksBefore c m := by
        simp [ranksBefore]
      simp only [lowestRank, lowest]
      by_cases hc : ranksBefore c m
      · refine ⟨c, by simp, if_pos (test.2 hc), List.forall_mem_cons.2 ⟨by simp [ranksBefore], fun x hx => ?_⟩⟩
        have := before x hx
        unfold ranksBefore at *
        omega
      · refine ⟨m, List.mem_cons_of_mem _ hm, if_neg (mt test.1 hc), List.forall_mem_cons.2 ⟨?_, before⟩⟩
        unfold ranksBefore at *
        omega

theorem boardOffer_lowest {s : State} {b : Fin 64} {t : Fin 256} {d : TabDef} (ht : t ∈ tabsOf s b) (hd : offered s t d)
    (hmin : ∀ t' ∈ tabsOf s b, ∀ d', offered s t' d' → ranksBefore (t, TabDef.rank d) (t', TabDef.rank d')) :
    boardOffer s b = some t := by
  have listed : (t, TabDef.rank d) ∈ (tabsOf s b).filterMap (candidate s) :=
    List.mem_filterMap.2 ⟨t, ht, candidate_eq_some_iff.2 ⟨d, hd, rfl⟩⟩
  obtain ⟨m, hm, lowest, before⟩ := lowestRank_spec (List.ne_nil_of_mem listed)
  obtain ⟨t', ht', hc⟩ := List.mem_filterMap.1 hm
  obtain ⟨d', hd', rfl⟩ := candidate_eq_some_iff.1 hc
  have same : t' = t := by
    have le := before _ listed
    have ge := hmin t' ht' d' hd'
    simp only [ranksBefore] at le ge
    omega
  rw [boardOffer, lowest, ← same]
  rfl

/-- The window's choice: the lowest of the first board that offers a tab (R72). -/
theorem windowCut_first {s : State} {b : Fin 64} {t : Fin 256} {before after : List (Fin 64)}
    (h : window s = before ++ b :: after) (hbefore : ∀ c ∈ before, boardOffer s c = none)
    (hb : boardOffer s b = some t) : windowCut s = some t := by
  rw [windowCut, h, List.findSome?_append, List.findSome?_eq_none_iff.2 hbefore, List.findSome?_cons, hb]
  rfl

theorem windowCut_none {s : State} (h : ∀ b ∈ window s, boardOffer s b = none) : windowCut s = none :=
  List.findSome?_eq_none_iff.2 h

/-! #### The start of the chosen operation (R73, R93, R94, R116) -/

theorem modTab_congr {t : Fin 256} {f g : TabRun → TabRun} {r : TabRun} {s : State} (hr : tabRun s t = some r)
    (h : f r = g r) : modTab t f s = modTab t g s := by
  unfold modTab
  rw [modify_congr hr h]

/-- The operation of a tab of the present panel. -/
def operationOf (t : Fin 256) (d : TabDef) (p : PanelRec) (n : Nat) : Operation :=
  { tab := t, record := d, attempt := n, dx := p.dx, dy := p.dy, orphan := false }

section
variable {t : Fin 256} {d : TabDef} {r : TabRun} {p : PanelRec} {s : State} (hd : Table.get s.recipe.tabs t = some d)
  (hr : tabRun s t = some r) (hp : cuttingRecord s = some p)
include hd hr hp

theorem startTab_cut (h : r.state = .uncut ∨ r.state = .recutPending) (rz : Raiser) :
    startTab rz t s = startCut (operationOf t d p (r.attempts + 1))
      (modTab t (fun _ => { state := .cutting, attempts := r.attempts + 1 }) s) := by
  have tabs : modTab t (fun r => { state := .cutting, attempts := r.attempts + 1 }) s =
      modTab t (fun _ => { state := .cutting, attempts := r.attempts + 1 }) s :=
    modTab_congr hr rfl
  simp only [startTab, hd, hr, hp, ← tabs]
  rcases h with h | h <;> simp only [h] <;> rfl

theorem startTab_verify (h : r.state = .verifyPending) (rz : Raiser) :
    startTab rz t s = verifyGo rz (verifySetup (operationOf t d p r.attempts)
      (modTab t (fun _ => { r with state := .verifying }) s)) := by
  have tabs : setTab t .verifying s = modTab t (fun _ => { r with state := .verifying }) s :=
    modTab_congr hr rfl
  simp only [startTab, hd, hr, hp, h, tabs]
  rfl

end

theorem startCut_clears {op : Operation} {s : State} (h : s.router.clearance = true) :
    startCut op s = (s.withPorts { s.ports with router := strobed .moveClear s.ports.router }).withRouter
      { s.router with state := .cut, operation := some op, presented := false, timer := some 2000 } := by
  rw [startCut]
  exact if_pos h

theorem startCut_presents {op : Operation} {s : State} (h : s.router.clearance = false) (hl : latched s.faults = false)
    (hs : s.spindle.state = .atSpeed) :
    startCut op s =
      let feed := effectiveFeed s.router.life s.router.wear s.router.baseFeed s.router.override op.attempt
      let order := Order.cut (op.record.x + op.dx) (op.record.y + op.dy) op.record.dir op.record.length feed
      (s.withPorts { s.ports with router := strobed order s.ports.router }).withRouter
        { s.router with
          state := .cut, operation := some op, presented := true, sag := 0
          timer := some (2 * ((100 * op.record.length + feed - 1) / feed) + 1000) } := by
  rw [startCut]
  refine (if_neg (by simp [h])).trans ((presentOrHoldCut_ready (by exact hl) (by exact hs)).trans rfl)

/-- A verify in mode OFF gives SEVERED at its start, with a snapshot of zeros (R116, R123). -/
theorem verifyGo_off {rz : Raiser} {op : Operation} {s : State} (hm : s.probe.settings.mode = .off) :
    verifyGo rz (verifySetup op s) = handleVerdict rz op .severed ((s.withProbe
      { s.probe with
        state := .idle, work := none, moveTimer := none
        snapshot := some
          { tab := op.tab, attempt := op.attempt, ne := 0, hits := 0, misses := 0, sampled := 0, verdict := .severed }
        }).withRouter { s.router with state := .idle, operation := none, presented := false, timer := none }) := by
  have mode : (verifyBegun op s).settings.mode = .off := hm
  simp only [verifyGo, verifySetup_work, mode]
  rfl

end Sys2Proof.Machine

/-! ### A tab given up (R68, R81, R82) -/

namespace Sys2Proof.Machine

/-! #### A raise with the router IDLE -/

/-- With no operation to interrupt, a raise is the record and, where it sets ALL_STOP anew, the stop of the units. -/
theorem raise_idle_cases {src : Source} {d : Detail} {s : State} (h : s.router.state = .idle) :
    raise src d s = raiseRecord src d s ∨
      raise src d s = haltStacker (stallMove (haltSpindle (raiseRecord src d s))) := by
  by_cases hs : (raiseRecord src d s).faults.allStop = true ∧ s.faults.allStop = false
  · right
    have idle : (haltStacker (stallMove (haltSpindle (raiseRecord src d s)))).router.state = .idle := by
      rw [mask_router_state (haltOrders_router _) rfl,
        raiseRecord_part (f := State.router) (fun _ _ => rfl) (fun _ _ => rfl) (fun _ _ => rfl), h]
    rw [raise_stops hs.1 hs.2]
    simp only [interruptRouter, idle]
  · exact .inl (raise_quiet hs)

/-- What a raise with the router IDLE leaves of the run and the queue. -/
theorem raise_idle_run {src : Source} {d : Detail} {s : State} (h : s.router.state = .idle) :
    (raise src d s).seq = s.seq ∧ (raise src d s).recipe = s.recipe ∧ (raise src d s).nests = s.nests := by
  let B : Parts := { everyPart with records := false, runOf := false, run := false, recipe := false, nests := false }
  have record : mask B (raiseRecord src d s) = mask B s := raiseRecord_mask _ _ _ rfl rfl rfl rfl rfl
  have e : mask B (raise src d s) = mask B s := by
    rcases raise_idle_cases (src := src) (d := d) h with e | e <;> rw [e]
    · exact record
    · exact (haltStacker_mask _ rfl rfl rfl rfl).trans
        ((stallMove_mask _ rfl rfl).trans ((haltSpindle_mask _ rfl rfl rfl).trans record))
  have seq := congrArg State.seq e
  exact ⟨seq, mask_recipe e rfl, mask_nests e rfl⟩

/-- Of the picker a raise with the router IDLE stops at most the move. -/
theorem raise_idle_picker {src : Source} {d : Detail} {s : State} (h : s.router.state = .idle) :
    ∃ m st, (raise src d s).picker = { s.picker with moveTimer := m, stalled := st } := by
  have record : (raiseRecord src d s).picker = s.picker :=
    raiseRecord_part (f := State.picker) (fun _ _ => rfl) (fun _ _ => rfl) (fun _ _ => rfl) ..
  let B : Parts := { everyPart with picker := false, gripTimes := false }
  rcases raise_idle_cases (src := src) (d := d) h with e | e <;> rw [e]
  · exact ⟨s.picker.moveTimer, s.picker.stalled, record⟩
  · have before : (haltSpindle (raiseRecord src d s)).picker = s.picker := by
      have e : mask B (haltSpindle (raiseRecord src d s)) = mask B (raiseRecord src d s) := haltSpindle_mask _ rfl rfl rfl
      have picker := congrArg State.picker e
      exact Eq.trans picker record
    have after (t : State) : (haltStacker t).picker = t.picker := by
      have e : mask B (haltStacker t) = mask B t := haltStacker_mask _ rfl rfl rfl rfl
      have picker := congrArg State.picker e
      exact picker
    rw [after, stallMove]
    split
    · exact ⟨none, true, by rw [← before]; rfl⟩
    · exact ⟨s.picker.moveTimer, s.picker.stalled, before⟩

/-! #### The boards that fail and the tabs they leave -/

theorem tabsOf_congr {s u : State} (h : u.recipe = s.recipe) (b : Fin 64) : tabsOf u b = tabsOf s b := by
  simp only [tabsOf, h]

theorem foldl_bypassTabs (l : List (Fin 64)) (s : State) :
    l.foldl (fun s b => bypassTabs b s) s = (l.flatMap (tabsOf s)).foldl bypassTab s := by
  induction l generalizing s with
  | nil => rfl
  | cons a l ih =>
    obtain ⟨T, e⟩ := foldl_bypassTab_seq (tabsOf s a) s
    have tabs : tabsOf (bypassTabs a s) = tabsOf s := by
      rw [bypassTabs, e]
      rfl
    rw [List.foldl_cons, ih, tabs, List.flatMap_cons, List.foldl_append]
    rfl

/-- The tab given up, its fault raised (R81). -/
def tabFaulted (t : Fin 256) (s : State) : State := raise Source.tabUncut (.tab t) (setTab t .faulted s)

/-- The live boards of a tab. -/
def liveBoards (d : TabDef) (s : State) : List (Fin 64) := (TabDef.boards d).filter (boardLive s)

/-- The live boards failed and tallied (R51, R81). -/
def boardsFailed (d : TabDef) (s : State) : State :=
  s.withSeq { s.seq with
    boards := endBoards .failed (liveBoards d s) s.seq.boards
    records := s.seq.records.map fun p =>
      if p.state = .cutting then { p with failed := p.failed + (liveBoards d s).length } else p }

/-- The tabs of the failed boards BYPASSED where they have no live board left (R68). -/
def failedBypassed (d : TabDef) (s : State) : State :=
  ((liveBoards d s).flatMap (tabsOf s)).foldl bypassTab (boardsFailed d s)

theorem giveUp_eq {t : Fin 256} {d : TabDef} {s : State} (hd : Table.get (tabFaulted t s).recipe.tabs t = some d) :
    giveUp raise t s =
      (liveBoards d (tabFaulted t s)).foldl (fun s b => letGo b s) (failedBypassed d (tabFaulted t s)) := by
  have unfolded : giveUp raise t s =
      (liveBoards d (tabFaulted t s)).foldl (fun s b => letGo b s)
        ((liveBoards d (tabFaulted t s)).foldl (fun s b => bypassTabs b s)
          ((liveBoards d (tabFaulted t s)).foldl (fun s b => boardFailed b s) (tabFaulted t s))) := by
    unfold giveUp
    rw [← tabFaulted]
    simp only [hd]
    rfl
  rw [unfolded, foldl_boardFailed, foldl_bypassTabs]
  rfl

end Sys2Proof.Machine

/-! ### What a tab given up leaves (R68, R81, R82, R139) -/

namespace Sys2Proof.Machine

/-- The live boards let go (R139). -/
def failedReleased (d : TabDef) (s : State) : State :=
  (liveBoards d s).foldl (fun s b => letGo b s) (failedBypassed d s)

section
variable {t : Fin 256} {d : TabDef} {s : State} (hr : s.router.state = .idle)
include hr

theorem tabFaulted_run : (tabFaulted t s).seq = (setTab t .faulted s).seq ∧ (tabFaulted t s).recipe = s.recipe ∧
    (tabFaulted t s).nests = s.nests :=
  raise_idle_run (by exact hr)

theorem boardRun_tabFaulted (b : Fin 64) : boardRun (tabFaulted t s) b = boardRun s b := by
  rw [boardRun, (tabFaulted_run hr).1]
  rfl

theorem boardLive_tabFaulted (b : Fin 64) : boardLive (tabFaulted t s) b = boardLive s b := by
  simp only [boardLive, boardRun_tabFaulted hr]

theorem tabRun_tabFaulted (i : Fin 256) : tabRun (tabFaulted t s) i =
    if i = t then (tabRun s t).map fun r => { r with state := .faulted } else tabRun s i := by
  rw [← tabRun_setTab, tabRun, (tabFaulted_run hr).1]
  rfl

theorem tabsOf_tabFaulted (b : Fin 64) : tabsOf (tabFaulted t s) b = tabsOf s b :=
  tabsOf_congr (tabFaulted_run hr).2.1 b

theorem giveUp_idle (hd : Table.get s.recipe.tabs t = some d) :
    giveUp raise t s = failedReleased d (tabFaulted t s) := by
  refine giveUp_eq ?_
  rw [(tabFaulted_run hr).2.1, hd]

theorem liveBoards_tabFaulted : liveBoards d (tabFaulted t s) = liveBoards d s := by
  simp only [liveBoards, funext (boardLive_tabFaulted (t := t) hr)]

end

theorem mem_liveBoards_iff {d : TabDef} {s : State} {b : Fin 64} :
    b ∈ liveBoards d s ↔ (b = d.owner ∨ d.neighbour = some b) ∧ boardLive s b = true := by
  simp [liveBoards, TabDef.boards]

theorem failedBypassed_eq (d : TabDef) (s : State) :
    ∃ T, failedBypassed d s = s.withSeq { s.seq with
      tabs := T
      boards := endBoards .failed (liveBoards d s) s.seq.boards
      records := s.seq.records.map fun p =>
        if p.state = .cutting then { p with failed := p.failed + (liveBoards d s).length } else p } := by
  obtain ⟨T, e⟩ := foldl_bypassTab_seq ((liveBoards d s).flatMap (tabsOf s)) (boardsFailed d s)
  exact ⟨T, e⟩

theorem failedReleased_seq (d : TabDef) (s : State) :
    nestsGiven (liveBoards d s) (failedBypassed d s).seq (failedReleased d s).seq :=
  foldl_letGo_seq (fun _ h => h) _

theorem failedReleased_eq (d : TabDef) (s : State) :
    ∃ q n p o r, failedReleased d s = unitsReplaced q n p o r s := by
  obtain ⟨T, e⟩ := failedBypassed_eq d s
  have bypassed (q : Sequencer) (n : List NestEntry) (p : Picker) (o : Outputs) (r : Ports) :
      unitsReplaced q n p o r (failedBypassed d s) = unitsReplaced q n p o r s := by
    rw [e]
    rfl
  exact ⟨_, _, _, _, _, (foldl_letGo_eq ..).trans (bypassed ..)⟩

theorem recipe_failedReleased (d : TabDef) (s : State) : (failedReleased d s).recipe = s.recipe := by
  obtain ⟨q, n, p, o, r, e⟩ := failedReleased_eq d s
  rw [e]
  rfl

theorem boardRun_failedBypassed (d : TabDef) (s : State) (b : Fin 64) :
    boardRun (failedBypassed d s) b =
      if b ∈ liveBoards d s then (boardRun s b).map fun r => { r with state := .failed } else boardRun s b := by
  obtain ⟨T, e⟩ := failedBypassed_eq d s
  rw [e]
  exact get_endBoards ..

theorem boardRun_failed {d : TabDef} {s : State} {b : Fin 64} {run : BoardRun} (h : boardRun s b = some run)
    (hb : b ∈ liveBoards d s) :
    ∃ run', boardRun (failedReleased d s) b = some run' ∧ run'.state = .failed ∧ run'.remaining = run.remaining := by
  have states := (failedReleased_seq d s).states b
  have before : Table.get (failedBypassed d s).seq.boards b = some { run with state := .failed } := by
    have e := boardRun_failedBypassed d s b
    rwa [if_pos hb, h] at e
  rw [before] at states
  obtain ⟨run', hrun, same⟩ := Option.map_eq_some_iff.1 states
  injection same with state same
  injection same with _ remaining
  exact ⟨run', hrun, state, remaining⟩

theorem boardRun_notFailed {d : TabDef} {s : State} {b : Fin 64} (hb : b ∉ liveBoards d s) :
    boardRun (failedReleased d s) b = boardRun s b := by
  have kept : boardRun (failedReleased d s) b = boardRun (failedBypassed d s) b := (failedReleased_seq d s).others b hb
  rw [kept, boardRun_failedBypassed, if_neg hb]

theorem records_failedReleased (d : TabDef) (s : State) :
    (failedReleased d s).seq.records = s.seq.records.map fun p =>
      if p.state = .cutting then { p with failed := p.failed + (liveBoards d s).length } else p := by
  obtain ⟨T, e⟩ := failedBypassed_eq d s
  rw [(failedReleased_seq d s).same, e]
  rfl

theorem tabNeeded_failedReleased (d : TabDef) (s : State) (i : Fin 256) :
    tabNeeded (failedReleased d s) i = tabNeeded (boardsFailed d s) i := by
  obtain ⟨T, e⟩ := foldl_bypassTab_seq ((liveBoards d s).flatMap (tabsOf s)) (boardsFailed d s)
  have bypassed : failedBypassed d s = (boardsFailed d s).withSeq { (boardsFailed d s).seq with tabs := T } := e
  rw [tabNeeded_congr (s := failedBypassed d s) ?_ (boardLive_given (failedReleased_seq d s)), bypassed,
    tabNeeded_withSeq_tabs]
  rw [recipe_failedReleased, bypassed]
  rfl

theorem tabRun_failedReleased (d : TabDef) (s : State) (i : Fin 256) :
    tabRun (failedReleased d s) i =
      if ∃ b ∈ liveBoards d s, i ∈ tabsOf s b then
        (tabRun s i).map (tabBypassed (tabNeeded (failedReleased d s) i))
      else tabRun s i := by
  have tabs : tabRun (failedReleased d s) i = tabRun (failedBypassed d s) i := by
    rw [tabRun, (failedReleased_seq d s).same]
    rfl
  rw [tabs, tabNeeded_failedReleased, failedBypassed, tabRun_foldl_bypassTab]
  simp only [List.mem_flatMap]
  rfl

/-- Before the let-go the picker's blocks are as they were. -/
theorem failedBypassed_units (d : TabDef) (s : State) :
    (failedBypassed d s).picker = s.picker ∧ (failedBypassed d s).nests = s.nests ∧
      (failedBypassed d s).outputs = s.outputs := by
  obtain ⟨T, e⟩ := failedBypassed_eq d s
  rw [e]
  exact ⟨rfl, rfl, rfl⟩

/-! #### The picker of a tab given up -/

section
variable {d : TabDef} {s : State} {b : Fin 64} (hb : b ∈ liveBoards d s) (hp : s.picker.board = some b)
include hb hp

theorem failedReleased_holding (hs : s.picker.state = .gripping ∨ s.picker.state = .holding) :
    (failedReleased d s).picker.state = .returning ∧ (failedReleased d s).picker.board = none ∧
      (failedReleased d s).outputs.vacuumOn = false ∧
      ∀ e, e ∈ (failedReleased d s).nests ↔ e ∈ s.nests ∧ ¬ (e.board = b ∧ e.state = .reserved) := by
  obtain ⟨picker, nests, outputs⟩ := failedBypassed_units d s
  rw [← picker] at hp hs
  have e : failedReleased d s = homeward ((releaseReservation b (failedBypassed d s)).withOutputs
      { (failedBypassed d s).outputs with vacuumOn := false }) := foldl_letGo_holding hb hp hs
  rw [e, homeward_outputs, homeward_nests]
  refine ⟨(homeward_picker _).1, (homeward_picker _).2, rfl, fun x => ?_⟩
  rw [← nests]
  exact mem_releaseReservation

theorem failedReleased_approach (hs : s.picker.state = .approach) (hw : s.picker.withdrawn = false)
    (hst : s.picker.stalled = false) :
    (failedReleased d s).picker = { s.picker with withdrawn := true, nest := none } ∧
      ∀ e, e ∈ (failedReleased d s).nests ↔ e ∈ s.nests ∧ ¬ (e.board = b ∧ e.state = .reserved) := by
  obtain ⟨picker, nests, outputs⟩ := failedBypassed_units d s
  have e : failedReleased d s = (releaseReservation b (failedBypassed d s)).withPicker
      { (failedBypassed d s).picker with withdrawn := true, nest := none } :=
    foldl_letGo_approach hb (by rw [picker, hp]) (by rw [picker, hs]) (by rw [picker, hw]) (by rw [picker, hst])
  rw [e, ← nests, ← picker]
  exact ⟨rfl, fun x => mem_releaseReservation⟩

end

theorem failedReleased_apart {d : TabDef} {s : State} (h : ∀ b ∈ liveBoards d s, s.picker.board ≠ some b) :
    failedReleased d s = failedBypassed d s :=
  foldl_letGo_others (by rwa [(failedBypassed_units d s).1])

end Sys2Proof.Machine

/-! ### Verdicts and the next cut, settled -/

namespace Sys2Proof.Machine

theorem pendingTab_none {s : State}
    (h : ∀ e ∈ s.seq.tabs, ¬ (e.2.state = .recutPending ∨ e.2.state = .verifyPending)) : pendingTab s = none :=
  first_eq_none fun e he => by simpa using h e he

theorem pendingTab_first {s : State} {t : Fin 256} {r : TabRun} {before after : Table 256 TabRun}
    (h : s.seq.tabs = before ++ (t, r) :: after)
    (hbefore : ∀ e ∈ before, ¬ (e.2.state = .recutPending ∨ e.2.state = .verifyPending))
    (hr : r.state = .recutPending ∨ r.state = .verifyPending) : pendingTab s = some t := by
  rw [pendingTab, h]
  exact first_append (fun e he => by simpa using hbefore e he) (by simpa using hr)

theorem heldRelease_first {s : State} {b : Fin 64} {run : BoardRun} {t : Fin 256} {before after : Table 64 BoardRun}
    (h : s.seq.boards = before ++ (b, run) :: after) (hbefore : ∀ e ∈ before, e.2.state ≠ .held)
    (hrun : run.state = .held) (ht : releaseTab s b = some t) (hu : tabState s t = some .uncut) :
    heldRelease s = some t := by
  have held : Table.first (fun _ r => decide (r.state = .held)) s.seq.boards = some b := by
    rw [h]
    exact first_append (fun e he => by simpa using hbefore e he) (by simpa using hrun)
  simp only [heldRelease, held, ht]
  exact if_pos hu

/-- The held board of a severed release tab is free, and the picker carries it (R79, R133). -/
theorem freeBoard_carries {b : Fin 64} {s : State} (hb : boardState s b = some .held) (hs : s.picker.state = .holding)
    (hp : s.picker.board = some b) (hall : s.faults.allStop = false) :
    boardState (freeBoard b s) b = some .freed ∧ (freeBoard b s).picker.state = .carrying ∧
      ∀ n, s.picker.nest = some n →
        (freeBoard b s).ports.picker = strobed (.carry n) s.ports.picker ∧
          (freeBoard b s).picker.moveTimer = some 3000 := by
  let t : State := (setBoard b .freed s).withPicker { s.picker with state := .carrying }
  have carries : freeBoard b s = dueMove t := freeBoard_carried hb hs hp
  have freed : boardState t b = some .freed := boardState_setBoard (st := .freed) hb
  rw [carries]
  refine ⟨?_, dueMove_pickerState t, fun n hn => ?_⟩
  · rw [boardState, boardRun, dueMove_seq]
    exact freed
  · rw [dueMove_carrying (s := t) rfl hn hall]
    exact ⟨rfl, rfl⟩

theorem tabRun_failedReleased_some {d : TabDef} {s : State} {i : Fin 256} {run : TabRun} (h : tabRun s i = some run) :
    tabRun (failedReleased d s) i =
      if (∃ b ∈ liveBoards d s, i ∈ tabsOf s b) ∧ tabNeeded (failedReleased d s) i = false ∧
          (run.state = .uncut ∨ run.state = .recutPending ∨ run.state = .verifyPending) then
        some { run with state := .bypassed }
      else some run := by
  rw [tabRun_failedReleased, h, Option.map_some, tabBypassed]
  simp only [Bool.and_eq_true, Bool.not_eq_true', waits_iff, and_comm (b := tabNeeded _ _ = false)]
  split_ifs <;> simp_all

/-- Settles O31. -/
theorem verdictIsHandled : Obligations.VerdictIsHandled := by
  refine ⟨?verdict, ?gaveUp, ?choice, ?chosen, ?started, ?off⟩
  case verdict =>
    rintro op d s ho hn rfl tab lower
    have lowered : lower = BoardRun.lower := (funext lower_eq).symm
    refine ⟨fun hrole => ?_, fun hrole hheld hs hb hall => ?_, fun hs ha => ?_, fun hs ha => ?_⟩
    · rw [handleVerdict_severed ho hn, if_neg hrole, lowerCounts_eq, lowered]
      rfl
    · have held : boardState (setTab op.tab .severed s) op.record.owner = some .held := hheld
      rw [handleVerdict_severed ho hn, if_pos hrole]
      exact ⟨_, rfl, freeBoard_carries held hs hb hall⟩
    · rw [handleVerdict_uncut ho hn hs, if_neg (by omega)]
      rfl
    · rw [handleVerdict_uncut ho hn hs, if_pos ha]
  case gaveUp =>
    intro t d s hd _ hr marked dead u
    have gone : u = failedReleased d marked := giveUp_idle hr hd
    have live : liveBoards d marked = liveBoards d s := liveBoards_tabFaulted hr
    have failed (b : Fin 64) : b ∈ liveBoards d marked ↔ dead b := by
      rw [live]
      exact mem_liveBoards_iff
    obtain ⟨seq, nests⟩ : marked.seq = (setTab t .faulted s).seq ∧ marked.nests = s.nests :=
      (tabFaulted_run hr).imp_right And.right
    obtain ⟨m, st, picker⟩ : ∃ m st, marked.picker = { s.picker with moveTimer := m, stalled := st } :=
      raise_idle_picker (by exact hr)
    refine ⟨fun b run hb => ⟨fun h => ?_, fun h => ?_⟩, fun run ht => ?_, fun t' run hne ht => ?_, ?_, ?_, ?_,
      fun b h hb => ⟨fun hs => ?_, fun hs hw hst => ?_⟩, fun h => ?_⟩
    · rw [gone]
      exact boardRun_failed ((boardRun_tabFaulted hr b).trans hb) ((failed b).2 h)
    · rw [gone, boardRun_notFailed (mt (failed b).1 h)]
      exact (boardRun_tabFaulted hr b).trans hb
    · have faulted : tabRun marked t = some { run with state := .faulted } :=
        (tabRun_tabFaulted hr t).trans (by rw [if_pos rfl, ht]; rfl)
      rw [gone, tabRun_failedReleased, faulted]
      exact ite_self _
    · have before : tabRun marked t' = some run := (tabRun_tabFaulted hr t').trans (by rw [if_neg hne, ht])
      have others (b : Fin 64) : b ∈ liveBoards d marked ∧ t' ∈ tabsOf marked b ↔ dead b ∧ t' ∈ tabsOf s b :=
        and_congr (failed b) (iff_of_eq (congrArg (t' ∈ ·) (tabsOf_tabFaulted hr b)))
      rw [gone, tabRun_failedReleased_some before]
      simp only [others]
      exact ⟨fun h => if_pos h, fun h => if_neg h⟩
    · rw [gone, records_failedReleased, live, seq]
      rfl
    · obtain ⟨q, n, p, o, r, e⟩ := failedReleased_eq d marked
      rw [gone, e]
      rfl
    · obtain ⟨q, n, p, o, r, e⟩ := failedReleased_eq d marked
      rw [gone, e]
      rfl
    · rw [gone, ← nests]
      exact failedReleased_holding ((failed b).2 h) (by rw [picker]; exact hb) (by rw [picker]; exact hs)
    · rw [gone, ← nests]
      exact failedReleased_approach ((failed b).2 h) (by rw [picker]; exact hb) (by rw [picker]; exact hs)
        (by rw [picker]; exact hw) hst
    · have apart : failedReleased d marked = failedBypassed d marked :=
        failedReleased_apart fun b hb => by rw [picker]; exact h b ((failed b).1 hb)
      obtain ⟨picker', nests', -⟩ := failedBypassed_units d marked
      rw [gone, apart]
      exact ⟨picker', nests'.trans nests⟩
  case choice =>
    intro s permitted
    have permits : cuttingPermitted s = true ↔ permitted := cuttingPermitted_iff s
    refine ⟨fun h => if_neg fun hc => ?_, fun hr hp => ?_⟩
    · rw [Bool.and_eq_true, decide_eq_true_eq] at hc
      exact h.elim (fun h => h hc.1) fun h => h (permits.1 hc.2)
    · rw [chooseCut_eq hr (permits.2 hp)]
      exact ⟨fun h => by simp only [h], fun t h => by simp only [h]⟩
  case chosen =>
    intro s pends
    refine ⟨fun t d r before after h hb hr hd => ?_, fun hnone => ⟨fun b run t before after h hb hrun ht hu => ?_,
      fun hheld => ?_⟩⟩
    · rw [chosenTab_pending (pendingTab_first h hb hr)]
      refine ⟨fun h1 h2 => if_pos ((awaitsHold_iff hd).2 ⟨h1, h2⟩), fun h => if_neg fun hw => ?_⟩
      obtain ⟨h1, h2⟩ := (awaitsHold_iff hd).1 hw
      exact h.elim (fun h => h h1) h2
    · exact chosenTab_released (pendingTab_none hnone) (heldRelease_first h hb hrun ht hu)
    · rw [chosenTab_window (pendingTab_none hnone) (heldRelease_none hheld)]
      refine ⟨fun h => if_neg h, fun h => ?_, fun b t d before after hm h hb ht hd hmin => ?_⟩
      · rw [windowCut_none fun b hb => boardOffer_none (h b hb)]
        exact ite_self _
      · rw [if_pos hm]
        exact windowCut_first h (fun c hc => boardOffer_none (hb c hc)) (boardOffer_lowest ht hd hmin)
  case started =>
    intro t d r p s hd hr hp op as order
    refine ⟨fun h => ⟨fun hc => ?_, fun hc hl hs => ?_⟩, fun h hm => ⟨fun hc => ?_, fun hc => ?_⟩⟩
    · rw [startTab_cut hd hr hp h, startCut_clears (by exact hc)]
      rfl
    · rw [startTab_cut hd hr hp h, startCut_presents (by exact hc) (by exact hl) (by exact hs)]
      rfl
    · rw [startTab_verify hd hr hp h, verifyGo_moves (by exact hm)]
      exact (if_pos (by exact hc)).trans rfl
    · rw [startTab_verify hd hr hp h, verifyGo_point (by exact hm) (by exact hc)]
      rfl
  case off =>
    intro op t d r p s hm verdict verifying
    refine ⟨fun hd hr hp h => ?_, fun ho => ?_⟩
    · rw [startTab_verify hd hr hp h, verifyGo_off (by exact hm)]
      have e : modTab t (fun _ => { r with state := .verifying }) s = verifying t s := modTab_congr hr rfl
      rw [e]
      rfl
    · rw [completeCut, ho]
      exact congrArg (addWear raise (cutWear op.record)) (verifyGo_off (by exact hm))

end Sys2Proof.Machine
